-- ==== Sys2Proof/Word.lean ====
section
/-!
DEFINITION. The plain words of the model: bytes of the line link and of the reader station, and numbered places
counted from 1 as the manual counts bins, pockets and pages.
-/

namespace Sys2Proof

/-- One byte, as a notice body and the reader station carry it (10.10). -/
abbrev Byte := BitVec 8

/-- The element numbered `i`, counted from 1; nothing is numbered 0. -/
def nth1 {α : Type} (l : List α) : Nat → Option α
  | 0 => none
  | i + 1 => l[i]?

/-- The list with the element numbered `i`, counted from 1, replaced; a number outside the list changes nothing. -/
def set1 {α : Type} (l : List α) (i : Nat) (a : α) : List α :=
  match i with
  | 0 => l
  | k + 1 => l.set k a

/-- The list with `f` applied to the element numbered `i`, counted from 1. -/
def modify1 {α : Type} (l : List α) (i : Nat) (f : α → α) : List α :=
  match nth1 l i with
  | none => l
  | some a => set1 l i (f a)

/-- The numbers 1..n. -/
def numbers (n : Nat) : List Nat := (List.range n).map (· + 1)

end Sys2Proof
end

