-- ==== Sys2Proof/Config.lean ====
section
/-!
DEFINITION. The sizes and limits the manual fixes for every CB-16. Nothing here is a choice of the model: each constant
cites the rule that states it. The manual leaves no result value undefined, so there is no free value.
-/

namespace Sys2Proof.Config

/-- R11: the approach queue holds at most 3 entries. -/
def approachMax : Nat := 3
/-- R18: the reject tray holds up to 50 sheets. -/
def trayMax : Nat := 50
/-- R20: at most 32 job records. -/
def jobsMax : Nat := 32
/-- R29: at most 24 set records. -/
def setsMax : Nat := 24
/-- R58: the inlet has two places. -/
def inletMax : Nat := 2
/-- R71: at most 128 foreign entries. -/
def foreignMax : Nat := 128
/-- R86, R88: a HELD lists 1 to 4 sets. -/
def heldMax : Nat := 4
/-- R101: the return feeder takes up to 64 sheets. -/
def feederMax : Nat := 64
/-- R105: the watch saturates at 15. -/
def watchMax : Nat := 15
/-- R111: a REPRINT lists at most 8 pages. -/
def reprintPagesMax : Nat := 8
/-- R123: a set of more than 50 pages is not stapled. -/
def stapleMaxPages : Nat := 50
/-- R127: a fresh cartridge holds 5000 staples. -/
def cartridgeStaples : Nat := 5000
/-- R127: the head status is LOW at 100 staples or below. -/
def stapleLow : Nat := 100
/-- R129: the DONE list never holds more than 8 entries. -/
def doneMax : Nat := 8
/-- R134: FULL is set at 180 mm or above. -/
def fullSet : Nat := 180
/-- R134: FULL is cleared at 160 mm or below. -/
def fullClear : Nat := 160
/-- R134: BLOCKED is set at 220 mm or above. -/
def blockedSet : Nat := 220
/-- R134: BLOCKED is cleared at 210 mm or below. -/
def blockedClear : Nat := 210
/-- R134: EMPTY is set at 5 mm or below and cleared above it. -/
def emptySet : Nat := 5
/-- R138: the allowance of a stapled set, in load units. -/
def stapleAllowance : Nat := 3
/-- R140: a pocket admits up to 1800 load units. -/
def loadMax : Nat := 1800
/-- R148: a notice is dropped at its 8th spoiled attempt. -/
def attemptsMax : Nat := 8
/-- R151: the urgent queue holds at most 4 notices. -/
def urgentMax : Nat := 4
/-- R151: the routine queue holds at most 12 notices. -/
def routineMax : Nat := 12
/-- The top value of a two-byte counter (R7, R10, R12, R13 and the other counter rules). -/
def counterTop : Nat := 65535
/-- The top value of a one-byte counter (R67, R132, R159, R163). -/
def byteCounterTop : Nat := 255

end Sys2Proof.Config
end

