-- ==== Sys2Proof/Syntax.lean ====
section
/-!
DEFINITION. The commands of the CB-16: one constructor of `Instr` for each row of spec/opcode_table.json, with the operands
the rule of the row gives it. Notices heard carry the frame's class, origin and body as the line delivers them; their
fields are read by Machine/Operands.lean from the layouts of 10.10.
-/

namespace Sys2Proof

/-- The status every completion of the rack, carriage, head and jaws carries (04 section 4.4, 08). -/
inductive Status where
  | ok
  | fault
  deriving DecidableEq, Repr

/-- The two jaws of R119. -/
inductive JawName where
  | a
  | b
  deriving DecidableEq, Repr

/-- A place a "place cleared" report may name (R34, R58, R68, R119), and a place with a presence sensor (R161). -/
inductive Place where
  | bin (b : Nat)
  | rackPocket (k : Nat)
  | inlet
  | jaw (j : JawName)
  deriving DecidableEq, Repr

/-- What a valid frame brings beside its kind (10.10.1): class, origin and body. Its length field is the body's length, and
its check agreed, or it would have been spoiled (R146). -/
structure Frame where
  cls : BitVec 2
  origin : BitVec 4
  body : List Byte
  deriving DecidableEq, Repr

/-- The nine strap pins as they are read (11.1). -/
structure Straps where
  station : BitVec 4
  bins : BitVec 2
  rack : BitVec 1
  delivery : BitVec 1
  parity : BitVec 1
  deriving DecidableEq, Repr

/-- What the presence sensors and the feeder's sheet-count sensor would report if they were read now (R161, R103): the
places whose sensor finds a sheet or a set, and the sheet count. -/
structure Sensors where
  found : List Place
  feeder : Byte
  deriving DecidableEq, Repr

/-- The commands, one for each row of spec/opcode_table.json. -/
inductive Instr where
  -- reader station (chapter 1)
  | readerSample (carrier sheet : Bool)
  | carrierNumberReport (n : Byte)
  | markRead (bits : BitVec 40)
  -- gate (chapter 1)
  | gateArrival (n : Byte)
  | diverted
  | divertFailed
  | filled
  | fillMissed
  | gateLimitExpiry
  | rejectEmptied
  -- rack (chapter 4)
  | stored (st : Status)
  | released (st : Status)
  | rackLimitExpiry
  | rackRequestIssue
  -- bins and cleared places (chapters 3, 4, 8)
  | binJammed (b : Nat)
  | placeCleared (p : Place)
  -- carriage (chapter 8)
  | carriageStart
  | transferred (st : Status)
  | unloaded (st : Status)
  | carriageLimitExpiry
  -- staple head (chapter 8)
  | stapleIssue
  | stapled (st : Status)
  | misfire (st : Status) (formed : Nat)
  | jam (st : Status) (formed : Nat)
  | headLimitExpiry
  | headCleared
  | cartridgeInserted
  | cartridgeEmpty
  -- delivery (chapter 9)
  | deliverIssue (p : Nat)
  | delivered (j : JawName) (st : Status) (p : Nat)
  | deliveryLimitExpiry (j : JawName)
  | heightSample (p : Nat) (mm : Byte)
  -- claims (chapter 5)
  | claimDeadlineExpiry (job num : Nat)
  -- the line (chapter 10)
  | offer (contender : Option (BitVec 2 × BitVec 4))
  | attemptSpoiled
  | badFrameCheck (kind : BitVec 6) (f : Frame) (check : BitVec 16)
  -- notices heard
  | claim (f : Frame)
  | held (f : Frame)
  | yield (f : Frame)
  | done (f : Frame)
  | job (f : Frame)
  | jobclose (f : Frame)
  | hello (f : Frame)
  | gone (f : Frame)
  | state (f : Frame)
  | reprint (f : Frame)
  | report (f : Frame)
  | unknownKindNotice (kind : BitVec 6) (f : Frame)
  | setactFinish (f : Frame)
  | setactYield (f : Frame)
  | setactRetry (f : Frame)
  | serviceDrain (f : Frame)
  | serviceStop (f : Frame)
  | serviceResume (f : Frame)
  | serviceRestart (f : Frame) (straps : Straps) (sensors : Sensors)
  | probe (f : Frame)
  -- timers of the line and of joining (chapters 10, 11)
  | presenceTimerExpiry (station : Nat)
  | silenceTimerExpiry
  | cadenceTimerExpiry
  | joinTimerExpiry
  -- refilling of the transmit queues (chapters 5, 6, 8, 10)
  | waitingNoticeQueued
  | doneQueued
  | dueNoticeQueued
  -- reset (chapter 11)
  | powerOnReset (straps : Straps) (sensors : Sensors)
  -- codes outside their tables
  | setactRefusedAsMalformed (f : Frame)
  | serviceRefusedAsMalformed (f : Frame)
  deriving DecidableEq, Repr

end Sys2Proof
end

