-- ==== Sys2Proof/Machine/State.lean ====
section
/-!
DEFINITION. The state of the CB-16, block by block as 0.3 divides it, all plain data, and the state right after reset.
A limit timer that runs exactly while its unit is BUSY has no field of its own: the BUSY state is the running timer.
-/

namespace Sys2Proof.Machine

/-- What stops the part with a fault. The manual names no event that does (chapter 0 section 0.4, log 23): every unit
failure is a state of its block. Nobody raises it; safe. -/
inductive Fault where
  deriving DecidableEq, Repr

/-- Why the model refuses a command. -/
inductive Refusal where
  /-- Raised by a dispatch arm whose command has no meaning yet; safe, as it stops the run. No arm does. -/
  | notModelled (mnemonic : String)
  deriving DecidableEq, Repr

/-! ### Identities and job parameters -/

/-- A set: job 1..255 and set number 1..1023 within it. -/
structure SetId where
  job : Nat
  num : Nat
  deriving DecidableEq, Repr

/-- R20: staple mode. -/
inductive StapleMode where
  | none
  | corner
  | edge
  deriving DecidableEq, Repr

/-- R20, R31: the page order of a job's sets. -/
inductive PageOrder where
  | forward
  | reverse
  deriving DecidableEq, Repr

/-- R20, R109: reprint mode. -/
inductive ReprintMode where
  | none
  | once
  | repeated
  deriving DecidableEq, Repr

/-- R20: reprint policy. -/
structure Policy where
  mode : ReprintMode
  delay : Nat
  interval : Nat
  limit : Nat
  deriving DecidableEq, Repr

/-- R20: job states. -/
inductive JobState where
  | opened
  | closed
  | complete
  deriving DecidableEq, Repr

/-- R20: a job record. `doneMap` is kept in ascending order (log 33). -/
structure JobRecord where
  job : Nat
  label : List Byte
  setCount : Option Nat
  staple : StapleMode
  order : PageOrder
  policy : Policy
  state : JobState
  adopted : Bool
  doneMap : List Nat
  deriving DecidableEq, Repr

/-! ### Reader Interface -/

/-- The five decoded fields of a mark strip as read (section 1.2). -/
structure Strip where
  job : Nat
  num : Nat
  page : Nat
  pages : Nat
  check : Nat
  deriving DecidableEq, Repr

/-- One mark read from one head: a strip, or none found (section 1.1). -/
inductive MarkRead where
  | noStrip
  | strip (m : Strip)
  deriving DecidableEq, Repr

/-- R2: the record of the open read window. -/
structure Window where
  number : Option Nat
  first : Option MarkRead
  second : Option MarkRead
  sensed : Bool
  deriving DecidableEq, Repr

/-- RI's state (R1, R2, R4, R5, R7). `lastSample` holds the last sample's CARRIER and SHEET. -/
structure Reader where
  carrier : Bool
  sheet : Bool
  lastSample : Option (Bool × Bool)
  window : Option Window
  lastNumber : Option Nat
  loopSize : Option Nat
  readGap : Nat
  unreadable : Nat
  deriving DecidableEq, Repr

/-! ### Gate Control -/

/-- Section 1.4: the gate actions. -/
inductive Action where
  | pass
  | bin (b : Nat)
  | rack (k : Nat)
  | reject
  | fill
  deriving DecidableEq, Repr

/-- The set reference and page of an approach entry (section 1.5), with the number of the record it was made for, so
that R44's "whose record was made after the approach entry concerned was added" can be told (log 10). -/
structure PageRef where
  id : SetId
  page : Nat
  record : Nat
  deriving DecidableEq, Repr

/-- Section 1.5: an approach entry. -/
structure Entry where
  carrier : Nat
  action : Action
  target : Option PageRef
  deriving DecidableEq, Repr

/-- Section 1.6: the gate's states; BUSY holds the entry its request was issued for and the 500 ms timer. -/
inductive GateState where
  | idle
  | busy (e : Entry)
  | faulted
  deriving DecidableEq, Repr

/-- GC's state (R10 to R13, R18). The commitments of R8 are functions of it. -/
structure Gate where
  queue : List Entry
  gate : GateState
  tray : Nat
  lapsed : Nat
  unmatched : Nat
  late : Nat
  deriving DecidableEq, Repr

/-! ### Job Table -/

/-- JT's state: the records in announcement order, least recently announced first (R20), and R22's counter. -/
structure JobTable where
  jobs : List JobRecord
  tableFull : Nat
  deriving DecidableEq, Repr

/-! ### Claim Unit -/

/-- The reasons of a YIELD (10.10.2). -/
inductive YieldReason where
  | staff
  | service
  | fault
  | jam
  | late
  deriving DecidableEq, Repr

/-- R71: a foreign claim. -/
structure ForeignEntry where
  id : SetId
  owner : Nat
  deriving DecidableEq, Repr

/-- R72: a late claim, and whether its YIELD(LATE) has been queued. -/
structure LateEntry where
  id : SetId
  queued : Bool
  deriving DecidableEq, Repr

/-- R82, R88, R94: a notice waiting in CU for room in the urgent queue: a YIELD, or the HELDs of the backlog. -/
inductive Waiting where
  | yield (id : SetId) (reason : YieldReason)
  | helds
  deriving DecidableEq, Repr

/-- CU's state (R71, R72, R88, R94, R91). `waiting` is in the order each notice became due. -/
structure ClaimUnit where
  foreign : List ForeignEntry
  late : List LateEntry
  backlog : List SetId
  waiting : List Waiting
  claimLost : Nat
  lateClaims : Nat
  foreignRefused : Nat
  conflicts : Nat
  deriving DecidableEq, Repr

/-! ### Collation Unit and the Progress Watch's fields -/

/-- R30: page statuses. -/
inductive PageStatus where
  | absent
  | inboundBin
  | inboundRack (k : Nat)
  | held (k : Nat)
  | releasing (k : Nat)
  | placed
  deriving DecidableEq, Repr

/-- R29: set record states. -/
inductive SetState where
  | claiming
  | collecting
  | finishing
  | complete
  | inJaw
  | delivering
  | surrendering
  deriving DecidableEq, Repr

/-- R105: reprint waiting. -/
inductive ReprintWait where
  | none
  | policy
  | retry
  deriving DecidableEq, Repr

/-- R29, R105: a set record. `map` holds page 1 first; `record` is the model's own number of the record (log 10). -/
structure SetRecord where
  id : SetId
  pages : Nat
  state : SetState
  bin : Option Nat
  order : PageOrder
  staple : StapleMode
  policy : Policy
  map : List PageStatus
  pocket : Nat
  deadline : Bool
  watch : Nat
  attempts : Nat
  countdown : Nat
  skipPending : Bool
  stranded : Bool
  isPartial : Bool
  waiting : ReprintWait
  record : Nat
  deriving DecidableEq, Repr

/-- R32: bin states. -/
inductive BinState where
  | available
  | assigned
  | occupied
  | jammed
  deriving DecidableEq, Repr

/-- CO's state (R29, R32, R33, R53, R92). `sets` is kept in ascending order of job and set (log 33); `bins` holds bin 1 first;
`made` is the model's own count of the records made (log 10). -/
structure Collation where
  sets : List SetRecord
  made : Nat
  bins : List BinState
  searchPtr : Nat
  duplicate : Nat
  mismatch : Nat
  rackFull : Nat
  refused : Nat
  surrenders : Nat
  deriving DecidableEq, Repr

/-- PW's counters (R115). -/
structure Watch where
  reprintsSent : Nat
  deferred : Nat
  strandings : Nat
  deriving DecidableEq, Repr

/-! ### Holding Rack Controller and Return Feeder -/

/-- R54: rack pocket states. -/
inductive PocketState where
  | free
  | reserved (id : SetId) (page : Nat)
  | holding (id : SetId) (page : Nat)
  | occupied
  deriving DecidableEq, Repr

/-- R58: a sheet held in the inlet. -/
structure InletSheet where
  pocket : Nat
  id : SetId
  page : Nat
  deriving DecidableEq, Repr

/-- R62: where a release goes. -/
inductive Dest where
  | bin (b : Nat)
  | feeder
  deriving DecidableEq, Repr

/-- R62: an entry of the release queue. -/
structure Release where
  pocket : Nat
  id : SetId
  page : Nat
  dest : Dest
  deriving DecidableEq, Repr

/-- Section 4.4: a request in flight at the rack mechanism. -/
inductive RackRequest where
  | store (e : InletSheet)
  | release (r : Release)
  deriving DecidableEq, Repr

/-- R59: rack states; BUSY holds the request and its 800 ms timer. -/
inductive RackState where
  | idle
  | busy (r : RackRequest)
  | outOfService
  deriving DecidableEq, Repr

/-- HR's state (R54, R58, R59, R62, R67). `pockets` holds pocket 1 first. -/
structure Rack where
  pockets : List PocketState
  inletReserved : Nat
  inlet : List InletSheet
  inletOccupied : Bool
  rack : RackState
  releases : List Release
  faults : Nat
  deriving DecidableEq, Repr

/-- RF's state (R101, R102). -/
structure Feeder where
  count : Nat
  onWay : Nat
  fillMissed : Nat
  deriving DecidableEq, Repr

/-! ### Stapler Controller -/

/-- R117: carriage requests. -/
inductive CarriageRequest where
  | transfer (id : SetId) (b : Nat)
  | unload (id : SetId) (b : Nat) (m : Nat)
  deriving DecidableEq, Repr

/-- R118, R122: carriage states; BUSY and the stuck request hold the jaw a TRANSFER is loading. -/
inductive CarriageState where
  | idle
  | busy (r : CarriageRequest) (j : Option JawName)
  | faulted (stuck : CarriageRequest) (j : Option JawName)
  deriving DecidableEq, Repr

/-- R144: delivery outcomes. -/
inductive SetOutcome where
  | stapled
  | unstapled
  | oversize
  | stapleMissing
  | partialSet
  deriving DecidableEq, Repr

/-- R123: what SC keeps with the jaw that holds a set. The outcome is none until it is fixed. -/
structure Stapling where
  outcome : Option SetOutcome
  owed : Nat
  retryUsed : Bool
  deriving DecidableEq, Repr

/-- R119: jaw states. -/
inductive JawState where
  | free
  | loading (id : SetId)
  | holding (id : SetId) (st : Stapling)
  | occupied
  | outOfService (id : SetId)
  deriving DecidableEq, Repr

/-- R124: head states; BUSY holds the STAPLE(jaw, k) in flight and its 600 ms timer. -/
inductive HeadState where
  | idle
  | busy (j : JawName) (k : Nat)
  deriving DecidableEq, Repr

/-- R144: a DONE. -/
structure DoneNotice where
  id : SetId
  pages : Nat
  outcome : SetOutcome
  pocket : Nat
  deriving DecidableEq, Repr

/-- R129, R151: a DONE waiting in the DONE list, with the model's stamp of when it became due (log 11). -/
structure DoneWaiting where
  notice : DoneNotice
  since : Nat
  deriving DecidableEq, Repr

/-- SC's state (R117 to R132). A head queue entry names the jaw of its set. -/
structure Stapler where
  carriageQueue : List CarriageRequest
  carriage : CarriageState
  jawA : JawState
  jawB : JawState
  lastJaw : JawName
  head : HeadState
  faultedMark : Bool
  emptyMark : Bool
  headQueue : List JawName
  staples : Option Nat
  doneList : List DoneWaiting
  misfires : Nat
  headJams : Nat
  jawFaults : Nat
  deriving DecidableEq, Repr

/-! ### Delivery Controller -/

/-- R133, R141: the side a set is laid on. -/
inductive Side where
  | left
  | right
  deriving DecidableEq, Repr

/-- R145, R169: lamp values. -/
inductive Lamp where
  | off
  | on
  | blinkSlow
  | blinkFast
  deriving DecidableEq, Repr

/-- R133: a delivery pocket's record. The delivery in flight, when there is one, carries its 1200 ms timer. -/
structure Pocket where
  binding : Option Nat
  last : Option Nat
  previous : Option Nat
  full : Bool
  blocked : Bool
  empty : Bool
  committed : Nat
  refs : Nat
  side : Side
  inFlight : Option JawName
  lamp : Lamp
  deriving DecidableEq, Repr

/-- R141: an entry of the delivery list. -/
structure DeliveryEntry where
  jaw : JawName
  id : SetId
  pocket : Nat
  outcome : SetOutcome
  deriving DecidableEq, Repr

/-- DC's state (R133, R141). `pockets` holds pocket 1 first. -/
structure Delivery where
  pockets : List Pocket
  list : List DeliveryEntry
  deriving DecidableEq, Repr

/-! ### Link Controller -/

/-- The notices the bay itself sends (R150). A STATE and a HELLO take their content when their frame starts (R152, R162). -/
inductive Notice where
  | claim (id : SetId) (pages : Nat)
  | held (ids : List SetId)
  | yield (id : SetId) (reason : YieldReason)
  | done (d : DoneNotice)
  | gone (station : Nat)
  | state
  | hello
  | reprint (id : SetId) (pages : List Nat)
  | report (item index : Nat) (data : List Byte)
  deriving DecidableEq, Repr

/-- R148, R151: a notice in a transmit queue. `onLine` holds the frame while an attempt of it is on the line. -/
structure TxEntry where
  notice : Notice
  attempts : Nat
  withdrawn : Bool
  onLine : Option Frame
  deriving DecidableEq, Repr

/-- R151: what LC may hold due. -/
inductive DueKind where
  | state
  | hello
  | gone (station : Nat)
  deriving DecidableEq, Repr

/-- R151: a due notice of LC, with the model's stamp of when it became due (log 11). -/
structure Due where
  kind : DueKind
  since : Nat
  deriving DecidableEq, Repr

/-- R152: one delivery pocket in a STATE. -/
structure PocketContent where
  job : Nat
  full : Bool
  blocked : Bool
  deriving DecidableEq, Repr

/-- R152: the content of a STATE; bay state and head status in the codes of 10.10.2. -/
structure StateContent where
  bay : Nat
  head : Nat
  freeBins : Nat
  stranded : Nat
  pockets : List PocketContent
  deriving DecidableEq, Repr

/-- R153: a peer record. -/
structure Peer where
  present : Bool
  timer : Bool
  last : Option StateContent
  bins : Option Nat
  deriving DecidableEq, Repr

/-- LC's state (R148 to R159). `peers` holds station 1 first, this bay's own place unused; `stamp` is the model's own next due
stamp (log 11); `spoilMark` is the model's view of what LC drove over the closing field it last met (log 20). -/
structure Link where
  urgent : List TxEntry
  routine : List TxEntry
  due : List Due
  stamp : Nat
  peers : List Peer
  silence : Bool
  cadence : Bool
  spoilMark : Bool
  malformed : Nat
  dropped : Nat
  spoiled : Nat
  reportDropped : Nat
  presenceLost : Nat
  deriving DecidableEq, Repr

/-! ### Bay State Control -/

/-- R166: fault causes. -/
inductive Cause where
  | gate
  | carriage
  | linkLost
  | expelled
  | clash
  deriving DecidableEq, Repr

/-- Chapter 11: bay states, FAULT with its cause. -/
inductive BayState where
  | dormant
  | joining
  | active
  | draining
  | service
  | fault (c : Cause)
  deriving DecidableEq, Repr

/-- R162: the join timer. -/
inductive JoinTimer where
  | stopped
  | awaitingEcho
  | listening
  deriving DecidableEq, Repr

/-- R166, R172: the fault causes seen. -/
structure CausesSeen where
  gate : Bool
  carriage : Bool
  linkLost : Bool
  expelled : Bool
  clash : Bool
  deriving DecidableEq, Repr

/-- BS's state (R160 to R169). -/
structure BayControl where
  state : BayState
  straps : Straps
  seen : CausesSeen
  join : JoinTimer
  heard : Bool
  refused : Nat
  lamp : Lamp
  deriving DecidableEq, Repr

/-! ### The whole part -/

/-- The state of the part, one field for each block of 0.3, and the queue of waiting commands, first in, first out. -/
structure State where
  ri : Reader
  gc : Gate
  jt : JobTable
  cu : ClaimUnit
  co : Collation
  hr : Rack
  rf : Feeder
  pw : Watch
  sc : Stapler
  dc : Delivery
  lc : Link
  bs : BayControl
  pending : List Instr
  deriving DecidableEq, Repr

/-- R133: a delivery pocket after reset. -/
def Pocket.reset : Pocket :=
  { binding := none, last := none, previous := none, full := false, blocked := false, empty := false,
    committed := 0, refs := 0, side := .right, inFlight := none, lamp := .off }

/-- R153, R158: the record of an absent station. -/
def Peer.absent : Peer :=
  { present := false, timer := false, last := none, bins := none }

/-- The part right after a power-on reset whose strap pins all read 0 (log 1, DESIGN CHOICE): an even number of pins at 1,
so bad straps, and R160 leaves the bay in DORMANT with F = 4, P = 8, Q = 2 and no sensor read. Every other value is
the one R19, R20, R53, R69, R91, R103, R116, R131, R133, R158 and R161 state. POWER_ON_RESET brings real straps. -/
def State.reset : State :=
  { ri := { carrier := false, sheet := false, lastSample := none, window := none, lastNumber := none,
            loopSize := none, readGap := 0, unreadable := 0 }
    gc := { queue := [], gate := .idle, tray := 0, lapsed := 0, unmatched := 0, late := 0 }
    jt := { jobs := [], tableFull := 0 }
    cu := { foreign := [], late := [], backlog := [], waiting := [], claimLost := 0, lateClaims := 0,
            foreignRefused := 0, conflicts := 0 }
    co := { sets := [], made := 0, bins := List.replicate 4 .available, searchPtr := 1, duplicate := 0,
            mismatch := 0, rackFull := 0, refused := 0, surrenders := 0 }
    hr := { pockets := List.replicate 8 .free, inletReserved := 0, inlet := [], inletOccupied := false,
            rack := .idle, releases := [], faults := 0 }
    rf := { count := 0, onWay := 0, fillMissed := 0 }
    pw := { reprintsSent := 0, deferred := 0, strandings := 0 }
    sc := { carriageQueue := [], carriage := .idle, jawA := .free, jawB := .free, lastJaw := .b, head := .idle,
            faultedMark := false, emptyMark := false, headQueue := [], staples := none, doneList := [],
            misfires := 0, headJams := 0, jawFaults := 0 }
    dc := { pockets := List.replicate 2 Pocket.reset, list := [] }
    lc := { urgent := [], routine := [], due := [], stamp := 0, peers := List.replicate 8 Peer.absent,
            silence := false, cadence := false, spoilMark := false, malformed := 0, dropped := 0, spoiled := 0,
            reportDropped := 0, presenceLost := 0 }
    bs := { state := .dormant, straps := { station := 0, bins := 0, rack := 0, delivery := 0, parity := 0 },
            seen := { gate := false, carriage := false, linkLost := false, expelled := false, clash := false },
            join := .stopped, heard := false, refused := 0, lamp := .blinkFast }
    pending := [] }

end Sys2Proof.Machine
end

