-- ==== Sys2Proof/Machine/Operands.lean ====
section
/-!
DEFINITION. The operand forms of the commands: the layouts of the Formats section (10.10), read and written. Fields of a
notice body and of a mark read are read as whole numbers; the bits a layout does not name are not examined.
-/

namespace Sys2Proof

/-- Body byte `i` as a number; a byte the body does not have reads 0, and R150 has refused such a body before. -/
def Frame.byteAt (f : Frame) (i : Nat) : Nat := (f.body.getD i 0).toNat

/-- Body bytes `i` and `i + 1` as one number, the lower byte number first (10.10). -/
def Frame.wordAt (f : Frame) (i : Nat) : Nat := f.byteAt i * 256 + f.byteAt (i + 1)

/-- 10.10.2: the set reference that starts at body byte `i`: the job, then bits 15..6 the set. -/
def Frame.setAt (f : Frame) (i : Nat) : Machine.SetId :=
  { job := f.byteAt i, num := f.wordAt (i + 1) / 64 }

/-- 10.10.2: the remaining six bits of the set reference at byte 0. -/
def Frame.low6 (f : Frame) : Nat := f.wordAt 1 % 64

end Sys2Proof

namespace Sys2Proof.Machine

/-! ### The kinds of notice -/

/-- The kinds of notice the part knows (10.10.1). -/
inductive NoticeKind where
  | claim
  | held
  | yield
  | job
  | jobclose
  | done
  | setact
  | service
  | gone
  | state
  | hello
  | reprint
  | probe
  | report
  deriving DecidableEq, Repr

/-- 10.10.1: the kind code. -/
def NoticeKind.code : NoticeKind → BitVec 6
  | .claim => 1
  | .held => 2
  | .yield => 3
  | .job => 4
  | .jobclose => 5
  | .done => 6
  | .setact => 7
  | .service => 8
  | .gone => 9
  | .state => 10
  | .hello => 11
  | .reprint => 12
  | .probe => 13
  | .report => 14

/-- 10.10.1: the kind a code names; none for the feeders' own codes and the unknown ones. -/
def kindOfCode (c : BitVec 6) : Option NoticeKind :=
  match c.toNat with
  | 1 => some .claim
  | 2 => some .held
  | 3 => some .yield
  | 4 => some .job
  | 5 => some .jobclose
  | 6 => some .done
  | 7 => some .setact
  | 8 => some .service
  | 9 => some .gone
  | 10 => some .state
  | 11 => some .hello
  | 12 => some .reprint
  | 13 => some .probe
  | 14 => some .report
  | _ => none

/-- R146: the class of each kind. -/
def NoticeKind.cls : NoticeKind → BitVec 2
  | .claim | .held | .yield => 0
  | .job | .jobclose | .done | .setact | .service | .gone => 1
  | .state | .hello | .reprint | .probe | .report => 2

/-- R150: the origins that may send each kind. -/
def NoticeKind.originOk (k : NoticeKind) (o : Nat) : Bool :=
  match k with
  | .job | .jobclose => o == 0
  | .setact | .service | .probe => o == 0 || o == 13 || o == 14
  | .claim | .held | .yield | .done | .gone | .state | .hello | .reprint | .report => 1 ≤ o && o ≤ 8

/-- R150: the body lengths of each kind. -/
def NoticeKind.lengthOk (k : NoticeKind) (n : Nat) : Bool :=
  match k with
  | .claim | .yield | .setact => n == 3
  | .held => n == 3 || n == 6 || n == 9 || n == 12
  | .job => n == 13
  | .jobclose | .service | .gone => n == 1
  | .done => n == 4
  | .state => n == 7 || n == 11
  | .hello | .probe => n == 2
  | .reprint => 4 ≤ n && n ≤ 11
  | .report => 2 ≤ n && n ≤ 15

/-- R150: whether a heard notice of kind `k` is accepted by its origin, its class and its length. -/
def acceptable (k : NoticeKind) (f : Frame) : Bool :=
  k.originOk f.origin.toNat && f.cls == k.cls && k.lengthOk f.body.length

/-! ### Reader reports (10.10.3) -/

/-- 10.10.3: the fields of a mark read. -/
def markOfBits (bits : BitVec 40) : MarkRead :=
  let v := bits.toNat
  if v / 2 ^ 39 = 1 then
    .strip { job := v / 2 ^ 28 % 256, num := v / 2 ^ 18 % 1024, page := v / 2 ^ 12 % 64,
             pages := v / 2 ^ 6 % 64, check := v % 64 }
  else .noStrip

/-- R3: the tests of a valid mark strip. -/
def Strip.valid (m : Strip) : Bool :=
  1 ≤ m.job && 1 ≤ m.num && 1 ≤ m.page && m.page ≤ m.pages
    && m.check == (m.job + 3 * m.num + 5 * m.page + 7 * m.pages) % 64

/-! ### Codes of 10.10.2 -/

def YieldReason.code : YieldReason → Nat
  | .staff => 0
  | .service => 1
  | .fault => 2
  | .jam => 3
  | .late => 4

def SetOutcome.code : SetOutcome → Nat
  | .stapled => 0
  | .unstapled => 1
  | .oversize => 2
  | .stapleMissing => 3
  | .partialSet => 4

/-- 10.10.2, STATE: the bay state's code; DORMANT sends no STATE and has code 0. -/
def BayState.code : BayState → Nat
  | .dormant => 0
  | .joining => 1
  | .active => 2
  | .draining => 3
  | .service => 4
  | .fault .gate => 5
  | .fault .carriage => 6
  | .fault .linkLost => 7
  | .fault .expelled => 8
  | .fault .clash => 9

/-- 10.10.2 and R21: the staple mode stored for a code; a code outside the table is clamped to NONE. -/
def stapleOfCode : Nat → StapleMode
  | 1 => .corner
  | 2 => .edge
  | _ => .none

/-- 10.10.2 and R21: the order stored for a code; a code outside the table is clamped to FORWARD. -/
def orderOfCode : Nat → PageOrder
  | 1 => .reverse
  | _ => .forward

/-- 10.10.2: the reprint mode of a code, none outside the table. -/
def reprintOfCode : Nat → Option ReprintMode
  | 0 => some .none
  | 1 => some .once
  | 2 => some .repeated
  | _ => none

/-! ### JOB (10.10.2, R21) -/

/-- The fields of a JOB after the clamps of R21. -/
structure JobFields where
  job : Nat
  label : List Byte
  setCount : Option Nat
  staple : StapleMode
  order : PageOrder
  policy : Policy
  repeatFlag : Bool
  deriving DecidableEq, Repr

/-- R21: a label is refused at a code outside 32..126, or at a space in its first position. -/
def labelOk (l : List Byte) : Bool :=
  l.all (fun c => decide (32 ≤ c.toNat) && decide (c.toNat ≤ 126)) && (l.headD 32).toNat != 32

/-- R21: a JOB's fields, clamped; none when the JOB is refused as malformed. -/
def jobFields (f : Frame) : Option JobFields :=
  let w := f.wordAt 9
  let v := f.wordAt 11
  let label := (f.body.drop 1).take 8
  match reprintOfCode (v / 16384) with
  | none => none
  | some mode =>
    if f.byteAt 0 = 0 ∨ labelOk label = false ∨ 1023 < w / 32 then none
    else
      let delay := v / 1024 % 16
      let interval := v / 64 % 16
      let limit := v / 8 % 8
      some { job := f.byteAt 0, label := label,
             setCount := if w / 32 = 0 then none else some (w / 32),
             staple := stapleOfCode (w / 8 % 4), order := orderOfCode (w / 2 % 4),
             policy := { mode := if limit = 0 then .none else mode,
                         delay := if delay = 0 then 1 else delay,
                         interval := if interval = 0 then 1 else interval,
                         limit := if limit = 0 then 1 else limit },
             repeatFlag := w % 2 == 1 }

/-! ### STATE (10.10.2, R153) -/

/-- The pocket entries of a STATE body from byte `i` on. -/
def pocketContents : List Byte → List PocketContent
  | job :: flags :: rest =>
    { job := job.toNat, full := flags.toNat % 2 == 1, blocked := flags.toNat / 2 % 2 == 1 } :: pocketContents rest
  | _ => []

/-- R153: the content of a heard STATE; none when it is refused as malformed. -/
def stateFields (f : Frame) : Option StateContent :=
  let c : StateContent :=
    { bay := f.byteAt 0 / 16, head := f.byteAt 0 % 8, freeBins := f.byteAt 1, stranded := f.byteAt 2,
      pockets := pocketContents (f.body.drop 3) }
  if 1 ≤ c.bay ∧ c.bay ≤ 9 ∧ c.head ≤ 4 ∧ c.freeBins ≤ 16 ∧ c.stranded ≤ 16 then some c else none

/-! ### Bodies the bay sends -/

/-- One byte of a number. -/
def byte (n : Nat) : Byte := BitVec.ofNat 8 n

/-- Two bytes of a number, the higher first. -/
def word2 (n : Nat) : List Byte := [byte (n / 256), byte n]

/-- 10.10.2: a set reference with its six remaining bits. -/
def setBytes (id : SetId) (low : Nat) : List Byte := byte id.job :: word2 (id.num * 64 + low % 64)

def claimBody (id : SetId) (pages : Nat) : List Byte := setBytes id pages

def heldBody (ids : List SetId) : List Byte := ids.flatMap (fun id => setBytes id 0)

def yieldBody (id : SetId) (r : YieldReason) : List Byte := setBytes id (r.code * 8)

def doneBody (d : DoneNotice) : List Byte :=
  setBytes d.id d.pages ++ [byte (d.outcome.code * 32 + (d.pocket - 1) % 4 * 8)]

def goneBody (station : Nat) : List Byte := [byte station]

def boolBit (b : Bool) (n : Nat) : Nat := if b then n else 0

def stateBody (c : StateContent) : List Byte :=
  [byte (c.bay * 16 + c.head), byte c.freeBins, byte c.stranded]
    ++ c.pockets.flatMap (fun p => [byte p.job, byte (boolBit p.blocked 2 + boolBit p.full 1)])

def helloBody (station bins : Nat) : List Byte := [byte station, byte bins]

def reprintBody (id : SetId) (pages : List Nat) : List Byte :=
  setBytes id (pages.length * 4) ++ pages.map byte

def reportBody (item index : Nat) (data : List Byte) : List Byte := byte item :: byte index :: data

/-! ### The frame and its check (10.10.1) -/

/-- The bits of a bit vector, most significant first. -/
def bitsOf {n : Nat} (v : BitVec n) : List Bool := (List.range n).map (fun i => v.getMsbD i)

/-- The fields class to body in the order in which they are sent. -/
def frameBits (kind : BitVec 6) (f : Frame) : List Bool :=
  bitsOf f.cls ++ bitsOf f.origin ++ bitsOf kind ++ bitsOf (BitVec.ofNat 4 f.body.length) ++ f.body.flatMap bitsOf

/-- 10.10.1: the check register taking one bit. -/
def checkBit (r : BitVec 16) (b : Bool) : BitVec 16 :=
  if (r.msb ^^ b) then (r <<< 1) ^^^ 0x1021#16 else r <<< 1

/-- 10.10.1: the frame check over class to body. -/
def frameCheck (kind : BitVec 6) (f : Frame) : BitVec 16 := (frameBits kind f).foldl checkBit 0xFFFF#16

end Sys2Proof.Machine
end

