-- ==== Sys2Proof/WellFormed.lean ====
section
/-!
DEFINITION. Well-formed commands: the operands a row of the table can carry. The meanings are total, and take an ill-formed
command as their rules take its fields (log 23).
-/

namespace Sys2Proof

/-- 10.10.1: a frame carries 0..15 body bytes. -/
def Frame.wf (f : Frame) : Bool := f.body.length ≤ 15

/-- Places the manual numbers: bins and rack pockets 1..16 (R29, R54), the inlet and the jaws. -/
def Place.wf : Place → Bool
  | .bin b => 1 ≤ b && b ≤ 16
  | .rackPocket k => 1 ≤ k && k ≤ 16
  | .inlet | .jaw _ => true

def Sensors.wf (v : Sensors) : Bool := v.found.all Place.wf

/-- Delivery pockets 1..4 (R29, R133). -/
def pocketWf (p : Nat) : Bool := 1 ≤ p && p ≤ 4

/-- 10.10.2: the action code of a SETACT. -/
def Frame.setactCode (f : Frame) : Nat := f.low6 % 4

/-- 10.10.2: the command code of a SERVICE. -/
def Frame.serviceCode (f : Frame) : Nat := f.byteAt 0 % 16

/-- The operands of a command are those its row can carry. -/
def Instr.wf : Instr → Bool
  | .readerSample _ _ | .carrierNumberReport _ | .markRead _ => true
  | .gateArrival _ | .diverted | .divertFailed | .filled | .fillMissed | .gateLimitExpiry | .rejectEmptied => true
  | .stored _ | .released _ | .rackLimitExpiry | .rackRequestIssue => true
  | .binJammed b => 1 ≤ b && b ≤ 16
  | .placeCleared p => p.wf
  | .carriageStart | .transferred _ | .unloaded _ | .carriageLimitExpiry => true
  | .stapleIssue | .stapled _ | .misfire _ _ | .jam _ _ | .headLimitExpiry | .headCleared => true
  | .cartridgeInserted | .cartridgeEmpty => true
  | .deliverIssue p => pocketWf p
  | .delivered _ _ p => pocketWf p
  | .deliveryLimitExpiry _ => true
  | .heightSample p _ => pocketWf p
  | .claimDeadlineExpiry j n => 1 ≤ j && j ≤ 255 && 1 ≤ n && n ≤ 1023
  | .offer _ | .attemptSpoiled => true
  | .badFrameCheck kind f check => f.wf && Machine.frameCheck kind f != check
  | .claim f | .held f | .yield f | .done f | .job f | .jobclose f | .hello f | .gone f | .state f | .reprint f
  | .report f | .probe f => f.wf
  | .unknownKindNotice kind f => f.wf && (Machine.kindOfCode kind).isNone
  | .setactFinish f => f.wf && f.setactCode == 0
  | .setactYield f => f.wf && f.setactCode == 1
  | .setactRetry f => f.wf && f.setactCode == 2
  | .setactRefusedAsMalformed f => f.wf && f.setactCode == 3
  | .serviceDrain f => f.wf && f.serviceCode == 0
  | .serviceStop f => f.wf && f.serviceCode == 1
  | .serviceResume f => f.wf && f.serviceCode == 2
  | .serviceRestart f _ v => f.wf && f.serviceCode == 3 && v.wf
  | .serviceRefusedAsMalformed f => f.wf && 4 ≤ f.serviceCode
  | .presenceTimerExpiry x => 1 ≤ x && x ≤ 8
  | .silenceTimerExpiry | .cadenceTimerExpiry | .joinTimerExpiry => true
  | .waitingNoticeQueued | .doneQueued | .dueNoticeQueued => true
  | .powerOnReset _ v => v.wf

end Sys2Proof
end

