-- ==== Sys2Proof/Decode.lean ====
section
/-!
DEFINITION. What bits spell a command. No row of spec/opcode_table.json has bits, so no table word does. The line does carry
bits: a frame (10.10.1) spells the notice heard, and the frame of a notice command is written from the same layout.
-/

namespace Sys2Proof

/-- The command a table word spells: none, since the table gives no row any bits. -/
def decodeTableWord (_nbits _w : Nat) : Option Instr := none

/-! ### A frame and its command -/

/-- The command of a valid SETACT frame, by its action code (10.10.2). -/
def setactCommand (f : Frame) : Instr :=
  match f.setactCode with
  | 0 => .setactFinish f
  | 1 => .setactYield f
  | 2 => .setactRetry f
  | _ => .setactRefusedAsMalformed f

/-- The command of a valid SERVICE frame, by its command code (10.10.2), with what straps and sensors read at a RESTART. -/
def serviceCommand (f : Frame) (x : Straps) (v : Sensors) : Instr :=
  match f.serviceCode with
  | 0 => .serviceDrain f
  | 1 => .serviceStop f
  | 2 => .serviceResume f
  | 3 => .serviceRestart f x v
  | _ => .serviceRefusedAsMalformed f

/-- The command of a valid frame (10.10.1). -/
def commandOfFrame (kind : BitVec 6) (f : Frame) (x : Straps) (v : Sensors) : Instr :=
  match Machine.kindOfCode kind with
  | none => .unknownKindNotice kind f
  | some .claim => .claim f
  | some .held => .held f
  | some .yield => .yield f
  | some .job => .job f
  | some .jobclose => .jobclose f
  | some .done => .done f
  | some .setact => setactCommand f
  | some .service => serviceCommand f x v
  | some .gone => .gone f
  | some .state => .state f
  | some .hello => .hello f
  | some .reprint => .reprint f
  | some .probe => .probe f
  | some .report => .report f

/-- A frame with its kind and its check as it passes on the line, before its closing field. -/
structure LineFrame where
  kind : BitVec 6
  frame : Frame
  check : BitVec 16
  deriving DecidableEq, Repr

/-- A valid frame of a kind: its check is the check of its fields. -/
def LineFrame.valid (kind : BitVec 6) (f : Frame) : LineFrame :=
  { kind := kind, frame := f, check := Machine.frameCheck kind f }

def lineFrameOfKind (k : Machine.NoticeKind) (f : Frame) : LineFrame := LineFrame.valid k.code f

/-- The frame that brings a command over the line; none for the commands that do not come over it. -/
def frameOfCommand : Instr → Option LineFrame
  | .claim f => some (lineFrameOfKind .claim f)
  | .held f => some (lineFrameOfKind .held f)
  | .yield f => some (lineFrameOfKind .yield f)
  | .done f => some (lineFrameOfKind .done f)
  | .job f => some (lineFrameOfKind .job f)
  | .jobclose f => some (lineFrameOfKind .jobclose f)
  | .hello f => some (lineFrameOfKind .hello f)
  | .gone f => some (lineFrameOfKind .gone f)
  | .state f => some (lineFrameOfKind .state f)
  | .reprint f => some (lineFrameOfKind .reprint f)
  | .report f => some (lineFrameOfKind .report f)
  | .unknownKindNotice kind f => some (LineFrame.valid kind f)
  | .setactFinish f | .setactYield f | .setactRetry f | .setactRefusedAsMalformed f =>
    some (lineFrameOfKind .setact f)
  | .serviceDrain f | .serviceStop f | .serviceResume f | .serviceRestart f _ _ | .serviceRefusedAsMalformed f =>
    some (lineFrameOfKind .service f)
  | .probe f => some (lineFrameOfKind .probe f)
  | .badFrameCheck kind f check => some { kind := kind, frame := f, check := check }
  | .readerSample _ _ | .carrierNumberReport _ | .markRead _ => none
  | .gateArrival _ | .diverted | .divertFailed | .filled | .fillMissed | .gateLimitExpiry | .rejectEmptied => none
  | .stored _ | .released _ | .rackLimitExpiry | .rackRequestIssue => none
  | .binJammed _ | .placeCleared _ => none
  | .carriageStart | .transferred _ | .unloaded _ | .carriageLimitExpiry => none
  | .stapleIssue | .stapled _ | .misfire _ _ | .jam _ _ | .headLimitExpiry | .headCleared => none
  | .cartridgeInserted | .cartridgeEmpty => none
  | .deliverIssue _ | .delivered _ _ _ | .deliveryLimitExpiry _ | .heightSample _ _ => none
  | .claimDeadlineExpiry _ _ | .offer _ | .attemptSpoiled => none
  | .presenceTimerExpiry _ | .silenceTimerExpiry | .cadenceTimerExpiry | .joinTimerExpiry => none
  | .waitingNoticeQueued | .doneQueued | .dueNoticeQueued | .powerOnReset _ _ => none

/-! ### The bits on the line (10.10.1) -/

/-- The bits from class to check in the order in which they are sent. -/
def LineFrame.bits (l : LineFrame) : List Bool := Machine.frameBits l.kind l.frame ++ Machine.bitsOf l.check

/-- The number that bits sent most significant first spell. -/
def natOfBits (l : List Bool) : Nat := l.foldl (fun n b => 2 * n + b.toNat) 0

/-- The field of `n` bits at the front, and the bits that follow it. -/
def takeField (n : Nat) (l : List Bool) : Option (BitVec n × List Bool) :=
  if n ≤ l.length then some (BitVec.ofNat n (natOfBits (l.take n)), l.drop n) else none

/-- A body of `n` bytes at the front, and the bits that follow it. -/
def takeBody : Nat → List Bool → Option (List Byte × List Bool)
  | 0, l => some ([], l)
  | n + 1, l =>
    match takeField 8 l with
    | none => none
    | some (b, rest) =>
      match takeBody n rest with
      | none => none
      | some (body, left) => some (b :: body, left)

/-- The frame that bits spell; none when they end early or do not end with the check. -/
def readFrame (l : List Bool) : Option LineFrame := do
  let (cls, l1) ← takeField 2 l
  let (origin, l2) ← takeField 4 l1
  let (kind, l3) ← takeField 6 l2
  let (len, l4) ← takeField 4 l3
  let (body, l5) ← takeBody len.toNat l4
  let (check, l6) ← takeField 16 l5
  if l6 = [] then some { kind := kind, frame := { cls := cls, origin := origin, body := body }, check := check }
  else none

/-- The command of a frame as it passes: BAD_FRAME_CHECK when its check disagrees (R146), and the notice heard otherwise. -/
def LineFrame.command (l : LineFrame) (x : Straps) (v : Sensors) : Instr :=
  if Machine.frameCheck l.kind l.frame = l.check then commandOfFrame l.kind l.frame x v
  else .badFrameCheck l.kind l.frame l.check

/-- The command that the bits of a frame spell. -/
def commandOfBits (l : List Bool) (x : Straps) (v : Sensors) : Option Instr :=
  (readFrame l).map (fun q => q.command x v)

end Sys2Proof
end

