-- ==== Sys2Proof/Machine/Flags.lean ====
section
/-!
DEFINITION. What the manual derives from the state: strap meanings, counts over the tables, commitments, head status, lamps,
height flags, costs, and the content of a STATE.
-/

namespace Sys2Proof

/-! ### Straps (11.1, R160) -/

def Straps.fittedBins (x : Straps) : Nat := 4 * (x.bins.toNat + 1)

def Straps.fittedRack (x : Straps) : Nat := 8 * (x.rack.toNat + 1)

def Straps.fittedPockets (x : Straps) : Nat := 2 * (x.delivery.toNat + 1)

/-- The number of the nine pins read at 1. -/
def Straps.ones (x : Straps) : Nat :=
  ((Machine.bitsOf x.station ++ Machine.bitsOf x.bins ++ Machine.bitsOf x.rack ++ Machine.bitsOf x.delivery ++ Machine.bitsOf x.parity).filter id).length

/-- R160: good straps: an odd number of pins at 1, and a station of 1..8. -/
def Straps.good (x : Straps) : Bool :=
  x.ones % 2 == 1 && 1 ≤ x.station.toNat && x.station.toNat ≤ 8

/-- R119: the jaw that is not this one. -/
def JawName.other : JawName → JawName
  | .a => .b
  | .b => .a

end Sys2Proof

namespace Sys2Proof.Machine

/-! ### Counters -/

/-- A counter counts one and remains at its top value once it reaches it (R174). -/
def countTo (top n : Nat) : Nat := if n < top then n + 1 else n

/-- A counter of range 0..65535 counts one. -/
def count (n : Nat) : Nat := countTo Config.counterTop n

/-- A counter of range 0..255 counts one. -/
def countByte (n : Nat) : Nat := countTo Config.byteCounterTop n

/-- This bay's station number. -/
def State.station (s : State) : Nat := s.bs.straps.station.toNat

/-- F, the bins fitted. -/
def State.binsFitted (s : State) : Nat := s.bs.straps.fittedBins

/-- P, the rack pockets fitted. -/
def State.rackFitted (s : State) : Nat := s.bs.straps.fittedRack

/-- Q, the delivery pockets fitted. -/
def State.pocketsFitted (s : State) : Nat := s.bs.straps.fittedPockets

/-! ### Bay state -/

/-- R157: whether the link watch is on in a bay state. -/
def BayState.linkWatch : BayState → Bool
  | .joining | .active | .draining | .service | .fault .gate | .fault .carriage => true
  | .dormant | .fault .linkLost | .fault .expelled | .fault .clash => false

/-- R167: the faults that clear themselves. -/
def BayState.selfClearing : BayState → Bool
  | .fault .linkLost | .fault .expelled => true
  | _ => false

/-- R82, R94, R130: the faults in which this bay sends no YIELD. -/
def BayState.silencedFault : BayState → Bool
  | .fault .linkLost | .fault .expelled | .fault .clash => true
  | _ => false

/-- R169: the bay lamp. -/
def bayLamp (goodStraps : Bool) : BayState → Lamp
  | .dormant => if goodStraps then .off else .blinkFast
  | .fault _ => .blinkFast
  | .joining | .draining => .blinkSlow
  | .active => .on
  | .service => .off

/-! ### Sets and pages -/

/-- Sets in ascending order of job and, within a job, of set. -/
def SetId.before (a b : SetId) : Bool := a.job < b.job || (a.job == b.job && a.num < b.num)

/-- An ascending list of sets with `a` put in its place, once: a set already listed is not listed again. -/
def insertId (a : SetId) : List SetId → List SetId
  | [] => [a]
  | b :: rest =>
    if a = b then b :: rest
    else if SetId.before a b then a :: b :: rest
    else b :: insertId a rest

/-- The status of page `p`. -/
def SetRecord.status (r : SetRecord) (p : Nat) : PageStatus := (nth1 r.map p).getD .absent

/-- The record with page `p` given a status. -/
def SetRecord.setStatus (r : SetRecord) (p : Nat) (x : PageStatus) : SetRecord := { r with map := set1 r.map p x }

/-- R31: the pages in the set's order. -/
def SetRecord.wanted (r : SetRecord) : List Nat :=
  match r.order with
  | .forward => (List.range r.pages).map (· + 1)
  | .reverse => (List.range r.pages).map (fun i => r.pages - i)

def PageStatus.inboundBinP : PageStatus → Bool
  | .inboundBin => true
  | _ => false

def PageStatus.releasingP : PageStatus → Bool
  | .releasing _ => true
  | _ => false

/-- R30: the statuses of the rack share. -/
def PageStatus.inShare : PageStatus → Bool
  | .inboundRack _ | .held _ | .releasing _ => true
  | _ => false

/-- A page on its way to the bin or to the rack. -/
def PageStatus.inboundP : PageStatus → Bool
  | .inboundBin | .inboundRack _ => true
  | _ => false

/-- R31: a status the finish frontier looks for. -/
def PageStatus.moving : PageStatus → Bool
  | .inboundBin | .inboundRack _ | .held _ | .releasing _ => true
  | .absent | .placed => false

def SetRecord.count (r : SetRecord) (q : PageStatus → Bool) : Nat := (r.map.filter q).length

def SetRecord.anyPage (r : SetRecord) (q : PageStatus → Bool) : Bool := r.map.any q

def SetRecord.placedCount (r : SetRecord) : Nat := r.count (· == .placed)

def SetRecord.absentCount (r : SetRecord) : Nat := r.count (· == .absent)

/-- R30: the rack share. -/
def SetRecord.share (r : SetRecord) : Nat := r.count PageStatus.inShare

/-- R31: the placement frontier. -/
def SetRecord.frontier (r : SetRecord) : Option Nat := r.wanted.find? (fun p => r.status p != .placed)

/-- R31: the finish frontier. -/
def SetRecord.finishFrontier (r : SetRecord) : Option Nat := r.wanted.find? (fun p => (r.status p).moving)

/-- R138: the cost of a set of n pages with PARTIAL clear. -/
def wholeCost (n : Nat) (m : StapleMode) : Nat :=
  if m ≠ .none ∧ 2 ≤ n ∧ n ≤ Config.stapleMaxPages then n + Config.stapleAllowance else n

/-- R138: the cost of a set record. -/
def SetRecord.cost (r : SetRecord) : Nat :=
  if r.isPartial then r.count (· != .absent) else wholeCost r.pages r.staple

/-- R139: what a record adds to its pocket's committed load. -/
def SetRecord.load (r : SetRecord) : Nat := if r.state = .surrendering then 0 else r.cost

/-- The record of a set. -/
def State.findSet (s : State) (id : SetId) : Option SetRecord := s.co.sets.find? (fun r => r.id == id)

/-- R20 Notes: a job with at least one set record here is in use here. -/
def State.jobInUse (s : State) (j : Nat) : Bool := s.co.sets.any (fun r => r.id.job == j)

/-- The job record of a job. -/
def State.findJob (s : State) (j : Nat) : Option JobRecord := s.jt.jobs.find? (fun r => r.job == j)

/-- R70: a set standing in this bay's view. -/
def State.standing (s : State) (id : SetId) : Bool :=
  s.cu.foreign.any (fun e => e.id == id) || s.cu.late.any (fun e => e.id == id)
    || s.co.sets.any (fun r => r.id == id && r.state != .surrendering)

/-! ### Commitments and admissions (R8) -/

def GateState.carries (g : GateState) (a : Action) : Nat :=
  match g with
  | .busy e => if e.action = a then 1 else 0
  | .idle | .faulted => 0

/-- R8: the commitments for REJECT or FILL. -/
def State.commitments (s : State) (a : Action) : Nat :=
  (s.gc.queue.filter (fun e => e.action == a)).length + s.gc.gate.carries a

/-- R8 and R17: the gate takes no new REJECT or FILL in DORMANT, in FAULT(GATE), and while it is FAULTED (log 9). -/
def State.gateShut (s : State) : Bool :=
  s.bs.state == .dormant || s.bs.state == .fault .gate || s.gc.gate == .faulted

/-- R8: reject admission. -/
def State.rejectAdmission (s : State) : Bool :=
  !s.gateShut && s.gc.tray + s.commitments .reject < Config.trayMax

/-- R8: fill admission. -/
def State.fillAdmission (s : State) : Bool := !s.gateShut && s.commitments .fill < s.rf.count

/-- R8: REJECT, or PASS if the tray is full. -/
def State.rejectOrPass (s : State) : Action := if s.rejectAdmission then .reject else .pass

/-! ### Rack, feeder, carriage, jaws -/

/-- R58: an inlet place is free to be reserved. -/
def State.inletPlaceFree (s : State) : Bool :=
  s.hr.inletReserved + s.hr.inlet.length < Config.inletMax && !s.hr.inletOccupied

/-- R55: the lowest-numbered FREE pocket. -/
def State.lowestFree (s : State) : Option Nat :=
  ((List.range s.hr.pockets.length).map (· + 1)).find? (fun k => nth1 s.hr.pockets k == some .free)

/-- R55: the number of FREE pockets. -/
def State.freeRackPockets (s : State) : Nat := (s.hr.pockets.filter (· == .free)).length

/-- R55: the rack is in service. -/
def State.rackInService (s : State) : Bool := s.hr.rack != .outOfService

/-- R67: a gate RACK diversion is in flight. -/
def State.rackDiversionInFlight (s : State) : Bool :=
  match s.gc.gate with
  | .busy e => match e.action with
    | .rack _ => true
    | _ => false
  | _ => false

/-- R101: the Return Feeder has room for m sheets. -/
def State.hasRoom (s : State) (m : Nat) : Bool := s.rf.count + s.rf.onWay + m ≤ Config.feederMax

/-- R98: a bin release of the set is in flight in the rack. -/
def State.binReleaseInFlight (s : State) (id : SetId) : Bool :=
  match s.hr.rack with
  | .busy (.release r) => r.id == id && r.dest != .feeder
  | _ => false

def CarriageRequest.id : CarriageRequest → SetId
  | .transfer i _ => i
  | .unload i _ _ => i

def CarriageRequest.bin : CarriageRequest → Nat
  | .transfer _ b => b
  | .unload _ b _ => b

def CarriageRequest.isUnload : CarriageRequest → Bool
  | .transfer _ _ => false
  | .unload _ _ _ => true

/-- The carriage's request in flight; a stuck request is still in flight (R96, R122, log 18). -/
def State.carriageInFlight (s : State) : Option CarriageRequest :=
  match s.sc.carriage with
  | .idle => none
  | .busy r _ => some r
  | .faulted r _ => some r

/-- R96: the set's TRANSFER is in flight. -/
def State.transferInFlight (s : State) (id : SetId) : Bool :=
  match s.carriageInFlight with
  | some r => !r.isUnload && r.id == id
  | none => false

/-- R98, R100: an UNLOAD of the set is queued or in flight. -/
def State.unloadPending (s : State) (id : SetId) : Bool :=
  s.sc.carriageQueue.any (fun r => r.isUnload && r.id == id)
    || (match s.carriageInFlight with
        | some r => r.isUnload && r.id == id
        | none => false)

/-- R35: a carriage operation on the bin is in flight. -/
def State.carriageOnBin (s : State) (b : Nat) : Bool :=
  match s.carriageInFlight with
  | some r => r.bin == b
  | none => false

def State.jaw (s : State) : JawName → JawState
  | .a => s.sc.jawA
  | .b => s.sc.jawB

/-- R118: a jaw that is LOADING or HOLDING. -/
def JawState.inUse : JawState → Bool
  | .loading _ | .holding _ _ => true
  | .free | .occupied | .outOfService _ => false

def State.jawsInUse (s : State) : Nat := boolBit s.sc.jawA.inUse 1 + boolBit s.sc.jawB.inUse 1

/-- R119: the jaw chosen for a TRANSFER. -/
def State.chooseJaw (s : State) : Option JawName :=
  if s.jaw s.sc.lastJaw.other = .free then some s.sc.lastJaw.other
  else if s.jaw s.sc.lastJaw = .free then some s.sc.lastJaw
  else none

/-! ### Head status (R127) -/

/-- R127: head status. -/
inductive HeadStatus where
  | unknown
  | ok
  | low
  | empty
  | fault
  deriving DecidableEq, Repr

/-- 10.10.2, STATE: the head status code. -/
def HeadStatus.code : HeadStatus → Nat
  | .unknown => 0
  | .ok => 1
  | .low => 2
  | .empty => 3
  | .fault => 4

/-- R127: the head status derived from the marks and the count. -/
def State.headStatus (s : State) : HeadStatus :=
  if s.sc.faultedMark then .fault
  else if s.sc.emptyMark then .empty
  else match s.sc.staples with
    | none => .unknown
    | some n => if n ≤ Config.stapleLow then .low else .ok

/-- R124: the head is able. -/
def HeadStatus.able : HeadStatus → Bool
  | .ok | .low | .unknown => true
  | .empty | .fault => false

/-! ### Delivery pockets -/

/-- R133: bindable. -/
def Pocket.bindable (p : Pocket) : Bool := p.binding == none && p.empty

/-- R145: the pocket lamp. -/
def Pocket.lampOf (p : Pocket) : Lamp :=
  if p.blocked then .blinkFast
  else if p.full then .blinkSlow
  else if p.binding.isSome then .on
  else .off

/-- R134: a flag with its set test and its clear test over the two samples. -/
def twoSample (old : Bool) (set clear : Nat → Bool) (prev now : Nat) : Bool :=
  if set prev && set now then true else if clear prev && clear now then false else old

/-- R134: the pocket record after a height sample, its lamp not yet set. -/
def Pocket.sampled (p : Pocket) (mm : Nat) : Pocket :=
  let q := { p with previous := p.last, last := some mm }
  match p.last with
  | none => q
  | some prev =>
    { q with
      full := twoSample p.full (Config.fullSet ≤ ·) (· ≤ Config.fullClear) prev mm
      blocked := twoSample p.blocked (Config.blockedSet ≤ ·) (· ≤ Config.blockedClear) prev mm
      empty := twoSample p.empty (· ≤ Config.emptySet) (Config.emptySet < ·) prev mm }

/-- R140: a bound pocket admits a set of cost c. A bound pocket always has a last sample (R133 Notes). -/
def Pocket.admits (p : Pocket) (c : Nat) : Bool :=
  !p.full && 10 * p.last.getD 0 + p.committed + c ≤ Config.loadMax

/-! ### The content of a STATE (R152) -/

/-- R32: the free bin count. -/
def State.freeBins (s : State) : Nat := (s.co.bins.filter (· == .available)).length

/-- R112: the stranded count. -/
def State.strandedCount (s : State) : Nat :=
  (s.co.sets.filter (fun r => r.state == .collecting && r.stranded)).length

/-- R152: what a STATE of this moment carries. -/
def State.stateContent (s : State) : StateContent :=
  { bay := s.bs.state.code, head := s.headStatus.code, freeBins := s.freeBins, stranded := s.strandedCount,
    pockets := s.dc.pockets.map (fun p => { job := p.binding.getD 0, full := p.full, blocked := p.blocked }) }

/-! ### Notices -/

def Notice.kind : Notice → NoticeKind
  | .claim _ _ => .claim
  | .held _ => .held
  | .yield _ _ => .yield
  | .done _ => .done
  | .gone _ => .gone
  | .state => .state
  | .hello => .hello
  | .reprint _ _ => .reprint
  | .report _ _ _ => .report

/-- 10.10.2: the body of one of this bay's notices, formed now. -/
def State.bodyOf (s : State) : Notice → List Byte
  | .claim id n => claimBody id n
  | .held ids => heldBody ids
  | .yield id r => yieldBody id r
  | .done d => doneBody d
  | .gone x => goneBody x
  | .state => stateBody s.stateContent
  | .hello => helloBody s.station s.binsFitted
  | .reprint id ps => reprintBody id ps
  | .report item index data => reportBody item index data

/-- The frame of one of this bay's notices, formed now (R146, 10.10.1). -/
def State.frameOf (s : State) (n : Notice) : Frame :=
  { cls := n.kind.cls, origin := s.bs.straps.station, body := s.bodyOf n }

/-- A frame of this bay is on the line. -/
def State.onLine (s : State) : Bool := (s.lc.urgent ++ s.lc.routine).any (fun e => e.onLine.isSome)

end Sys2Proof.Machine
end

