-- ==== Sys2Proof/Machine/Ops.lean ====
section
/-!
DEFINITION. The named operations over single pieces of state: queueing a notice, wanting a STATE, reading and writing a set
record, a bin, a delivery pocket, a job record. Each reports what it changes of a STATE's content (R152).
-/

namespace Sys2Proof.Machine

/-! ### Transmit queues (R151, R152) -/

/-- A notice as it stands in a transmit queue when it is queued. -/
def TxEntry.fresh (n : Notice) : TxEntry := { notice := n, attempts := 0, withdrawn := false, onLine := none }

/-- The entry is notice `n`, queued and not on the line. -/
def TxEntry.waitingAs (e : TxEntry) (n : Notice) : Bool := e.notice == n && e.onLine.isNone

def State.urgentRoom (s : State) : Bool := s.lc.urgent.length < Config.urgentMax

def State.routineRoom (s : State) : Bool := s.lc.routine.length < Config.routineMax

def State.pushUrgent (s : State) (n : Notice) : State :=
  { s with lc := { s.lc with urgent := s.lc.urgent ++ [TxEntry.fresh n] } }

def State.pushRoutine (s : State) (n : Notice) : State :=
  { s with lc := { s.lc with routine := s.lc.routine ++ [TxEntry.fresh n] } }

/-- R152: a STATE is queued, and the cadence timer restarts. -/
def State.pushState (s : State) : State :=
  { s with lc := { s.lc with routine := s.lc.routine ++ [TxEntry.fresh .state], cadence := true } }

/-- R151: LC holds a notice due, at most one of each. -/
def State.addDue (s : State) (k : DueKind) : State :=
  if s.lc.due.any (fun d => d.kind == k) then s
  else { s with lc := { s.lc with due := s.lc.due ++ [{ kind := k, since := s.lc.stamp }], stamp := s.lc.stamp + 1 } }

/-- R152: a STATE is wanted. -/
def State.wantState (s : State) : State :=
  if s.bs.state = .dormant then s
  else if s.lc.routine.any (fun e => e.waitingAs .state) then s
  else if s.routineRoom then s.pushState
  else s.addDue .state

/-- R152: the owners report a change of a STATE's content between `old` and `new`. -/
def State.tell (old new : State) : State := if old.stateContent = new.stateContent then new else new.wantState

/-- R162: a HELLO is wanted. -/
def State.wantHello (s : State) : State :=
  if s.lc.routine.any (fun e => e.waitingAs .hello) then s
  else if s.routineRoom then s.pushRoutine .hello
  else s.addDue .hello

/-- R154: GONE(x) is made due. -/
def State.wantGone (s : State) (x : Nat) : State :=
  if s.routineRoom then s.pushRoutine (.gone x) else s.addDue (.gone x)

/-- R150, R159: a notice refused as malformed is counted. -/
def State.countMalformed (s : State) : State :=
  { s with lc := { s.lc with malformed := count s.lc.malformed } }

/-- R53: a refused set action is counted. -/
def State.countRefused (s : State) : State := { s with co := { s.co with refused := count s.co.refused } }

/-! ### Bins (R32) -/

def State.binState (s : State) (b : Nat) : Option BinState := nth1 s.co.bins b

/-- Bin `b` takes a state; a change of the free bin count is reported (R32). -/
def State.setBin (s : State) (b : Nat) (x : BinState) : State :=
  s.tell { s with co := { s.co with bins := set1 s.co.bins b x } }

/-- R34: a bin that stops being ASSIGNED becomes AVAILABLE; a JAMMED one stays JAMMED (R35). -/
def State.freeBin (s : State) (b : Nat) : State :=
  if s.binState b = some .assigned then s.setBin b .available else s

/-! ### Delivery pockets (R133, R137, R139) -/

/-- The record of pocket `p` changed, and its lamp set afresh (R145). -/
def State.changePocket (s : State) (p : Nat) (f : Pocket → Pocket) : State :=
  s.tell
    { s with
      dc := { s.dc with
        pockets := modify1 s.dc.pockets p (fun x => let y := f x; { y with lamp := y.lampOf }) } }

/-- R137: the job has no record, or its record is not OPEN. -/
def State.jobEnded (s : State) (j : Nat) : Bool :=
  match s.findJob j with
  | none => true
  | some r => r.state != .opened

/-- R137: the unbinding test holds for a pocket record. -/
def State.unbindable (s : State) (x : Pocket) : Bool :=
  match x.binding with
  | none => false
  | some j => s.jobEnded j && x.refs == 0 && x.empty

/-- R137: the unbinding test of pocket `p`. -/
def State.unbindingTest (s : State) (p : Nat) : State :=
  match nth1 s.dc.pockets p with
  | none => s
  | some x => if s.unbindable x then s.changePocket p (fun y => { y with binding := none }) else s

/-- R137: the unbinding test of every pocket bound to job `j`. -/
def State.unbindJob (s : State) (j : Nat) : State :=
  (numbers s.dc.pockets.length).foldl
    (fun t p => if (nth1 t.dc.pockets p).any (fun x => x.binding == some j) then t.unbindingTest p else t) s

/-! ### Set records (R29, R139) -/

/-- A set record replaced by `r`, the record of the same set; its pocket's committed load follows (R139), and a change of the
stranded count is reported (R112). -/
def State.putSet (s : State) (r : SetRecord) : State :=
  match s.findSet r.id with
  | none => s
  | some old =>
    s.tell
      { s with
        co := { s.co with sets := s.co.sets.map (fun q => if q.id = r.id then r else q) }
        dc := { s.dc with
          pockets := modify1 s.dc.pockets r.pocket
            (fun p => { p with committed := p.committed + r.load - old.load }) } }

/-- The record of a set changed by `f`, when it exists. -/
def State.updSet (s : State) (id : SetId) (f : SetRecord → SetRecord) : State :=
  match s.findSet id with
  | none => s
  | some r => s.putSet (f r)

/-- R114: leaving COLLECTING ends a waiting REPRINT. -/
def SetRecord.toState (r : SetRecord) (x : SetState) : SetRecord :=
  { r with
    state := x
    waiting := if r.state = .collecting ∧ x ≠ .collecting then .none else r.waiting }

/-- Page `p` of a set takes a status. -/
def State.setPage (s : State) (id : SetId) (p : Nat) (x : PageStatus) : State :=
  s.updSet id (fun r => r.setStatus p x)

/-- R108: progress of a set. -/
def State.progress (s : State) (id : SetId) : State :=
  s.updSet id (fun r => { r with attempts := 0, countdown := 0, stranded := false })

/-- R107: the sighting of a set. -/
def State.sighting (s : State) (id : SetId) : State := s.updSet id (fun r => { r with watch := 0 })

/-- A set record put in its place in ascending order. -/
def insertRecord (r : SetRecord) : List SetRecord → List SetRecord
  | [] => [r]
  | q :: rest => if r.id.before q.id then r :: q :: rest else q :: insertRecord r rest

/-- R135, R136, R139: a record joins the table; its pocket gains a reference and the set's cost. -/
def State.addSet (s : State) (r : SetRecord) : State :=
  s.tell
    { s with
      co := { s.co with sets := insertRecord r s.co.sets, made := s.co.made + 1 }
      dc := { s.dc with
        pockets := modify1 s.dc.pockets r.pocket
          (fun p => { p with committed := p.committed + r.load, refs := p.refs + 1 }) } }

/-- The record of a set leaves the table; its pocket loses the reference and the cost (R136, R139), and the unbinding test
follows (R136). -/
def State.dropSet (s : State) (r : SetRecord) : State :=
  (s.tell
    { s with
      co := { s.co with sets := s.co.sets.filter (fun q => q.id != r.id) }
      dc := { s.dc with
        pockets := modify1 s.dc.pockets r.pocket
          (fun p => { p with committed := p.committed - r.load, refs := p.refs - 1 }) } }).unbindingTest r.pocket

/-! ### Job records (R20, R26, R27) -/

/-- A job record replaced in its place in the announcement order. -/
def State.putJob (s : State) (r : JobRecord) : State :=
  { s with jt := { s.jt with jobs := s.jt.jobs.map (fun q => if q.job = r.job then r else q) } }

/-- A job record put at the most recent end of the announcement order (R20). -/
def State.announceJob (s : State) (r : JobRecord) : State :=
  { s with jt := { s.jt with jobs := s.jt.jobs.filter (fun q => q.job != r.job) ++ [r] } }

/-- R27: the record after the test for completion by count. -/
def JobRecord.countTested (r : JobRecord) : JobRecord :=
  match r.setCount with
  | none => r
  | some n => if n ≤ r.doneMap.length then { r with state := .complete } else r

/-- A done-set map with a set number added in ascending order. -/
def insertNum (n : Nat) : List Nat → List Nat
  | [] => [n]
  | m :: rest => if n < m then n :: m :: rest else m :: insertNum n rest

/-- R26, R27: a set joins the done-set map of its job; a record that becomes COMPLETE has its pocket's unbinding test (R137). -/
def State.addDone (s : State) (id : SetId) : State :=
  match s.findJob id.job with
  | none => s
  | some r =>
    if r.doneMap.contains id.num then s
    else
      let r' := ({ r with doneMap := insertNum id.num r.doneMap }).countTested
      let t := s.putJob r'
      if r'.state = r.state then t else t.unbindJob id.job

end Sys2Proof.Machine
end

