-- ==== Sys2Proof/Machine/Units.lean ====
section
/-!
DEFINITION. The units that take one request at a time and the tests that issue their requests: the rack's arbiter (R60), the
carriage's start test (R118), the head's issue (R124), the delivery issue test (R141), and the Return Feeder's report of
a change in its room (R101).
-/

namespace Sys2Proof.Machine

/-! ### Rack -/

/-- R60: with the rack IDLE, the request the arbiter chooses is issued, if there is one. -/
def State.arbiterIssue (s : State) : State :=
  if s.hr.rack = .idle then
    match s.hr.inlet with
    | e :: _ => { s with hr := { s.hr with rack := .busy (.store e) } }
    | [] =>
      match s.hr.releases with
      | [] => s
      | r :: rest =>
        match r.dest with
        | .bin _ => { s with hr := { s.hr with rack := .busy (.release r), releases := rest } }
        | .feeder =>
          if s.hasRoom 1 then
            { s with hr := { s.hr with rack := .busy (.release r), releases := rest }
                     rf := { s.rf with onWay := s.rf.onWay + 1 } }
          else s
  else s

/-! ### Carriage -/

def State.setJaw (s : State) (j : JawName) (x : JawState) : State :=
  match j with
  | .a => { s with sc := { s.sc with jawA := x } }
  | .b => { s with sc := { s.sc with jawB := x } }

/-- R118: with the carriage IDLE, the head of its queue is started when its conditions hold. -/
def State.carriageIssue (s : State) : State :=
  if s.sc.carriage = .idle then
    match s.sc.carriageQueue with
    | [] => s
    | .transfer id b :: rest =>
      match s.chooseJaw with
      | none => s
      | some j =>
        if s.sc.doneList.length < Config.doneMax - s.jawsInUse then
          let t : State := { s with sc := { s.sc with
            carriageQueue := rest, carriage := .busy (.transfer id b) (some j), lastJaw := j } }
          t.setJaw j (.loading id)
        else s
    | .unload id b m :: rest =>
      if s.hasRoom m then
        { s with sc := { s.sc with carriageQueue := rest, carriage := .busy (.unload id b m) none }
                 rf := { s.rf with onWay := s.rf.onWay + m } }
      else s
  else s

/-- R60: the arbiter's run; a feeder release it issues changes the on-way count, which R101 reports to the carriage. -/
def State.arbiter (s : State) : State :=
  let t := s.arbiterIssue
  if t.rf.onWay = s.rf.onWay then t else t.carriageIssue

/-- R118: the start test; an UNLOAD it starts changes the on-way count, which R101 reports to the rack's arbiter. -/
def State.startTest (s : State) : State :=
  let t := s.carriageIssue
  if t.rf.onWay = s.rf.onWay then t else t.arbiterIssue

/-- R101: the Return Feeder reports a change in its room, first to the rack's arbiter, then to the carriage. -/
def State.roomReport (s : State) : State := s.arbiter.startTest

/-- R62: a release joins the queue; with the rack IDLE the arbiter runs. -/
def State.queueRelease (s : State) (r : Release) : State :=
  let t : State := { s with hr := { s.hr with releases := s.hr.releases ++ [r] } }
  t.arbiter

/-- R117, R118: a request joins the carriage queue; the start test follows when the queue was empty. -/
def State.queueCarriage (s : State) (r : CarriageRequest) : State :=
  let t := { s with sc := { s.sc with carriageQueue := s.sc.carriageQueue ++ [r] } }
  if s.sc.carriageQueue = [] then t.startTest else t

/-- R117: the queued, unstarted request of a set of the kind named is withdrawn; the start test follows when it was the head. -/
def State.withdrawCarriage (s : State) (id : SetId) (unload : Bool) : State :=
  let hit := fun (r : CarriageRequest) => r.id == id && r.isUnload == unload
  let t := { s with sc := { s.sc with carriageQueue := s.sc.carriageQueue.filter (fun r => !hit r) } }
  if s.sc.carriageQueue.head?.any hit then t.startTest else t

/-! ### Head -/

/-- R124: with the head IDLE and able, STAPLE is issued for the set at the head of the head queue. -/
def State.headIssue (s : State) : State :=
  if s.sc.head = .idle ∧ s.headStatus.able = true then
    match s.sc.headQueue with
    | [] => s
    | j :: _ =>
      match s.jaw j with
      | .holding _ st => { s with sc := { s.sc with head := .busy j st.owed } }
      | _ => s
  else s

/-! ### Delivery -/

/-- R141: the issue test of pocket `p`. -/
def State.deliverTest (s : State) (p : Nat) : State :=
  match nth1 s.dc.pockets p with
  | none => s
  | some x =>
    if x.blocked = false ∧ x.inFlight = none then
      match s.dc.list.find? (fun e => e.pocket == p) with
      | none => s
      | some e =>
        let side := match x.side with
          | .left => Side.right
          | .right => Side.left
        { s with dc := { s.dc with
          list := s.dc.list.erase e
          pockets := set1 s.dc.pockets p { x with side := side, inFlight := some e.jaw } } }
    else s

/-- R141: the issue test of every pocket, in ascending order (log 34). -/
def State.deliverTests (s : State) : State :=
  (numbers s.dc.pockets.length).foldl (fun t p => t.deliverTest p) s

/-- R123, R125: the outcome of the set in jaw `j` is fixed. -/
def State.fixOutcome (s : State) (j : JawName) (o : SetOutcome) : State :=
  match s.jaw j with
  | .holding id st => s.setJaw j (.holding id { st with outcome := some o })
  | _ => s

/-- R128, R141: the set in jaw `j` becomes DELIVERING and is handed to the Delivery Controller with its outcome. -/
def State.handOver (s : State) (j : JawName) (id : SetId) (o : SetOutcome) : State :=
  match s.findSet id with
  | none => s
  | some r =>
    let t := (s.putSet (r.toState .delivering)).fixOutcome j o
    let e : DeliveryEntry := { jaw := j, id := id, pocket := r.pocket, outcome := o }
    let u : State := { t with dc := { t.dc with list := t.dc.list ++ [e] } }
    u.deliverTests

end Sys2Proof.Machine
end

