-- ==== Sys2Proof/Machine/Link.lean ====
section
/-!
DEFINITION. The Link Controller's queues (R147 to R154) and the Claim Unit's waiting notices (R82, R88, R94): refilling a
queue that gains room, withdrawing a notice, an attempt's start and end, presence, and the acceptance of a heard notice.
-/

namespace Sys2Proof.Machine

/-! ### Refilling the routine queue (R129, R151) -/

/-- R129: the DONE at the head of the DONE list is queued; the list loses an entry, so the start test follows (R118). -/
def State.queueDone (s : State) : State :=
  match s.sc.doneList with
  | [] => s
  | d :: rest =>
    let t : State := { s with sc := { s.sc with doneList := rest } }
    (t.pushRoutine (.done d.notice)).startTest

/-- R151: LC's earliest due notice is queued. -/
def State.queueDue (s : State) : State :=
  match s.lc.due with
  | [] => s
  | d :: rest =>
    let t : State := { s with lc := { s.lc with due := rest } }
    match d.kind with
    | .state => t.pushState
    | .hello => t.pushRoutine .hello
    | .gone x => t.pushRoutine (.gone x)

/-- R151: whether the next place of the routine queue goes to LC's earliest due notice, before the DONE list's head. -/
def State.dueFirst (s : State) : Bool :=
  match s.lc.due, s.sc.doneList with
  | [], _ => false
  | _ :: _, [] => true
  | d :: _, e :: _ => d.since < e.since

/-- R151: one place of the routine queue is given away, when there is one and it is wanted. -/
def State.fillPlace (s : State) : State :=
  if s.routineRoom then (if s.dueFirst then s.queueDue else s.queueDone) else s

/-- R129, R151: places of the routine queue are given away, `n` at most. -/
def State.fillPlaces : Nat → State → State
  | 0, s => s
  | n + 1, s => State.fillPlaces n s.fillPlace

/-- R129, R151: the routine queue has gained room. -/
def State.refillRoutine (s : State) : State := State.fillPlaces (s.lc.due.length + s.sc.doneList.length) s

/-- R129: a DONE joins the DONE list; queued at once when the list was empty and the routine queue has room. -/
def State.joinDone (s : State) (d : DoneNotice) : State :=
  let t : State :=
    { s with
      sc := { s.sc with doneList := s.sc.doneList ++ [{ notice := d, since := s.lc.stamp }] }
      lc := { s.lc with stamp := s.lc.stamp + 1 } }
  if s.sc.doneList = [] then t.refillRoutine else t

/-! ### Refilling the urgent queue (R82, R88, R94) -/

/-- R88: the set is still held by the terms of the backlog. -/
def State.stillHeld (s : State) (id : SetId) : Bool :=
  s.co.sets.any (fun r => r.id == id && r.state != .claiming && r.state != .surrendering)
    || s.cu.late.any (fun e => e.id == id && !e.queued)

/-- R72: the YIELD(LATE) of a late claim has been queued. -/
def ClaimUnit.markQueued (c : ClaimUnit) (id : SetId) : ClaimUnit :=
  { c with late := c.late.map (fun e => if e.id = id then { e with queued := true } else e) }

/-- R88: a HELD is formed from the backlog, after the sets no longer held have been removed from it. -/
def State.formHeld (s : State) (rest : List Waiting) : State :=
  let live := s.cu.backlog.filter s.stillHeld
  let left := live.drop Config.heldMax
  let t : State := { s with cu := { s.cu with
    backlog := left, waiting := if left = [] then rest else .helds :: rest } }
  if live = [] then t else t.pushUrgent (.held (live.take Config.heldMax))

/-- R94: the Claim Unit's earliest waiting notice is queued, when there is one and the urgent queue has room. -/
def State.queueWaiting (s : State) : State :=
  if s.urgentRoom then
    match s.cu.waiting with
    | [] => s
    | .yield id r :: rest =>
      let c := { s.cu with waiting := rest }
      let t : State := { s with cu := if r = .late then c.markQueued id else c }
      t.pushUrgent (.yield id r)
    | .helds :: rest => s.formHeld rest
  else s

def State.queueWaitings : Nat → State → State
  | 0, s => s
  | n + 1, s => State.queueWaitings n s.queueWaiting

/-- R82, R88, R94: the urgent queue has gained room. -/
def State.refillUrgent (s : State) : State := State.queueWaitings (s.cu.waiting.length + s.cu.backlog.length) s

/-- R82, R94: a YIELD becomes due, and is queued at once when the urgent queue has room. -/
def State.dueYield (s : State) (id : SetId) (r : YieldReason) : State :=
  let t : State := { s with cu := { s.cu with waiting := s.cu.waiting ++ [.yield id r] } }
  t.refillUrgent

/-! ### Withdrawing (R83, R148) -/

/-- R148: the notices named that are not on the line leave a queue. -/
def dropWaiting (q : List TxEntry) (hit : Notice → Bool) : List TxEntry :=
  q.filter (fun e => !(hit e.notice && e.onLine.isNone))

/-- R83, R148: the notices named leave a queue at once, or are marked withdrawn while on the line. -/
def withdrawFrom (q : List TxEntry) (hit : Notice → Bool) : List TxEntry :=
  (dropWaiting q hit).map (fun e => if hit e.notice then { e with withdrawn := true } else e)

/-- Notices of the urgent queue are withdrawn; room they leave is given to the waiting notices. -/
def State.withdrawUrgent (s : State) (hit : Notice → Bool) : State :=
  let t : State := { s with lc := { s.lc with urgent := withdrawFrom s.lc.urgent hit } }
  if t.lc.urgent.length = s.lc.urgent.length then t else t.refillUrgent

/-- The notice is this bay's CLAIM for the set. -/
def Notice.isClaimOf (id : SetId) : Notice → Bool
  | .claim i _ => i == id
  | _ => false

def Notice.isHeldOrYield : Notice → Bool
  | .held _ | .yield _ _ => true
  | _ => false

/-- R83: this bay's CLAIM for a set is withdrawn. -/
def State.withdrawClaim (s : State) (id : SetId) : State := s.withdrawUrgent (Notice.isClaimOf id)

/-- The due notice is a GONE of a station named. -/
def Due.isGoneOf (of : Nat → Bool) (d : Due) : Bool :=
  match d.kind with
  | .gone x => of x
  | .state | .hello => false

/-- The notice is a GONE of a station named. -/
def Notice.isGoneOf (of : Nat → Bool) : Notice → Bool
  | .gone x => of x
  | _ => false

/-- Due GONEs of the stations named are removed, and the routine queue becomes `q`; room it gains is given away. -/
def State.removeGone (s : State) (of : Nat → Bool) (q : List TxEntry) : State :=
  let t : State := { s with lc := { s.lc with due := s.lc.due.filter (fun d => !d.isGoneOf of), routine := q } }
  if q.length = s.lc.routine.length then t else t.refillRoutine

/-- R154, R157: due GONEs are removed and queued ones withdrawn, of the stations named; one on the line is marked withdrawn. -/
def State.cancelGone (s : State) (of : Nat → Bool) : State :=
  s.removeGone of (withdrawFrom s.lc.routine (Notice.isGoneOf of))

/-- R154: at another bay's GONE(x) the due GONE(x) is removed and a queued one that is not on the line is withdrawn; one on the
line goes out as it stands, and is retried and counted as any other notice. -/
def State.yieldGone (s : State) (x : Nat) : State :=
  s.removeGone (· == x) (dropWaiting s.lc.routine (Notice.isGoneOf (· == x)))

/-! ### Attempts (R147, R148) -/

/-- R147: a frame of class and origin `a` takes the line from one of class and origin `b`: sent most significant bit first,
dominant (0) overriding, the lower class wins, and among equal classes the lower origin. -/
def outranks (a b : BitVec 2 × BitVec 4) : Bool := (a.1 ++ a.2).toNat < (b.1 ++ b.2).toNat

/-- The entry with its frame on the line: an attempt (R148). -/
def State.starting (s : State) (e : TxEntry) : TxEntry :=
  { e with attempts := e.attempts + 1, onLine := some (s.frameOf e.notice) }

/-- R147: LC offers a notice on the idle line; it loses to a better frame started at the same moment, which is no attempt,
and otherwise its frame takes the line. -/
def State.offerNotice (s : State) (contender : Option (BitVec 2 × BitVec 4)) : State :=
  let lost := fun (e : TxEntry) => contender.any (fun c => outranks c (e.notice.kind.cls, s.bs.straps.station))
  match s.lc.urgent, s.lc.routine with
  | e :: rest, _ => if lost e then s else { s with lc := { s.lc with urgent := s.starting e :: rest } }
  | [], e :: rest => if lost e then s else { s with lc := { s.lc with routine := s.starting e :: rest } }
  | [], [] => s

/-- The notice whose frame is on the line leaves its queue, which gains room. -/
def State.leaveLine (s : State) : State :=
  let off := fun (e : TxEntry) => e.onLine.isNone
  let t : State := { s with lc := { s.lc with
    urgent := s.lc.urgent.filter off, routine := s.lc.routine.filter off } }
  let u := if t.lc.urgent.length = s.lc.urgent.length then t else t.refillUrgent
  if t.lc.routine.length = s.lc.routine.length then u else u.refillRoutine

/-- The entry whose frame is on the line. -/
def State.lineEntry (s : State) : Option TxEntry := (s.lc.urgent ++ s.lc.routine).find? (fun e => e.onLine.isSome)

/-- R148: the spoiled notice stays in its queue and is offered again. -/
def State.offLine (s : State) : State :=
  let off := fun (e : TxEntry) => { e with onLine := none }
  { s with lc := { s.lc with urgent := s.lc.urgent.map off, routine := s.lc.routine.map off } }

/-! ### Presence (R149, R153, R154) -/

def State.peer (s : State) (x : Nat) : Peer := (nth1 s.lc.peers x).getD Peer.absent

def State.setPeer (s : State) (x : Nat) (p : Peer) : State :=
  { s with lc := { s.lc with peers := set1 s.lc.peers x p } }

/-- R149 step 3, R154: a notice heard from another station marks it present, restarts its presence timer while the link watch
is on, and removes or withdraws this bay's GONE for it. -/
def State.markPresent (s : State) (x : Nat) : State :=
  let p := s.peer x
  let t := s.setPeer x { p with present := true, timer := s.bs.state.linkWatch }
  t.cancelGone (· == x)

/-- R148, R154: a dropped GONE restarts the presence timer of the station it names, if it is still present. -/
def State.restartPresence (s : State) (x : Nat) : State :=
  let p := s.peer x
  if p.present && s.bs.state.linkWatch then s.setPeer x { p with timer := true } else s

/-- R148: an attempt of this bay's notice ends spoiled. -/
def State.attemptSpoiled (s : State) : State :=
  match s.lineEntry with
  | none => s
  | some e =>
    let t : State := { s with lc := { s.lc with spoiled := count s.lc.spoiled } }
    if e.withdrawn then t.leaveLine
    else if e.attempts < Config.attemptsMax then t.offLine
    else
      let u : State := { t with lc := { t.lc with dropped := count t.lc.dropped } }
      match e.notice with
      | .gone x => (u.restartPresence x).leaveLine
      | _ => u.leaveLine

/-! ### This bay's own attempt (R149 step 1) -/

/-- The heard frame is this bay's own attempt: the frame it has on the line, field for field (log 5). -/
def State.ownAttempt (s : State) (kind : BitVec 6) (f : Frame) : Bool :=
  match s.lineEntry with
  | none => false
  | some e => e.notice.kind.code == kind && e.onLine == some f

end Sys2Proof.Machine
end

