-- ==== Sys2Proof/Machine/Bay.lean ====
section
/-!
DEFINITION. Bay State Control's changes of bay state (chapter 11): entry to JOINING, the drain test and the rejoin test. The
entry to FAULT stands in Faults.lean, since it surrenders sets.
-/

namespace Sys2Proof.Machine

/-- R169: a change of bay state sets the bay lamp and wants a STATE. -/
def State.setBay (s : State) (x : BayState) : State :=
  let t : State := { s with bs := { s.bs with state := x, lamp := bayLamp s.bs.straps.good x } }
  t.wantState

/-- R90: the Claim Unit at entry to JOINING. -/
def ClaimUnit.joining (c : ClaimUnit) : ClaimUnit :=
  { c with foreign := [], late := [], backlog := [], waiting := c.waiting.filter (· != .helds) }

/-- R90, R157, R162: entry to JOINING. The STATE of the change is wanted first, then the HELLO (log 13). -/
def State.enterJoining (s : State) : State :=
  let t := s.setBay .joining
  let u : State :=
    { t with
      cu := t.cu.joining
      lc := { t.lc with peers := t.lc.peers.map (fun _ => Peer.absent), silence := true }
      bs := { t.bs with join := .awaitingEcho } }
  u.wantHello

/-- R162: the listen period ends, and the bay enters ACTIVE with the join timer stopped. -/
def State.enterActive (s : State) : State :=
  let t := s.setBay .active
  { t with bs := { t.bs with join := .stopped } }

/-- R164: the drain test. -/
def State.drainTest (s : State) : State :=
  if s.bs.state = .draining ∧ s.co.sets = [] then s.setBay .service else s

/-- R167: the rejoin test. -/
def State.rejoinTest (s : State) : State :=
  if s.bs.state.selfClearing = true ∧ s.bs.heard = true ∧ s.co.sets = [] then s.enterJoining else s

/-- A set record is removed from the set table (R136), with the drain test and the rejoin test that follow (R164, R167). -/
def State.removeSet (s : State) (id : SetId) : State :=
  match s.findSet id with
  | none => s
  | some r => (s.dropSet r).drainTest.rejoinTest

/-- R167: a valid notice was heard in a fault that clears itself. -/
def State.setHeard (s : State) : State :=
  let t : State := { s with bs := { s.bs with heard := true } }
  t.rejoinTest

end Sys2Proof.Machine
end

