-- ==== Sys2Proof/Machine/Sets.lean ====
section
/-!
DEFINITION. The course of a set record: the unload and removal tests (R98, R100), the release test (R47), surrender (R93),
completion (R49, R51), the undoing of a diversion (R44), and the page changes at completions (R43, R45, R46).
-/

namespace Sys2Proof.Machine

/-! ### Surrendering records -/

/-- R98: the unload test is settled for a record. -/
def State.unloadSettled (s : State) (r : SetRecord) : Bool :=
  r.state == .surrendering && r.bin.isSome && !r.anyPage PageStatus.inboundBinP
    && !s.binReleaseInFlight r.id && !s.unloadPending r.id

/-- R98: the unload test. -/
def State.unloadTest (s : State) (id : SetId) : State :=
  match s.findSet id with
  | none => s
  | some r =>
    match r.bin with
    | none => s
    | some b =>
      if s.unloadSettled r then
        if r.placedCount = 0 then (s.freeBin b).putSet { r with bin := none }
        else s.queueCarriage (.unload id b r.placedCount)
      else s

/-- R100: the removal test holds for a record. -/
def State.removable (s : State) (r : SetRecord) : Bool :=
  r.state == .surrendering && r.bin == none && r.map.all (· == .absent) && !s.unloadPending r.id

/-- R100: the removal test. -/
def State.removalTest (s : State) (id : SetId) : State :=
  match s.findSet id with
  | none => s
  | some r => if s.removable r then s.removeSet id else s

/-! ### Approach entries undone (R13, R14, R44, R57) -/

/-- R57: the reservation of pocket `k` for a page is undone, when the pocket is still RESERVED for it. -/
def State.undoReservation (s : State) (k : Nat) (id : SetId) (page : Nat) : State :=
  if nth1 s.hr.pockets k = some (.reserved id page) then
    { s with hr := { s.hr with pockets := set1 s.hr.pockets k .free, inletReserved := s.hr.inletReserved - 1 } }
  else s

/-- The record an approach entry was made for, while it still exists (R44, log 10). -/
def State.recordOf (s : State) (t : PageRef) : Option SetRecord :=
  match s.findSet t.id with
  | none => none
  | some r => if r.record = t.record then some r else none

/-- R44: a page still inbound goes back to ABSENT. Where another copy's read has made the page INBOUND_BIN while the RACK
diversion that fails was in flight (a rack fault came between), it goes back to ABSENT too: DESIGN CHOICE (log 39). -/
def State.undoPage (s : State) (t : PageRef) : State :=
  match s.recordOf t with
  | none => s
  | some r => if (r.status t.page).inboundP then s.setPage t.id t.page .absent else s

/-- R13: what an entry's action holds is undone, without the tests that follow for its set. The commitments of a REJECT or FILL
entry go with the entry (R8). -/
def State.undoAction (s : State) (e : Entry) : State :=
  match e.action, e.target with
  | .bin _, some t => s.undoPage t
  | .rack k, some t => (s.undoPage t).undoReservation k t.id t.page
  | _, _ => s

/-- R14: the entry rewritten to PASS keeps its carrier. -/
def Entry.asPass (e : Entry) : Entry := { e with action := .pass, target := none }

/-- R14: the approach entries of a set are rewritten to PASS and undone. -/
def State.rewriteSet (s : State) (id : SetId) : State :=
  let hit := fun (e : Entry) => e.target.any (fun t => t.id == id)
  let t := (s.gc.queue.filter hit).foldl State.undoAction s
  { t with gc := { t.gc with queue := t.gc.queue.map (fun e => if hit e then e.asPass else e) } }

/-! ### Surrender (R93) -/

/-- R63: the queued releases of a set are redirected to the return feeder. -/
def State.redirect (s : State) (id : SetId) : State :=
  { s with hr := { s.hr with
    releases := s.hr.releases.map (fun r => if r.id = id then { r with dest := .feeder } else r) } }

/-- R45, R93 step 7: a HELD page is released to the return feeder. -/
def State.releaseToFeeder (s : State) (id : SetId) (p : Nat) : State :=
  match s.findSet id with
  | none => s
  | some r =>
    match r.status p with
    | .held k => (s.setPage id p (.releasing k)).queueRelease { pocket := k, id := id, page := p, dest := .feeder }
    | _ => s

/-- R93 steps 1 to 3: the deadline and the CLAIM of a CLAIMING record, the change of state, a queued TRANSFER. -/
def State.beginSurrender (s : State) (r : SetRecord) : State :=
  let s1 := if r.state = .claiming then s.withdrawClaim r.id else s
  let s2 := s1.putSet { r.toState .surrendering with deadline := false }
  let s3 : State := { s2 with co := { s2.co with surrenders := Machine.count s2.co.surrenders } }
  if r.state = .complete then s3.withdrawCarriage r.id false else s3

/-- R93 steps 4 to 8: the YIELD when the cause gives a reason and the record was not CLAIMING (R81), the approach entries, the
releases to the return feeder, and the unload and removal tests. Step 6 went with the change of state (R139). -/
def State.endSurrender (s : State) (r : SetRecord) (reason : Option YieldReason) : State :=
  let s4 : State := match reason with
    | some x => if r.state = .claiming then s else s.dueYield r.id x
    | none => s
  let s7 : State := r.wanted.foldl (fun (t : State) p => t.releaseToFeeder r.id p) ((s4.rewriteSet r.id).redirect r.id)
  (s7.unloadTest r.id).removalTest r.id

/-- R93: a set is surrendered with a reason for its YIELD, or none. -/
def State.surrender (s : State) (id : SetId) (reason : Option YieldReason) : State :=
  match s.findSet id with
  | none => s
  | some r => (s.beginSurrender r).endSurrender r reason

/-- R92: the record states a cause may surrender, with a COMPLETE set's transfer not in flight (R96). -/
def State.surrenderable (s : State) (r : SetRecord) : Bool :=
  match r.state with
  | .claiming | .collecting | .finishing => true
  | .complete => !s.transferInFlight r.id
  | .inJaw | .delivering | .surrendering => false

/-- R96: every set that STOP or a fault surrenders, in ascending order of job and set (log 12). -/
def State.surrenderAll (s : State) (reason : Option YieldReason) : State :=
  (s.co.sets.map (fun r => r.id)).foldl
    (fun t id => if (t.findSet id).any t.surrenderable then t.surrender id reason else t) s

/-! ### Release chain and completion (R47, R49, R51) -/

/-- R47: the page the release test starts a release for, with its pocket. -/
def SetRecord.releasePage (r : SetRecord) : Option (Nat × Nat) :=
  let next := match r.state with
    | .claiming | .collecting => if r.anyPage PageStatus.inboundBinP then none else r.frontier
    | .finishing => r.finishFrontier
    | _ => none
  match next with
  | none => none
  | some p =>
    match r.status p with
    | .held k => if r.anyPage PageStatus.releasingP then none else some (p, k)
    | _ => none

/-- R47: the release test. -/
def State.releaseTest (s : State) (id : SetId) : State :=
  match s.findSet id with
  | none => s
  | some r =>
    match r.bin, r.releasePage with
    | some b, some (p, k) =>
      (s.setPage id p (.releasing k)).queueRelease { pocket := k, id := id, page := p, dest := .bin b }
    | _, _ => s

/-- R49, R51: a set becomes COMPLETE and its TRANSFER is queued (R117). -/
def State.completeSet (s : State) (r : SetRecord) (isPartial : Bool) : State :=
  (s.putSet { r.toState .complete with isPartial := isPartial }).queueCarriage (.transfer r.id (r.bin.getD 0))

/-- R49, R51: the completion test. -/
def State.completionTest (s : State) (id : SetId) : State :=
  match s.findSet id with
  | none => s
  | some r =>
    match r.state with
    | .collecting => if r.map.all (· == .placed) then s.completeSet r false else s
    | .finishing =>
      if r.anyPage PageStatus.moving then s
      else if r.placedCount = 0 then s.surrender id (some .staff)
      else s.completeSet r true
    | _ => s

/-- What follows each change to a set's page map: the release and completion tests (section 3.6), or the unload and removal
tests of a SURRENDERING record (R97). -/
def State.afterChange (s : State) (id : SetId) : State :=
  match s.findSet id with
  | none => s
  | some r =>
    match r.state with
    | .claiming | .collecting | .finishing => (s.releaseTest id).completionTest id
    | .surrendering => (s.unloadTest id).removalTest id
    | .complete | .inJaw | .delivering => s

/-! ### Undoing with the tests that follow -/

/-- R44, R57: an entry or a gate operation is undone, and the tests of its set follow. -/
def State.undoEntry (s : State) (e : Entry) : State :=
  let t := s.undoAction e
  match e.target with
  | none => t
  | some r => if (s.recordOf r).isSome then t.afterChange r.id else t

/-- R13: an entry lapses. -/
def State.lapse (s : State) (e : Entry) : State :=
  let t := s.undoEntry e
  { t with gc := { t.gc with lapsed := Machine.count t.gc.lapsed } }

/-- R11, R12: the oldest entry is removed from the approach queue and lapses. -/
def State.lapseOldest (s : State) : State :=
  match s.gc.queue with
  | [] => s
  | e :: rest =>
    let t : State := { s with gc := { s.gc with queue := rest } }
    t.lapse e

/-- R14: the entry at place `i` of the approach queue is rewritten to PASS and undone. -/
def State.rewriteAt (s : State) (i : Nat) : State :=
  match s.gc.queue[i]? with
  | none => s
  | some e =>
    let t : State := { s with gc := { s.gc with queue := s.gc.queue.set i e.asPass } }
    t.undoEntry e

/-! ### Page changes at completions -/

/-- R43: the page of a BIN operation is in bin `b`, or lies in the bin the record has dropped. -/
def State.binDiverted (s : State) (b : Nat) (t : PageRef) : State :=
  match s.recordOf t with
  | none => s
  | some r =>
    if r.bin = some b then ((s.setPage t.id t.page .placed).progress t.id).afterChange t.id
    else (s.setPage t.id t.page .absent).afterChange t.id

/-- R45: the sheet of a page is stored in pocket `k`. -/
def State.pageStored (s : State) (id : SetId) (p k : Nat) : State :=
  match s.findSet id with
  | none => s
  | some r =>
    let t := (s.setPage id p (.held k)).progress id
    if r.state = .surrendering then (t.releaseToFeeder id p).afterChange id else t.afterChange id

/-- R46: the sheet of a page is released into bin `b`. -/
def State.pageReleased (s : State) (id : SetId) (p b : Nat) : State :=
  match s.findSet id with
  | none => s
  | some r =>
    (s.setPage id p (if r.bin = some b then .placed else .absent)).afterChange id

/-- R97: the sheet of a page is released to the return feeder. -/
def State.pageToFeeder (s : State) (id : SetId) (p : Nat) : State :=
  (s.setPage id p .absent).afterChange id

end Sys2Proof.Machine
end

