-- ==== Sys2Proof/Machine/Faults.lean ====
section
/-!
DEFINITION. Faults: the rack fault (R67, R48, R104), the entry to a FAULT state with the blocks' actions (R90, R96, R157,
R166), the carriage fault (R122), the gate fault (R17) and the delivery fault (R130, R143).
-/

namespace Sys2Proof.Machine

/-! ### Rack fault -/

/-- R67: a pocket at a rack fault; `k` is the pocket of a store in flight. -/
def PocketState.faulted (x : PocketState) (store : Bool) : PocketState :=
  match x with
  | .holding _ _ => .occupied
  | .reserved _ _ => if store then .occupied else .free
  | .free => if store then .occupied else .free
  | .occupied => .occupied

/-- R67: the pocket of a store in flight. -/
def Rack.storePocket (h : Rack) : Option Nat :=
  match h.rack with
  | .busy (.store e) => some e.pocket
  | _ => none

/-- R67: a feeder release is in flight. -/
def Rack.feederInFlight (h : Rack) : Bool :=
  match h.rack with
  | .busy (.release r) => r.dest == .feeder
  | _ => false

/-- R67: the rack's own state at a rack fault. -/
def Rack.faulted (h : Rack) (diversion : Bool) : Rack :=
  { h with
    rack := .outOfService
    pockets := (numbers h.pockets.length).map
      (fun k => ((nth1 h.pockets k).getD .free).faulted (h.storePocket == some k))
    inlet := []
    inletReserved := 0
    inletOccupied := h.inletOccupied || !h.inlet.isEmpty || diversion
    releases := []
    faults := countByte h.faults }

/-- R48: every rack page of a record becomes ABSENT. -/
def SetRecord.rackLost (r : SetRecord) : SetRecord :=
  { r with map := r.map.map (fun x => if x.inShare then .absent else x) }

def Action.isRack : Action → Bool
  | .rack _ => true
  | _ => false

/-- R14, R67: the approach entries whose action is RACK are rewritten to PASS and undone. -/
def State.rewriteRack (s : State) : State :=
  let t := (s.gc.queue.filter (fun e => e.action.isRack)).foldl State.undoAction s
  { t with gc := { t.gc with queue := t.gc.queue.map (fun e => if e.action.isRack then e.asPass else e) } }

/-- R48, R104: the tests that follow a rack fault, for a FINISHING or SURRENDERING record. -/
def State.afterRackFault (s : State) (id : SetId) : State :=
  match s.findSet id with
  | none => s
  | some r => if r.state = .finishing ∨ r.state = .surrendering then s.afterChange id else s

/-- R67, R48, R101: a rack fault. The tests of several FINISHING and SURRENDERING sets follow in ascending order of job and set,
and with them their TRANSFERs, UNLOADs and YIELDs (log 36, DESIGN CHOICE: R48 and R104 give no order). -/
def State.rackFault (s : State) : State :=
  let ids := s.co.sets.map (fun r => r.id)
  let t : State :=
    { s with
      hr := s.hr.faulted s.rackDiversionInFlight
      rf := { s.rf with onWay := if s.hr.feederInFlight then s.rf.onWay - 1 else s.rf.onWay } }
  let u := (ids.foldl (fun (v : State) id => v.updSet id SetRecord.rackLost) t).rewriteRack
  let w := ids.foldl State.afterRackFault u
  if s.hr.feederInFlight then w.roomReport else w

/-! ### Entry to FAULT -/

def CausesSeen.add (x : CausesSeen) : Cause → CausesSeen
  | .gate => { x with gate := true }
  | .carriage => { x with carriage := true }
  | .linkLost => { x with linkLost := true }
  | .expelled => { x with expelled := true }
  | .clash => { x with clash := true }

/-- R92: the reason a fault surrenders sets with. -/
def Cause.reason : Cause → Option YieldReason
  | .gate | .carriage => some .fault
  | .linkLost | .expelled | .clash => none

/-- R157, R166: the Link Controller's timers and GONEs at entry to FAULT(c); `watched` says the link watch was on before. -/
def State.linkAtFault (s : State) (c : Cause) (watched : Bool) : State :=
  match c with
  | .gate | .carriage =>
    if watched then s
    else { s with lc := { s.lc with
      silence := true, peers := s.lc.peers.map (fun p => { p with timer := p.present }) } }
  | .linkLost | .expelled | .clash =>
    let t : State := { s with lc := { s.lc with
      silence := false, peers := s.lc.peers.map (fun p => { p with timer := false }) } }
    t.cancelGone (fun _ => true)

/-- R90, R94: the Claim Unit at entry to FAULT(c). -/
def State.claimsAtFault (s : State) (c : Cause) : State :=
  match c with
  | .gate | .carriage => s
  | .linkLost | .expelled | .clash =>
    let t : State := { s with cu := { s.cu with late := [], backlog := [], waiting := [] } }
    t.withdrawUrgent Notice.isHeldOrYield

/-- R96, R166, R167 and section 11.5: entry to FAULT(c). The blocks act in the order of the table's columns: the sets are
surrendered, then the Claim Unit acts, then the Link Controller (log 38, DESIGN CHOICE: 11.5 gives no order). -/
def State.enterFault (s : State) (c : Cause) : State :=
  let watched := s.bs.state.linkWatch
  let t := s.setBay (.fault c)
  let u : State := { t with bs := { t.bs with
    join := .stopped, heard := if (BayState.fault c).selfClearing then false else t.bs.heard } }
  ((u.surrenderAll c.reason).claimsAtFault c).linkAtFault c watched

/-- R166: whether a report of cause `c` in a bay state enters FAULT(c). -/
def BayState.faultEnters (b : BayState) (c : Cause) : Bool :=
  match b, c with
  | .joining, _ | .active, _ | .draining, _ | .service, _ => true
  | .fault .linkLost, c | .fault .expelled, c => c == .gate || c == .carriage || c == .clash
  | .fault .gate, c | .fault .carriage, c => c == .clash
  | .fault .clash, _ => false
  | .dormant, _ => false

/-- R166: a fault report. In FAULT(GATE) and FAULT(CARRIAGE) link silence restarts the silence timer. -/
def State.reportFault (s : State) (c : Cause) : State :=
  let t : State := { s with bs := { s.bs with seen := s.bs.seen.add c } }
  if s.bs.state.faultEnters c then t.enterFault c
  else if c = .linkLost ∧ (s.bs.state = .fault .gate ∨ s.bs.state = .fault .carriage) then
    { t with lc := { t.lc with silence := true } }
  else t

/-! ### Unit faults -/

/-- R122: a carriage fault; the request in flight becomes the stuck request. -/
def State.carriageFault (s : State) : State :=
  match s.sc.carriage with
  | .busy r j =>
    let t : State := { s with sc := { s.sc with carriage := .faulted r j } }
    t.reportFault .carriage
  | .idle | .faulted _ _ => s

/-- R102: a FILL MISSED. -/
def State.fillMissed (s : State) : State :=
  { s with rf := { s.rf with fillMissed := Machine.count s.rf.fillMissed } }

/-- R16: the gate operation `e` is taken as DIVERT FAILED or FILL MISSED; the gate is no longer BUSY with it. -/
def State.gateFailed (s : State) (e : Entry) : State :=
  match e.action with
  | .fill => s.fillMissed
  | _ => s.undoEntry e

/-- R17: the gate's limit expires. The operation in flight is undone first and the approach entries then oldest first, each with
the tests of its set that follow, before the next is undone (log 35, DESIGN CHOICE: R14 and R17 give no order). -/
def State.gateFault (s : State) (e : Entry) : State :=
  let t : State := { s with gc := { s.gc with gate := .faulted } }
  let u := t.gateFailed e
  let v := (List.range u.gc.queue.length).foldl State.rewriteAt u
  v.reportFault .gate

/-- R126: a head fault; the head is IDLE again with its faulted mark set. -/
def State.headFault (s : State) : State :=
  s.tell { s with sc := { s.sc with head := .idle, faultedMark := true, headJams := Machine.count s.sc.headJams } }

/-- R130, R143: a delivery fault of jaw `j`, whose DELIVER was in flight into pocket `p`.
R130's exception for the faults that send no YIELD reads the bay state before the record is removed, so before a rejoin that
its removal brings (log 37, DESIGN CHOICE). -/
def State.deliveryFault (s : State) (j : JawName) (p : Nat) : State :=
  let t : State := { s with dc := { s.dc with
    pockets := modify1 s.dc.pockets p (fun x => { x with inFlight := none }) } }
  match s.jaw j with
  | .holding id _ =>
    let u := t.setJaw j (.outOfService id)
    let v : State := { u with sc := { u.sc with jawFaults := countByte u.sc.jawFaults } }
    let w := if s.bs.state.silencedFault then v else v.dueYield id .fault
    (w.removeSet id).deliverTest p
  | .free | .loading _ | .occupied | .outOfService _ => t.deliverTest p

end Sys2Proof.Machine
end

