-- ==== Sys2Proof/Machine/Hear.lean ====
section
/-!
DEFINITION. The hearing of a valid frame (R149, R150, R156, R167): what happens to every heard notice before and after the
rule of its kind acts on it.
-/

namespace Sys2Proof.Machine

/-- R149 steps 1 to 3 for a frame that is no station clash. -/
def State.heardSteps (s : State) (kind : BitVec 6) (f : Frame) : State :=
  let t : State := { s with lc := { s.lc with spoilMark := false } }
  let u := if s.ownAttempt kind f then t.leaveLine else t
  let x := f.origin.toNat
  if 1 ≤ x ∧ x ≤ 8 ∧ x ≠ s.station then u.markPresent x else u

/-- R149 step 1, R156: the frame has this bay's origin and is not this bay's attempt. -/
def State.clashes (s : State) (kind : BitVec 6) (f : Frame) : Bool :=
  f.origin.toNat == s.station && !s.ownAttempt kind f

/-- R156: a station clash. -/
def State.stationClash (s : State) : State :=
  if s.bs.state = .fault .clash then s else s.reportFault .clash

/-- R167: after a notice heard in a fault that clears itself has been handed on, the heard mark is set and the rejoin test is made
(log 14). -/
def State.afterHeard (before after : State) : State :=
  if before.bs.state.selfClearing && after.bs.state.selfClearing then after.setHeard else after

/-- R149, R150: a valid frame of a known kind is heard; an accepted notice is acted on by `act`. -/
def State.hear (s : State) (k : NoticeKind) (f : Frame) (act : State → State) : State :=
  if s.bs.state = .dormant then s
  else if s.clashes k.code f then s.stationClash
  else
    let t := s.heardSteps k.code f
    State.afterHeard s (if acceptable k f then act t else t.countMalformed)

/-- R149, R150: a valid frame of a kind that is none of the part's is heard, not handed on and not counted. -/
def State.hearUnknown (s : State) (kind : BitVec 6) (f : Frame) : State :=
  if s.bs.state = .dormant then s
  else if s.clashes kind f then s.stationClash
  else State.afterHeard s (s.heardSteps kind f)

end Sys2Proof.Machine
end

