-- ==== Sys2Proof/Machine/Claims.lean ====
section
/-!
DEFINITION. The commands of the Claim Unit (chapter 5): CLAIM, HELD, YIELD, DONE, GONE, HELLO heard, and the expiry of a
claim deadline.
-/

namespace Sys2Proof.Machine

/-! ### The first-claim rule -/

/-- R71: a foreign entry is added; a full list refuses it. -/
def State.addForeign (s : State) (id : SetId) (owner : Nat) : State :=
  if s.cu.foreign.length < Config.foreignMax then
    { s with cu := { s.cu with foreign := s.cu.foreign ++ [{ id := id, owner := owner }] } }
  else { s with cu := { s.cu with foreignRefused := count s.cu.foreignRefused } }

def State.countConflict (s : State) : State :=
  { s with cu := { s.cu with conflicts := count s.cu.conflicts } }

def State.countClaimLost (s : State) : State :=
  { s with cu := { s.cu with claimLost := count s.cu.claimLost } }

/-- R78: this bay's claim is won. -/
def State.claimWon (s : State) (r : SetRecord) : State :=
  ((s.putSet { r.toState .collecting with deadline := false }).withdrawClaim r.id).completionTest r.id

/-- R79: this bay's claim is lost to station x. -/
def State.claimLost (s : State) (r : SetRecord) (x : Nat) : State :=
  (((s.beginSurrender r).addForeign r.id x).endSurrender r none).countClaimLost

/-- R82: this bay's own CLAIM is heard while the set is not standing. -/
def State.lateClaim (s : State) (id : SetId) : State :=
  if s.bs.state.silencedFault then s
  else
    let t : State := { s with cu := { s.cu with
      late := s.cu.late ++ [{ id := id, queued := false }], lateClaims := count s.cu.lateClaims } }
    t.dueYield id .late

/-- R77: the first-claim rule, for a CLAIM of station x for a set. -/
def State.firstClaim (s : State) (x : Nat) (id : SetId) : State :=
  match (s.findSet id).filter (fun r => r.state == .claiming) with
  | some r => if x = s.station then s.claimWon r else s.claimLost r x
  | none =>
    if s.standing id then s
    else if x = s.station then s.lateClaim id
    else s.addForeign id x

/-- R77: an accepted CLAIM. -/
def State.onClaim (f : Frame) (s : State) : State :=
  let id := f.setAt 0
  if id.job = 0 ∨ id.num = 0 ∨ f.low6 = 0 then s.countMalformed
  else s.firstClaim f.origin.toNat id

def execClaim (f : Frame) (s : State) : Host.Outcome State Fault Refusal :=
  .next (s.hear .claim f (State.onClaim f))

/-! ### HELD -/

/-- R86: the sets a HELD lists, in its order. -/
def heldSets (f : Frame) : List SetId := (List.range (f.body.length / 3)).map (fun i => f.setAt (3 * i))

/-- R86: one listed set of a HELD from station x. -/
def State.heldOne (x : Nat) (s : State) (id : SetId) : State :=
  match (s.findSet id).filter (fun r => r.state == .claiming) with
  | some r => s.claimLost r x
  | none =>
    if s.standing id then
      if s.cu.foreign.any (fun e => e.id == id && e.owner == x) then s else s.countConflict
    else s.addForeign id x

/-- R86: an accepted HELD. -/
def State.onHeld (f : Frame) (s : State) : State :=
  let ids := heldSets f
  let x := f.origin.toNat
  if ids.any (fun id => id.job == 0 || id.num == 0) then s.countMalformed
  else if x = s.station then s
  else ids.foldl (State.heldOne x) s

def execHeld (f : Frame) (s : State) : Host.Outcome State Fault Refusal :=
  .next (s.hear .held f (State.onHeld f))

/-! ### YIELD -/

/-- R84: an accepted YIELD. -/
def State.onYield (f : Frame) (s : State) : State :=
  let id := f.setAt 0
  let x := f.origin.toNat
  if id.job = 0 ∨ id.num = 0 ∨ 4 < f.low6 / 8 then s.countMalformed
  else if x = s.station then
    { s with cu := { s.cu with late := s.cu.late.filter (fun e => e.id != id) } }
  else if s.cu.foreign.any (fun e => e.id == id && e.owner == x) then
    { s with cu := { s.cu with foreign := s.cu.foreign.filter (fun e => !(e.id == id && e.owner == x)) } }
  else if s.standing id then s.countConflict
  else s

def execYield (f : Frame) (s : State) : Host.Outcome State Fault Refusal :=
  .next (s.hear .yield f (State.onYield f))

/-! ### DONE -/

/-- R85: the claim lists forget a set, and its waiting YIELD(LATE) is dropped. -/
def ClaimUnit.forget (c : ClaimUnit) (id : SetId) : ClaimUnit :=
  { c with
    foreign := c.foreign.filter (fun e => e.id != id)
    late := c.late.filter (fun e => e.id != id)
    waiting := c.waiting.filter (· != .yield id .late) }

/-- R85: the set record a DONE from another bay finds is surrendered, as for a lost claim, where its state allows. -/
def State.doneConflict (s : State) (r : SetRecord) : State :=
  let t := s.countConflict
  if t.surrenderable r then t.surrender r.id none else t

/-- R26, R85, R150: an accepted DONE. -/
def State.onDone (f : Frame) (s : State) : State :=
  let id := f.setAt 0
  if id.job = 0 ∨ id.num = 0 ∨ f.low6 = 0 ∨ 4 < f.byteAt 3 / 32 then s.countMalformed
  else
    let t := s.addDone id
    let u : State := { t with cu := t.cu.forget id }
    if f.origin.toNat = s.station then u
    else
      match (u.findSet id).filter (fun r => r.state != .surrendering) with
      | none => u
      | some r => u.doneConflict r

def execDone (f : Frame) (s : State) : Host.Outcome State Fault Refusal :=
  .next (s.hear .done f (State.onDone f))

/-! ### HELLO -/

/-- R88: the bay states in which a HELLO is answered. -/
def BayState.answersHello : BayState → Bool
  | .active | .draining | .service | .fault .gate | .fault .carriage => true
  | .dormant | .joining | .fault .linkLost | .fault .expelled | .fault .clash => false

/-- R88: the sets this bay holds, ascending, each once. A set may be held by both terms: a late claim of a set whose record a
FINISH has taken back (R52, R90). -/
def State.heldNow (s : State) : List SetId :=
  (s.cu.late.filter (fun e => !e.queued)).foldl (fun l e => insertId e.id l)
    ((s.co.sets.filter (fun r => r.state != .claiming && r.state != .surrendering)).map (fun r => r.id))

/-- R88: the HELD backlog is replaced, and its HELDs become due. -/
def State.answerHello (s : State) : State :=
  let b := s.heldNow
  let w := s.cu.waiting.filter (· != .helds)
  let t : State := { s with cu := { s.cu with backlog := b, waiting := if b = [] then w else w ++ [.helds] } }
  t.refillUrgent

/-- R162: the echo of this bay's HELLO. -/
def State.helloEcho (s : State) : State :=
  match s.bs.join with
  | .stopped => s
  | .awaitingEcho | .listening => { s with bs := { s.bs with join := .listening } }

/-- R87, R88, R153, R162: an accepted HELLO. -/
def State.onHello (f : Frame) (s : State) : State :=
  let x := f.origin.toNat
  let b := f.byteAt 1
  if f.byteAt 0 ≠ x ∨ ¬(b = 4 ∨ b = 8 ∨ b = 12 ∨ b = 16) then s.countMalformed
  else if x = s.station then s.helloEcho
  else
    let t := s.setPeer x { s.peer x with bins := some b }
    let u : State := { t with cu := { t.cu with foreign := t.cu.foreign.filter (fun e => e.owner != x) } }
    if s.bs.state.answersHello then u.answerHello else u

def execHello (f : Frame) (s : State) : Host.Outcome State Fault Refusal :=
  .next (s.hear .hello f (State.onHello f))

/-! ### GONE -/

/-- R89, R154: an accepted GONE. -/
def State.onGone (f : Frame) (s : State) : State :=
  let x := f.byteAt 0
  if x = 0 ∨ 8 < x then s.countMalformed
  else if x = s.station then s.reportFault .expelled
  else if (s.peer x).present then
    let t := s.setPeer x Peer.absent
    let u : State := { t with cu := { t.cu with foreign := t.cu.foreign.filter (fun e => e.owner != x) } }
    u.yieldGone x
  else s

def execGone (f : Frame) (s : State) : Host.Outcome State Fault Refusal :=
  .next (s.hear .gone f (State.onGone f))

/-! ### The claim deadline -/

/-- R80: the deadline of a CLAIMING record expires; an expiry of a stopped deadline does nothing (log 2). -/
def execClaimDeadlineExpiry (job num : Nat) (s : State) : Host.Outcome State Fault Refusal :=
  .next (match s.findSet { job := job, num := num } with
    | none => s
    | some r =>
      if r.state = .claiming ∧ r.deadline = true then (s.surrender r.id none).countClaimLost else s)

end Sys2Proof.Machine
end

