-- ==== Sys2Proof/Machine/DeliveryCmds.lean ====
section
/-!
DEFINITION. The Delivery Controller's commands (chapter 9): DELIVER_ISSUE, DELIVERED, DELIVERY_LIMIT_EXPIRY, HEIGHT_SAMPLE.
-/

namespace Sys2Proof.Machine

/-- R141: the issue test of a pocket (logs 3, 34). -/
def execDeliverIssue (p : Nat) (s : State) : Host.Outcome State Fault Refusal :=
  .next (s.deliverTest p)

/-- R142: the pocket whose delivery in flight is jaw `j`. -/
def State.deliveringInto (s : State) (j : JawName) : Option Nat :=
  (numbers s.dc.pockets.length).find? (fun p => (nth1 s.dc.pockets p).any (fun x => x.inFlight == some j))

/-- R144: the DONE of a delivered set. -/
def SetRecord.doneOf (r : SetRecord) (o : SetOutcome) (p : Nat) : DoneNotice :=
  { id := r.id, pages := if r.isPartial then r.placedCount else r.pages, outcome := o, pocket := p }

/-- R128, R129, R142 step 6: the jaw becomes FREE, the DONE joins the DONE list, and the start test is made. -/
def State.jawDelivered (s : State) (j : JawName) (d : DoneNotice) : State :=
  ((s.setJaw j .free).joinDone d).startTest

/-- R142: an OK DELIVERED from jaw `j` into the pocket of its DELIVER. -/
def State.deliveredInto (s : State) (j : JawName) (p : Nat) : State :=
  let t : State := { s with dc := { s.dc with
    pockets := modify1 s.dc.pockets p (fun x => { x with inFlight := none }) } }
  match s.jaw j with
  | .holding id st =>
    match s.findSet id with
    | none => t.deliverTest p
    | some r =>
      let d := r.doneOf (st.outcome.getD .unstapled) p
      (((t.addDone id).removeSet id).jawDelivered j d).deliverTest p
  | .free | .loading _ | .occupied | .outOfService _ => t.deliverTest p

/-- R142, R143: DELIVERED. -/
def execDelivered (j : JawName) (st : Status) (seen : Nat) (s : State) : Host.Outcome State Fault Refusal :=
  .next (match s.deliveringInto j with
    | none => s
    | some p => if st = .ok ∧ seen = p then s.deliveredInto j p else s.deliveryFault j p)

/-- R143: the limit of the DELIVER in flight from jaw `j` expires; with none there is no limit to expire (log 2). -/
def execDeliveryLimitExpiry (j : JawName) (s : State) : Host.Outcome State Fault Refusal :=
  .next (match s.deliveringInto j with
    | none => s
    | some p => s.deliveryFault j p)

/-- R134, R137, R141, R145: a height sample. -/
def execHeightSample (p : Nat) (mm : Byte) (s : State) : Host.Outcome State Fault Refusal :=
  .next (match nth1 s.dc.pockets p with
    | none => s
    | some x =>
      let y := x.sampled mm.toNat
      let t := s.changePocket p (fun _ => y)
      let u := if x.empty = false ∧ y.empty = true then t.unbindingTest p else t
      if x.blocked = true ∧ y.blocked = false then u.deliverTest p else u)

end Sys2Proof.Machine
end

