-- ==== Sys2Proof/Machine/GateCmds.lean ====
section
/-!
DEFINITION. The gate's commands (R12 to R18): GATE_ARRIVAL, the four completions, GATE_LIMIT_EXPIRY and REJECT_EMPTIED.
-/

namespace Sys2Proof.Machine

/-! ### Arrival -/

/-- R15: an entry taken at a GATE ARRIVAL is handled by the gate's state. A FAULTED gate meets PASS entries only (R17). -/
def State.takeEntry (s : State) (e : Entry) : State :=
  if e.action = .pass then s
  else if s.gc.gate = .idle then { s with gc := { s.gc with gate := .busy e } }
  else s.lapse e

/-- R12: the place of the oldest entry of carrier n; carriers 240..255 are never matched. -/
def State.matchPlace (s : State) (n : Nat) : Option Nat :=
  if n < 240 then s.gc.queue.findIdx? (fun e => e.carrier == n) else none

/-- R12: the `n` oldest entries lapse, oldest first. -/
def State.lapseOldestN : Nat → State → State
  | 0, s => s
  | n + 1, s => State.lapseOldestN n s.lapseOldest

/-- R12, R15: the oldest entry is removed and taken for the gate. -/
def State.takeOldest (s : State) : State :=
  match s.gc.queue with
  | [] => s
  | e :: rest =>
    let t : State := { s with gc := { s.gc with queue := rest } }
    t.takeEntry e

/-- R12: GATE ARRIVAL. -/
def execGateArrival (n : Byte) (s : State) : Host.Outcome State Fault Refusal :=
  .next (match s.matchPlace n.toNat with
    | none => { s with gc := { s.gc with unmatched := count s.gc.unmatched } }
    | some i => (State.lapseOldestN i s).takeOldest)

/-! ### Completions (R16) -/

/-- R16, R58: the sheet of a RACK operation is in the inlet, or lies there while the rack is out of service. -/
def State.rackDiverted (s : State) (k : Nat) : State :=
  if s.rackInService then
    match nth1 s.hr.pockets k with
    | some (.reserved id page) =>
      let t : State := { s with hr := { s.hr with
        inletReserved := s.hr.inletReserved - 1
        inlet := s.hr.inlet ++ [{ pocket := k, id := id, page := page }] } }
      t.arbiter
    | _ => { s with hr := { s.hr with inletOccupied := true } }
  else { s with hr := { s.hr with inletOccupied := true } }

/-- R16, R101: one sheet has left the return feeder. -/
def State.fillTaken (s : State) : State :=
  let t : State := { s with rf := { s.rf with count := s.rf.count - 1 } }
  t.roomReport

/-- R16: the operation `e` has completed as its kind does when it succeeds. -/
def State.gateDone (s : State) (e : Entry) : State :=
  match e.action, e.target with
  | .bin b, some t => s.binDiverted b t
  | .rack k, _ => s.rackDiverted k
  | .reject, _ => { s with gc := { s.gc with tray := s.gc.tray + 1 } }
  | .fill, _ => s.fillTaken
  | _, _ => s

/-- R16: whether an operation is a FILL. -/
def Entry.isFill (e : Entry) : Bool := e.action == .fill

/-- R16: a gate completion. `fill` says its kind is one of a FILL, `good` that it is DIVERTED or FILLED; the wrong kind is taken
as the failure of the operation in flight. -/
def State.gateCompletion (s : State) (fill good : Bool) : State :=
  match s.gc.gate with
  | .busy e =>
    let t : State := { s with gc := { s.gc with gate := .idle } }
    if good = true ∧ e.isFill = fill then t.gateDone e else t.gateFailed e
  | .idle | .faulted => s

def execDiverted (s : State) : Host.Outcome State Fault Refusal :=
  .next (s.gateCompletion false true)

def execDivertFailed (s : State) : Host.Outcome State Fault Refusal :=
  .next (s.gateCompletion false false)

def execFilled (s : State) : Host.Outcome State Fault Refusal :=
  .next (s.gateCompletion true true)

def execFillMissed (s : State) : Host.Outcome State Fault Refusal :=
  .next (s.gateCompletion true false)

/-- R17: the limit of the gate operation in flight expires; with none in flight there is no limit to expire (log 2). -/
def execGateLimitExpiry (s : State) : Host.Outcome State Fault Refusal :=
  .next (match s.gc.gate with
    | .busy e => s.gateFault e
    | .idle | .faulted => s)

/-- R18: "reject emptied". -/
def execRejectEmptied (s : State) : Host.Outcome State Fault Refusal :=
  .next { s with gc := { s.gc with tray := 0 } }

end Sys2Proof.Machine
end

