-- ==== Sys2Proof/Machine/JobCmds.lean ====
section
/-!
DEFINITION. The Job Table's commands (R20 to R25): JOB and JOBCLOSE heard. DONE stands in Claims.lean.
-/

namespace Sys2Proof.Machine

/-- R22: a new record from a JOB's stored fields. -/
def JobRecord.fresh (x : JobFields) (adopted : Bool) : JobRecord :=
  { job := x.job, label := x.label, setCount := x.setCount, staple := x.staple, order := x.order,
    policy := x.policy, state := .opened, adopted := adopted, doneMap := [] }

/-- R23, R24: the record with a JOB's stored fields, its state OPEN, its map and ADOPTED kept. -/
def JobRecord.updated (r : JobRecord) (x : JobFields) : JobRecord :=
  { r with
    label := x.label, setCount := x.setCount, staple := x.staple, order := x.order, policy := x.policy,
    state := .opened }

/-- R22: the record a full table gives up. -/
def State.replaceable (s : State) : Option JobRecord :=
  s.jt.jobs.find? (fun r => r.state != .opened && !s.jobInUse r.job)

/-- R22: a JOB for a job number that has no record. -/
def State.newJob (s : State) (x : JobFields) : State :=
  let r := JobRecord.fresh x x.repeatFlag
  if s.jt.jobs.length < Config.jobsMax then s.announceJob r
  else
    match s.replaceable with
    | none => { s with jt := { s.jt with tableFull := count s.jt.tableFull } }
    | some old =>
      let t : State := { s with jt := { s.jt with jobs := s.jt.jobs.filter (fun q => q.job != old.job) } }
      (t.announceJob r).unbindJob old.job

/-- R23, R24, R27: a JOB applied to a record that keeps its map, followed by the test for completion by count; a record that
becomes COMPLETE has its pocket's unbinding test (R137). -/
def State.applyJob (s : State) (r : JobRecord) (x : JobFields) : State :=
  let r' := (r.updated x).countTested
  let t := s.announceJob r'
  if r'.state = .complete then t.unbindJob x.job else t

/-- R24: a JOB whose repeat flag is clear, for a record that is CLOSED or COMPLETE. -/
def State.reuseJob (s : State) (r : JobRecord) (x : JobFields) : State :=
  if s.jobInUse x.job then s.applyJob r x
  else (s.announceJob (JobRecord.fresh x false)).unbindJob x.job

/-- R21 to R24: an accepted JOB. -/
def State.onJob (f : Frame) (s : State) : State :=
  match jobFields f with
  | none => s.countMalformed
  | some x =>
    match s.findJob x.job with
    | none => s.newJob x
    | some r =>
      if r.state = .opened then s.applyJob r x
      else if x.repeatFlag then s
      else s.reuseJob r x

def execJob (f : Frame) (s : State) : Host.Outcome State Fault Refusal :=
  .next (s.hear .job f (State.onJob f))

/-- R25: an accepted JOBCLOSE. -/
def State.onJobclose (f : Frame) (s : State) : State :=
  if f.byteAt 0 = 0 then s.countMalformed
  else
    match s.findJob (f.byteAt 0) with
    | none => s
    | some r =>
      if r.state = .opened then (s.putJob { r with state := .closed }).unbindJob r.job else s

def execJobclose (f : Frame) (s : State) : Host.Outcome State Fault Refusal :=
  .next (s.hear .jobclose f (State.onJobclose f))

end Sys2Proof.Machine
end

