-- ==== Sys2Proof/Machine/LineCmds.lean ====
section
/-!
DEFINITION. The Link Controller's commands (chapter 10) and the join timer's (R162): OFFER, ATTEMPT_SPOILED, BAD_FRAME_CHECK,
STATE, REPRINT, REPORT and unknown notices heard, the four timer expiries, and the refilling of the transmit queues.
-/

namespace Sys2Proof.Machine

/-! ### Frames on the line -/

/-- R147: the line is idle and LC offers (log 6); in DORMANT it drives nothing, and it does not start while a frame of this bay
is under way. -/
def execOffer (contender : Option (BitVec 2 × BitVec 4)) (s : State) : Host.Outcome State Fault Refusal :=
  .next (if s.bs.state = .dormant ∨ s.onLine = true then s else s.offerNotice contender)

/-- R148: an attempt of this bay's notice ends spoiled. -/
def execAttemptSpoiled (s : State) : Host.Outcome State Fault Refusal :=
  .next s.attemptSpoiled

/-- R146: LC meets the closing field of a frame, and spoils it when the check received is not the check of the fields received
(log 20). In DORMANT LC drives nothing. -/
def execBadFrameCheck (kind : BitVec 6) (f : Frame) (check : BitVec 16) (s : State) :
    Host.Outcome State Fault Refusal :=
  .next (if s.bs.state = .dormant then s
    else { s with lc := { s.lc with spoilMark := frameCheck kind f != check } })

/-! ### Notices the peer table takes, and notices handed to no block -/

/-- R153: an accepted STATE; this bay's own echo is tested and not stored. -/
def State.onState (f : Frame) (s : State) : State :=
  match stateFields f with
  | none => s.countMalformed
  | some c =>
    let x := f.origin.toNat
    if x = s.station then s else s.setPeer x { s.peer x with last := some c }

def execState (f : Frame) (s : State) : Host.Outcome State Fault Refusal :=
  .next (s.hear .state f (State.onState f))

/-- R150: a REPRINT is heard and handed to no block. -/
def execReprint (f : Frame) (s : State) : Host.Outcome State Fault Refusal :=
  .next (s.hear .reprint f id)

/-- R150: a REPORT is heard and handed to no block. -/
def execReport (f : Frame) (s : State) : Host.Outcome State Fault Refusal :=
  .next (s.hear .report f id)

/-- R149, R150: a feeder's own notice, or one unknown to the part. -/
def execUnknownKindNotice (kind : BitVec 6) (f : Frame) (s : State) : Host.Outcome State Fault Refusal :=
  .next (s.hearUnknown kind f)

/-! ### Timers (log 2) -/

/-- R154: the presence timer of station x expires. -/
def State.presenceExpires (s : State) (x : Nat) : State :=
  let t := s.setPeer x { s.peer x with timer := false }
  let u : State := { t with lc := { t.lc with presenceLost := count t.lc.presenceLost } }
  u.wantGone x

def execPresenceTimerExpiry (x : Nat) (s : State) : Host.Outcome State Fault Refusal :=
  .next (if (s.peer x).timer then s.presenceExpires x else s)

/-- R155, R166: the silence timer expires. -/
def State.silenceExpires (s : State) : State :=
  let t : State := { s with lc := { s.lc with silence := false } }
  t.reportFault .linkLost

def execSilenceTimerExpiry (s : State) : Host.Outcome State Fault Refusal :=
  .next (if s.lc.silence then s.silenceExpires else s)

/-- R152: the cadence timer expires, and a STATE is wanted. The timer runs on, also where no STATE is queued now, so that a STATE
is wanted at least once a second (R152 Notes, log 24). -/
def State.cadenceExpires (s : State) : State := s.wantState

def execCadenceTimerExpiry (s : State) : Host.Outcome State Fault Refusal :=
  .next (if s.lc.cadence then s.cadenceExpires else s)

/-- R162: the join timer expires. -/
def execJoinTimerExpiry (s : State) : Host.Outcome State Fault Refusal :=
  .next (match s.bs.join with
    | .stopped => s
    | .awaitingEcho => s.wantHello
    | .listening => s.enterActive)

/-! ### Refilling (log 3) -/

/-- R82, R88, R94: CU queues its waiting notices while the urgent queue has room. -/
def execWaitingNoticeQueued (s : State) : Host.Outcome State Fault Refusal :=
  .next s.refillUrgent

/-- R129, R151: the DONE at the head of the DONE list takes a free place of the routine queue, when the place is its. -/
def execDoneQueued (s : State) : Host.Outcome State Fault Refusal :=
  .next (if s.routineRoom = true ∧ s.dueFirst = false then s.queueDone else s)

/-- R151: LC's earliest due notice takes a free place of the routine queue, when the place is its. -/
def execDueNoticeQueued (s : State) : Host.Outcome State Fault Refusal :=
  .next (if s.routineRoom = true ∧ s.dueFirst = true then s.queueDue else s)

end Sys2Proof.Machine
end

