-- ==== Sys2Proof/Machine/Probe.lean ====
section
/-!
DEFINITION. PROBE and the data of its REPORT (R170 to R173).
-/

namespace Sys2Proof.Machine

/-! ### Codes of R172 and R173 -/

def RackState.code : RackState → Nat
  | .idle => 0
  | .busy _ => 1
  | .outOfService => 2

def CarriageState.code : CarriageState → Nat
  | .idle => 0
  | .busy _ _ => 1
  | .faulted _ _ => 2

/-- R172: the fault causes seen, as bits. -/
def CausesSeen.code (x : CausesSeen) : Nat :=
  boolBit x.gate 16 + boolBit x.carriage 8 + boolBit x.linkLost 4 + boolBit x.expelled 2 + boolBit x.clash 1

def JobState.code : JobState → Nat
  | .opened => 0
  | .closed => 1
  | .complete => 2

def SetState.code : SetState → Nat
  | .claiming => 0
  | .collecting => 1
  | .finishing => 2
  | .complete => 3
  | .inJaw => 4
  | .delivering => 5
  | .surrendering => 6

/-! ### The data of the items that take index 0 -/

/-- R172, item 0 BAY. -/
def State.bayItem (s : State) : List Byte :=
  [byte s.station, byte s.bs.state.code, byte s.binsFitted, byte s.rackFitted, byte s.pocketsFitted,
    byte s.bs.seen.code, byte s.bs.refused, byte (s.ri.loopSize.getD 0)] ++ word2 s.jt.tableFull

/-- R172, item 1 SHEET PATH. -/
def State.sheetPathItem (s : State) : List Byte :=
  word2 s.ri.unreadable ++ word2 s.ri.readGap ++ word2 s.gc.lapsed ++ word2 s.gc.unmatched ++ word2 s.gc.late
    ++ [byte s.gc.tray]

/-- R172, item 2 COLLATION. -/
def State.collationItem (s : State) : List Byte :=
  word2 s.co.duplicate ++ word2 s.co.mismatch ++ word2 s.co.rackFull ++ word2 s.co.refused ++ word2 s.co.surrenders
    ++ [byte s.co.sets.length, byte s.freeBins]

/-- R172: the inlet byte. -/
def Rack.inletByte (h : Rack) : Nat := boolBit h.inletOccupied 128 + h.inlet.length % 4

/-- R172, item 3 RACK. -/
def State.rackItem (s : State) : List Byte :=
  [byte s.hr.rack.code, byte s.hr.faults, byte s.freeRackPockets,
    byte (s.hr.pockets.filter (· == .occupied)).length, byte s.hr.inletByte, byte s.hr.releases.length]

/-- R172, item 4 CLAIMS. -/
def State.claimsItem (s : State) : List Byte :=
  word2 s.cu.claimLost ++ word2 s.cu.lateClaims ++ word2 s.cu.foreignRefused ++ word2 s.cu.conflicts
    ++ [byte s.cu.foreign.length, byte s.cu.late.length]

/-- R172, item 5 FEEDER AND WATCH. -/
def State.feederItem (s : State) : List Byte :=
  [byte s.rf.count, byte s.rf.onWay] ++ word2 s.rf.fillMissed ++ word2 s.pw.reprintsSent ++ word2 s.pw.deferred
    ++ word2 s.pw.strandings ++ [byte s.strandedCount]

/-- R172, item 6 STAPLER. -/
def State.staplerItem (s : State) : List Byte :=
  word2 (s.sc.staples.getD 65535) ++ [byte s.headStatus.code] ++ word2 s.sc.misfires ++ word2 s.sc.headJams
    ++ [byte s.sc.jawFaults, byte s.sc.carriage.code, byte s.sc.carriageQueue.length, byte s.sc.doneList.length]

/-- R172, item 9 LINK. Every notice of the routine queue counts, so the REPORTs that wait in it do (log 40, DESIGN CHOICE). -/
def State.linkItem (s : State) : List Byte :=
  word2 s.lc.malformed ++ word2 s.lc.dropped ++ word2 s.lc.spoiled ++ word2 s.lc.presenceLost
    ++ [byte s.lc.reportDropped, byte s.lc.urgent.length, byte s.lc.routine.length]

/-! ### The data of the indexed items -/

/-- R172, item 7 JAW. -/
def JawState.item : JawState → List Byte
  | .free => [0, 0, 0, 0]
  | .loading id => [1, byte id.job] ++ word2 id.num
  | .holding id _ => [2, byte id.job] ++ word2 id.num
  | .occupied => [3, 0, 0, 0]
  | .outOfService id => [4, byte id.job] ++ word2 id.num

/-- R173: the pocket flags. -/
def Pocket.flags (p : Pocket) : Nat :=
  boolBit p.inFlight.isSome 32 + boolBit (p.side == .right) 16 + boolBit p.last.isSome 8 + boolBit p.empty 4
    + boolBit p.blocked 2 + boolBit p.full 1

/-- R172, item 8 POCKET. -/
def Pocket.item (p : Pocket) : List Byte :=
  [byte (p.binding.getD 0), byte (p.last.getD 0)] ++ word2 p.committed ++ [byte p.refs, byte p.flags]

/-- R172, R173, item 10 PEER. -/
def Peer.item (p : Peer) : List Byte :=
  let flags := boolBit p.last.isSome 2 + boolBit p.present 1
  let rest := match p.last with
    | none => [0, 0, 0, 0]
    | some c => [byte c.bay, byte c.freeBins, byte c.head, byte c.stranded]
  [byte flags, byte (p.bins.getD 0)] ++ rest

/-- R172, R173, item 11 JOB. -/
def JobRecord.item (r : JobRecord) : List Byte :=
  [byte r.job, byte (boolBit r.adopted 4 + r.state.code)] ++ r.label ++ word2 r.doneMap.length

/-- R173: the set flags. -/
def SetRecord.flags (r : SetRecord) : Nat :=
  boolBit (r.order == .reverse) 4 + boolBit r.isPartial 2 + boolBit r.stranded 1

/-- R172, R173, item 12 SET. -/
def SetRecord.item (r : SetRecord) : List Byte :=
  [byte r.id.job] ++ word2 r.id.num
    ++ [byte r.state.code, byte (r.bin.getD 0), byte r.pages, byte r.placedCount, byte r.absentCount,
      byte r.flags, byte r.watch]

/-- R171, R172: the jaw an index selects. -/
def State.jawAt (s : State) (i : Nat) : Option JawState :=
  match i with
  | 0 => some s.sc.jawA
  | 1 => some s.sc.jawB
  | _ => none

/-- R171, R172: the peer record an index selects, none for this bay's own station. -/
def State.peerAt (s : State) (i : Nat) : Option Peer :=
  if i + 1 = s.station then none else s.lc.peers[i]?

/-! ### The REPORT -/

/-- R171: an item that takes index 0. -/
def plainItem (index : Nat) (data : List Byte) : Option (List Byte) := if index = 0 then some data else none

/-- R171 to R173: the data of item `item` at `index`; none where an EMPTY report answers. -/
def State.itemData (s : State) (item index : Nat) : Option (List Byte) :=
  match item with
  | 0 => plainItem index s.bayItem
  | 1 => plainItem index s.sheetPathItem
  | 2 => plainItem index s.collationItem
  | 3 => plainItem index s.rackItem
  | 4 => plainItem index s.claimsItem
  | 5 => plainItem index s.feederItem
  | 6 => plainItem index s.staplerItem
  | 7 => (s.jawAt index).map JawState.item
  | 8 => s.dc.pockets[index]?.map Pocket.item
  | 9 => plainItem index s.linkItem
  | 10 => (s.peerAt index).map Peer.item
  | 11 => s.jt.jobs[index]?.map JobRecord.item
  | 12 => s.co.sets[index]?.map SetRecord.item
  | _ => none

/-- R170: the REPORT is queued, or dropped when the routine queue is full. Its data are formed before it is queued: a LINK
report does not count itself among the routine queue's notices, and a later one counts it while it waits, although R170 has
answering a PROBE change no reported value but report-dropped (log 40, DESIGN CHOICE). -/
def State.answerProbe (s : State) (item index : Nat) : State :=
  if s.routineRoom then s.pushRoutine (.report item index ((s.itemData item index).getD []))
  else { s with lc := { s.lc with reportDropped := countByte s.lc.reportDropped } }

/-- R170: an accepted PROBE. -/
def State.onProbe (f : Frame) (s : State) : State :=
  let station := f.byteAt 0 / 16
  let item := f.byteAt 0 % 16
  if station ≠ s.station then s
  else if 13 ≤ item then s.countMalformed
  else s.answerProbe item (f.byteAt 1)

def execProbe (f : Frame) (s : State) : Host.Outcome State Fault Refusal :=
  .next (s.hear .probe f (State.onProbe f))

end Sys2Proof.Machine
end

