-- ==== Sys2Proof/Machine/RackCmds.lean ====
section
/-!
DEFINITION. The rack's commands (R60 to R67) and the sensor reports of bins and places: STORED, RELEASED, RACK_LIMIT_EXPIRY,
RACK_REQUEST_ISSUE, BIN_JAMMED and PLACE_CLEARED.
-/

namespace Sys2Proof.Machine

/-! ### Completions of the rack mechanism -/

/-- R61: an OK STORED of the store `e`. -/
def State.storeDone (s : State) (e : InletSheet) : State :=
  let t : State := { s with hr := { s.hr with
    rack := .idle, inlet := s.hr.inlet.drop 1, pockets := set1 s.hr.pockets e.pocket (.holding e.id e.page) } }
  (t.pageStored e.id e.page e.pocket).arbiter

/-- R65, R97, R101: an OK RELEASED of the release `r`. For a feeder release the Return Feeder's report of its room, whose first
part is the arbiter's run, comes after the page has been reported (log 26). -/
def State.releaseDone (s : State) (r : Release) : State :=
  let t : State := { s with hr := { s.hr with rack := .idle, pockets := set1 s.hr.pockets r.pocket .free } }
  match r.dest with
  | .bin b => (t.pageReleased r.id r.page b).arbiter
  | .feeder =>
    let u : State := { t with rf := { t.rf with count := t.rf.count + 1, onWay := t.rf.onWay - 1 } }
    (u.pageToFeeder r.id r.page).roomReport

/-- R61, R66: STORED. -/
def execStored (st : Status) (s : State) : Host.Outcome State Fault Refusal :=
  .next (match s.hr.rack, st with
    | .busy (.store e), .ok => s.storeDone e
    | .busy _, _ => s.rackFault
    | _, _ => s)

/-- R65, R66: RELEASED. -/
def execReleased (st : Status) (s : State) : Host.Outcome State Fault Refusal :=
  .next (match s.hr.rack, st with
    | .busy (.release r), .ok => s.releaseDone r
    | .busy _, _ => s.rackFault
    | _, _ => s)

/-- R67: the rack's limit expires; with no request in flight there is no limit to expire (log 2). -/
def execRackLimitExpiry (s : State) : Host.Outcome State Fault Refusal :=
  .next (match s.hr.rack with
    | .busy _ => s.rackFault
    | .idle | .outOfService => s)

/-- R60: the arbiter runs (log 3). -/
def execRackRequestIssue (s : State) : Host.Outcome State Fault Refusal :=
  .next s.arbiter

/-! ### Bins -/

/-- The record that holds bin `b`. -/
def State.holderOf (s : State) (b : Nat) : Option SetRecord := s.co.sets.find? (fun r => r.bin == some b)

/-- R35: a record drops its jammed bin; its PLACED pages become ABSENT. -/
def SetRecord.dropBin (r : SetRecord) : SetRecord :=
  { r with bin := none, map := r.map.map (fun x => if x = .placed then .absent else x) }

/-- R35, R63, R99: the record of an ASSIGNED bin with no carriage operation in flight drops it; it is surrendered with reason
JAM, or its surrender continues without the bin and without a queued UNLOAD. -/
def State.jamRecord (s : State) (r : SetRecord) : State :=
  let t := s.putSet r.dropBin
  if r.state = .surrendering then (((t.withdrawCarriage r.id true).redirect r.id).unloadTest r.id).removalTest r.id
  else t.surrender r.id (some .jam)

/-- R35: "bin jammed". -/
def execBinJammed (b : Nat) (s : State) : Host.Outcome State Fault Refusal :=
  .next (match s.binState b with
    | none => s
    | some .jammed => s
    | some .available => s.setBin b .jammed
    | some .occupied => s.setBin b .jammed
    | some .assigned =>
      let t := s.setBin b .jammed
      if s.carriageOnBin b then t
      else match s.holderOf b with
        | none => t
        | some r => t.jamRecord r)

/-! ### Cleared places -/

/-- R34: "place cleared" for a bin. -/
def State.clearBin (s : State) (b : Nat) : State :=
  match s.binState b with
  | some .occupied => s.setBin b .available
  | some .jammed => if (s.holderOf b).isSome then s else s.setBin b .available
  | _ => s

/-- R68: "place cleared" for a rack pocket. -/
def State.clearRackPocket (s : State) (k : Nat) : State :=
  if nth1 s.hr.pockets k = some .occupied then
    { s with hr := { s.hr with pockets := set1 s.hr.pockets k .free } }
  else s

/-- R58: "place cleared" for the inlet. -/
def State.clearInlet (s : State) : State := { s with hr := { s.hr with inletOccupied := false } }

/-- R118, R119: "place cleared" for a jaw; a jaw that becomes FREE has the start test made. -/
def State.clearJaw (s : State) (j : JawName) : State :=
  if s.jaw j = .occupied then (s.setJaw j .free).startTest else s

/-- R34, R58, R68, R119: "place cleared". -/
def execPlaceCleared (p : Place) (s : State) : Host.Outcome State Fault Refusal :=
  .next (match p with
    | .bin b => s.clearBin b
    | .rackPocket k => s.clearRackPocket k
    | .inlet => s.clearInlet
    | .jaw j => s.clearJaw j)

end Sys2Proof.Machine
end

