-- ==== Sys2Proof/Machine/Laps.lean ====
section
/-!
DEFINITION. The Progress Watch (chapter 7): laps, reprints and stranded sets. REPRINT and RETRY offers share `offerReprint`.
-/

namespace Sys2Proof.Machine

/-- R109: the maximum of a policy. -/
def Policy.maximum (p : Policy) : Nat :=
  match p.mode with
  | .none => 0
  | .once => 1
  | .repeated => p.limit

def SetRecord.anyAbsent (r : SetRecord) : Bool := r.anyPage (· == .absent)

/-- R109: a REPRINT is due, for a record for which step 2 of R106 was taken. -/
def SetRecord.due (r : SetRecord) : Bool :=
  r.attempts < r.policy.maximum && r.policy.delay ≤ r.watch && r.countdown == 0 && r.anyAbsent

/-- R112: the STRANDED test, for a record for which step 2 of R106 was taken. -/
def SetRecord.strandedTest (r : SetRecord) : Bool :=
  !r.stranded && r.watch == Config.watchMax && r.attempts == r.policy.maximum && r.countdown == 0
    && r.waiting == .none && r.anyAbsent

/-- R111: the pages a REPRINT lists. -/
def SetRecord.reprintPages (r : SetRecord) : List Nat :=
  (r.wanted.filter (fun p => r.status p == .absent)).take Config.reprintPagesMax

/-- R109, R110, R113: what queueing a REPRINT does to the record. -/
def SetRecord.reprinted (r : SetRecord) (kind : ReprintWait) : SetRecord :=
  { r with
    waiting := .none
    countdown := r.policy.interval
    attempts := if kind = .policy then r.attempts + 1 else r.attempts }

/-- R110, R113: a REPRINT is offered to the routine queue, and queued or deferred. -/
def State.offerReprint (s : State) (r : SetRecord) (kind : ReprintWait) : State :=
  if s.routineRoom then
    let t := (s.pushRoutine (.reprint r.id r.reprintPages)).putSet (r.reprinted kind)
    { t with pw := { t.pw with reprintsSent := count t.pw.reprintsSent } }
  else
    let t := s.putSet { r with waiting := kind }
    { t with pw := { t.pw with deferred := count t.pw.deferred } }

/-- R106 step 2 is taken for a record at this LAP. -/
def SetRecord.counted (r : SetRecord) : Bool := r.state == .collecting && !r.skipPending

/-- R106: a COLLECTING record at a LAP. -/
def SetRecord.lap (r : SetRecord) : SetRecord :=
  if r.state = .collecting then
    if r.skipPending then { r with skipPending := false }
    else { r with watch := if r.watch < Config.watchMax then r.watch + 1 else r.watch, countdown := r.countdown - 1 }
  else r

/-- R110, first pass: a record whose reprint waiting is POLICY or RETRY; `counted` says step 2 of R106 was taken for it. -/
def State.offerWaiting (counted : List SetId) (s : State) (id : SetId) : State :=
  match s.findSet id with
  | none => s
  | some r =>
    if r.state ≠ .collecting then s
    else match r.waiting with
      | .none => s
      | .retry => if r.anyAbsent then s.offerReprint r .retry else s.putSet { r with waiting := .none }
      | .policy =>
        if counted.contains id && r.due then s.offerReprint r .policy else s.putSet { r with waiting := .none }

/-- R110, second pass: a record whose reprint waiting is none and for which a REPRINT is due. -/
def State.offerDue (counted : List SetId) (s : State) (id : SetId) : State :=
  match s.findSet id with
  | none => s
  | some r =>
    if r.waiting = .none ∧ (counted.contains id && r.due) = true then s.offerReprint r .policy else s

/-- R112: the STRANDED test of a record. -/
def State.strand (counted : List SetId) (s : State) (id : SetId) : State :=
  match s.findSet id with
  | none => s
  | some r =>
    if (counted.contains id && r.strandedTest) = true then
      let t := s.putSet { r with stranded := true }
      { t with pw := { t.pw with strandings := count t.pw.strandings } }
    else s

/-- R106, R110, R112: a LAP. -/
def State.lap (s : State) : State :=
  let ids := s.co.sets.map (fun r => r.id)
  let counted := (s.co.sets.filter (fun r => r.counted)).map (fun r => r.id)
  let t := ids.foldl (fun (u : State) id => u.updSet id SetRecord.lap) s
  let u := ids.foldl (State.offerWaiting counted) t
  let v := ids.foldl (State.offerDue counted) u
  ids.foldl (State.strand counted) v

end Sys2Proof.Machine
end

