-- ==== Sys2Proof/Machine/Routing.lean ====
section
/-!
DEFINITION. The choice of the gate action at a carrier read: the claim decision (R73 to R76), the making of a set record (R33,
R36), collation routing (R37 to R42) and the cases of R9 and R10.
-/

namespace Sys2Proof.Machine

/-- The mark of a MARKED read (R3). -/
structure Mark where
  id : SetId
  page : Nat
  pages : Nat
  deriving DecidableEq, Repr

/-- A chosen action: the state after the choice, the action, and the set reference and page of a BIN or RACK entry. -/
structure Chosen where
  state : State
  action : Action
  target : Option PageRef

def State.choose (s : State) (a : Action) : Chosen := { state := s, action := a, target := none }

/-! ### Collation routing (R37 to R42) -/

def State.countDuplicate (s : State) : State := { s with co := { s.co with duplicate := count s.co.duplicate } }

def State.countMismatch (s : State) : State := { s with co := { s.co with mismatch := count s.co.mismatch } }

def State.countRackFull (s : State) : State := { s with co := { s.co with rackFull := count s.co.rackFull } }

def State.countLate (s : State) : State := { s with gc := { s.gc with late := count s.gc.late } }

/-- R40: the sheet goes direct to the bin. -/
def SetRecord.direct (r : SetRecord) (p : Nat) : Bool :=
  r.frontier == some p && !r.anyPage PageStatus.inShare && !r.anyPage PageStatus.inboundBinP

/-- R41 conditions 1 to 4. -/
def State.rackAdmits (s : State) (r : SetRecord) (p : Nat) : Bool :=
  let half := s.rackFitted / 2
  let waits := match r.frontier with
    | some q => q != p && r.status q == .absent
    | none => false
  s.rackInService && 1 ≤ s.freeRackPockets && s.inletPlaceFree && r.share + 1 ≤ half
    && (!waits || (r.share + 1 ≤ half - 1 && 2 ≤ s.freeRackPockets))

/-- R55: pocket `k` and an inlet place are reserved for a page. -/
def State.reserve (s : State) (k : Nat) (id : SetId) (p : Nat) : State :=
  { s with hr := { s.hr with
    pockets := set1 s.hr.pockets k (.reserved id p), inletReserved := s.hr.inletReserved + 1 } }

/-- R38 to R42: the routing of a sheet of a CLAIMING or COLLECTING set. A FAULTED gate takes no BIN and no RACK entry (R17,
log 9). -/
def State.routeOpen (s : State) (r : SetRecord) (m : Mark) : Chosen :=
  if m.pages ≠ r.pages then s.countMismatch.choose s.rejectOrPass
  else if r.status m.page ≠ .absent then s.countDuplicate.choose s.rejectOrPass
  else if s.gc.gate = .faulted then s.choose .pass
  else
    let ref : PageRef := { id := r.id, page := m.page, record := r.record }
    match r.bin, r.direct m.page with
    | some b, true => { state := s.setPage r.id m.page .inboundBin, action := .bin b, target := some ref }
    | _, _ =>
      match s.lowestFree, s.rackAdmits r m.page with
      | some k, true =>
        { state := (s.reserve k r.id m.page).setPage r.id m.page (.inboundRack k), action := .rack k, target := some ref }
      | _, _ => s.countRackFull.choose .pass

/-- R37: collation routing of a sheet of the set of record `r`. -/
def State.route (s : State) (r : SetRecord) (m : Mark) : Chosen :=
  match r.state with
  | .claiming | .collecting => s.routeOpen r m
  | .finishing => s.choose .pass
  | .complete | .inJaw | .delivering =>
    if m.pages ≠ r.pages then s.countMismatch.choose s.rejectOrPass
    else if r.status m.page = .absent then s.countLate.choose s.rejectOrPass
    else s.countDuplicate.choose s.rejectOrPass
  | .surrendering => s.choose .pass

/-! ### The claim decision (R73 to R76) -/

/-- R74, R135: the pocket bound to job `j`. -/
def State.boundPocket (s : State) (j : Nat) : Option Nat :=
  (numbers s.dc.pockets.length).find? (fun p => (nth1 s.dc.pockets p).any (fun x => x.binding == some j))

/-- R74, R135: the pocket named for a set of `n` pages of job `j`; none when the pocket condition fails. -/
def State.pocketFor (s : State) (j : JobRecord) (n : Nat) : Option Nat :=
  match s.boundPocket j.job with
  | some p => if (nth1 s.dc.pockets p).any (fun x => x.admits (wholeCost n j.staple)) then some p else none
  | none => (numbers s.dc.pockets.length).find? (fun p => (nth1 s.dc.pockets p).any Pocket.bindable)

/-- R75: a peer better placed to take sets of job `j`. -/
def Peer.betterPlaced (p : Peer) (j : JobRecord) : Bool :=
  p.present &&
    match p.last with
    | none => false
    | some c =>
      c.bay == BayState.active.code && c.pockets.any (fun x => x.job == j.job && !x.full) && 1 ≤ c.freeBins
        && (j.staple == .none || (c.head != HeadStatus.empty.code && c.head != HeadStatus.fault.code))

/-- R75: the affinity condition. -/
def State.affinity (s : State) (j : JobRecord) : Bool :=
  (s.boundPocket j.job).isSome || !s.lc.peers.any (fun p => p.betterPlaced j)

/-- R73: the conditions of a claim but the pocket condition. -/
def State.mayClaim (s : State) (j : JobRecord) : Bool :=
  s.bs.state == .active
    && s.co.sets.length < Config.setsMax && 1 ≤ s.freeBins
    && (j.staple == .none || s.headStatus.able)
    && s.affinity j
    && s.urgentRoom
    && s.cu.foreign.length < Config.foreignMax && s.cu.late.isEmpty

/-- R33: the bins in the order of the search. -/
def State.searchOrder (s : State) : List Nat :=
  let f := s.co.bins.length
  (List.range f).map (fun i => (s.co.searchPtr - 1 + i) % f + 1)

/-- R33: the bin the search chooses. -/
def State.searchBin (s : State) : Option Nat := s.searchOrder.find? (fun b => s.binState b == some .available)

/-- R28: the reprint policy a set takes from its job. -/
def JobRecord.snapshotPolicy (j : JobRecord) : Policy :=
  if j.adopted then { j.policy with mode := .none } else j.policy

/-- R28, R36, R105: the record of a claim. -/
def SetRecord.made (j : JobRecord) (m : Mark) (bin pocket record : Nat) : SetRecord :=
  { id := m.id, pages := m.pages, state := .claiming, bin := some bin, order := j.order, staple := j.staple,
    policy := j.snapshotPolicy, map := List.replicate m.pages .absent, pocket := pocket, deadline := true,
    watch := 0, attempts := 0, countdown := 0, skipPending := true, stranded := false, isPartial := false,
    waiting := .none, record := record }

/-- R135: a pocket not yet bound is bound to the job of a claim. -/
def State.bindPocket (s : State) (p j : Nat) : State :=
  s.changePocket p (fun x => { x with binding := if x.binding = none then some j else x.binding })

/-- R33, R36, R76: the claim is made with bin `b` and pocket `p`, and its sheet is routed. -/
def State.makeClaim (s : State) (j : JobRecord) (m : Mark) (b p : Nat) : Chosen :=
  let r := SetRecord.made j m b p s.co.made
  let t : State := { s with co := { s.co with searchPtr := b % s.co.bins.length + 1 } }
  let u := (((t.setBin b .assigned).addSet r).bindPocket p m.id.job).pushUrgent (.claim m.id m.pages)
  u.route r m

/-- R73, R76: the claim decision for a sheet of an unclaimed set of an OPEN job. -/
def State.claimDecision (s : State) (j : JobRecord) (m : Mark) : Chosen :=
  match s.mayClaim j, s.pocketFor j m.pages, s.searchBin with
  | true, some p, some b => s.makeClaim j m b p
  | _, _, _ => s.choose .pass

/-! ### R9 and R10 -/

/-- R10: the bay states in which every marked sheet is passed. -/
def State.passesMarked (s : State) : Bool :=
  s.bs.state == .dormant || s.bs.state == .joining || s.bs.state == .service || s.bs.state == .fault .gate

/-- R10: the action for a MARKED read. In a bay state other than these the cases are decided, and late, duplicate and
mismatched sheets counted, while the gate is FAULTED too; every action is then PASS (R17), and no claim is made (log 9). -/
def State.chooseMarked (s : State) (m : Mark) : Chosen :=
  if s.passesMarked then s.choose .pass
  else
    match s.findJob m.id.job with
    | none => s.choose .pass
    | some j =>
      if j.doneMap.contains m.id.num then s.countLate.choose s.rejectOrPass
      else
        match s.findSet m.id with
        | some r => s.route r m
        | none =>
          if s.standing m.id then s.choose .pass
          else if j.state ≠ .opened then s.countLate.choose s.rejectOrPass
          else if s.gc.gate = .faulted then s.choose .pass
          else s.claimDecision j m

/-- R2: the content of a carrier read; `usable` says its carrier number is usable. -/
inductive ReadContent where
  | empty
  | marked (m : Mark)
  | unreadable (usable : Bool)
  deriving DecidableEq, Repr

/-- R9, R10: the action for a read. -/
def State.chooseRead (s : State) (c : ReadContent) : Chosen :=
  match c with
  | .empty => s.choose (if s.fillAdmission then .fill else .pass)
  | .unreadable true => s.choose s.rejectOrPass
  | .unreadable false => s.choose .pass
  | .marked m =>
    let c := s.chooseMarked m
    { c with state := c.state.sighting m.id }

/-- R11 step 1: a full approach queue lapses its oldest entry. -/
def State.makeRoom (s : State) : State :=
  if s.gc.queue.length < Config.approachMax then s else s.lapseOldest

/-- R11: a CARRIER READ. -/
def State.carrierRead (s : State) (carrier : Nat) (c : ReadContent) : State :=
  let x := s.makeRoom.chooseRead c
  let e : Entry := { carrier := carrier, action := x.action, target := x.target }
  { x.state with gc := { x.state.gc with queue := x.state.gc.queue ++ [e] } }

end Sys2Proof.Machine
end

