-- ==== Sys2Proof/Machine/Reader.lean ====
section
/-!
DEFINITION. The reader station's commands (R1 to R7): READER_SAMPLE, CARRIER_NUMBER_REPORT, MARK_READ.
-/

namespace Sys2Proof.Machine

/-- R1: the agreed value of an input after a sample. -/
def agreedAfter (agreed : Bool) (previous : Option Bool) (sample : Bool) : Bool :=
  if sample ≠ agreed ∧ previous = some sample then sample else agreed

/-- R2: a usable carrier number. -/
def usable (n : Option Nat) : Bool :=
  match n with
  | none => false
  | some k => k < 240

/-- R2: the content of the read of a closing window. -/
def Window.content (w : Window) : ReadContent :=
  if usable w.number then
    if w.sensed then
      match w.first, w.second with
      | some (.strip m), some (.strip m') =>
        if m = m' ∧ m.valid = true then
          .marked { id := { job := m.job, num := m.num }, page := m.page, pages := m.pages }
        else .unreadable true
      | _, _ => .unreadable true
    else .empty
  else .unreadable false

/-- R4: the read gap test: a known C and a known last number, and not the expected number. -/
def Reader.gap (x : Reader) (n : Nat) : Bool :=
  match x.loopSize, x.lastNumber with
  | some c, some l => n != (l + 1) % c
  | _, _ => false

/-- R5: C after a carrier 0 read. -/
def Reader.relearned (x : Reader) : Option Nat :=
  match x.lastNumber with
  | none => x.loopSize
  | some l => if 47 ≤ l ∧ l ≤ 239 then some (l + 1) else x.loopSize

/-- R2, R4, R5, R7: the Reader Interface at the moment of a read. -/
def Reader.readDone (x : Reader) (number : Option Nat) (c : ReadContent) : Reader :=
  let y := match c with
    | .unreadable _ => { x with unreadable := count x.unreadable }
    | _ => x
  match number with
  | some n =>
    if n < 240 then
      { y with
        readGap := if x.gap n then count y.readGap else y.readGap
        lastNumber := some n
        loopSize := if n = 0 then x.relearned else y.loopSize }
    else { y with lastNumber := none }
  | none => { y with lastNumber := none }

/-- R2, R6, R11: the read of a closing window: the carrier number, then the LAP of carrier 0, then the CARRIER READ. A read with
no recorded number enters the approach queue as carrier 255 (log 8). -/
def State.windowCloses (s : State) (w : Window) : State :=
  let c := w.content
  let t : State := { s with ri := s.ri.readDone w.number c }
  let u := if w.number = some 0 then t.lap else t
  u.carrierRead (w.number.getD 255) c

/-- R1, R2: a reader sample. Both inputs take their agreed values at the sample; a window opening at it starts with the new
SHEET value, and a window closing at it does not see the new SHEET value (log 7). -/
def State.sample (s : State) (carrier sheet : Bool) : State :=
  let c := agreedAfter s.ri.carrier (s.ri.lastSample.map (·.1)) carrier
  let h := agreedAfter s.ri.sheet (s.ri.lastSample.map (·.2)) sheet
  let x := { s.ri with carrier := c, sheet := h, lastSample := some (carrier, sheet) }
  if s.ri.carrier = false ∧ c = true then
    { s with ri := { x with window := some { number := none, first := none, second := none, sensed := h } } }
  else if s.ri.carrier = true ∧ c = false then
    let t : State := { s with ri := { x with window := none } }
    match s.ri.window with
    | none => t
    | some w => t.windowCloses w
  else
    { s with ri := { x with window := x.window.map (fun w => { w with sensed := w.sensed || h }) } }

def execReaderSample (carrier sheet : Bool) (s : State) : Host.Outcome State Fault Refusal :=
  .next (s.sample carrier sheet)

/-- R2: a carrier number report. -/
def execCarrierNumberReport (n : Byte) (s : State) : Host.Outcome State Fault Refusal :=
  .next { s with ri := { s.ri with window := s.ri.window.map (fun w => { w with number := some n.toNat }) } }

/-- R2: the window with a mark read recorded. -/
def Window.withMark (w : Window) (m : MarkRead) : Window :=
  if w.first = none then { w with first := some m } else { w with second := some m }

/-- R2: a mark read. -/
def execMarkRead (bits : BitVec 40) (s : State) : Host.Outcome State Fault Refusal :=
  .next { s with ri := { s.ri with window := s.ri.window.map (fun w => w.withMark (markOfBits bits)) } }

end Sys2Proof.Machine
end

