-- ==== Sys2Proof/Machine/ResetCmds.lean ====
section
/-!
DEFINITION. Reset (R160, R161, R168): POWER_ON_RESET, and the reset of the part that SERVICE RESTART shares with it.
-/

namespace Sys2Proof.Machine

/-- R53, R161: the bins at a reset whose straps are good. -/
def binsAtReset (x : Straps) (v : Sensors) : List BinState :=
  (numbers x.fittedBins).map (fun b => if v.found.contains (.bin b) then .occupied else .available)

/-- R69, R161: the rack pockets at a reset whose straps are good. -/
def rackAtReset (x : Straps) (v : Sensors) : List PocketState :=
  (numbers x.fittedRack).map (fun k => if v.found.contains (.rackPocket k) then .occupied else .free)

/-- R131, R161: a jaw at a reset whose straps are good. -/
def jawAtReset (v : Sensors) (j : JawName) : JawState :=
  if v.found.contains (.jaw j) then .occupied else .free

/-- R160: the part in DORMANT with the straps read and no sensor read; the commands that wait are the world's and stay. -/
def State.dormant (s : State) (x : Straps) : State :=
  { State.reset with
    co := { State.reset.co with bins := List.replicate x.fittedBins .available }
    hr := { State.reset.hr with pockets := List.replicate x.fittedRack .free }
    dc := { State.reset.dc with pockets := List.replicate x.fittedPockets Pocket.reset }
    bs := { State.reset.bs with straps := x, lamp := bayLamp x.good .dormant }
    pending := s.pending }

/-- R161: the presence sensors and the feeder's sheet-count sensor are read. -/
def State.readSensors (s : State) (x : Straps) (v : Sensors) : State :=
  { s with
    co := { s.co with bins := binsAtReset x v }
    hr := { s.hr with pockets := rackAtReset x v, inletOccupied := v.found.contains .inlet }
    rf := { s.rf with count := min v.feeder.toNat Config.feederMax }
    sc := { s.sc with jawA := jawAtReset v .a, jawB := jawAtReset v .b } }

/-- R160, R161: a reset of the whole part. -/
def State.resetPart (s : State) (x : Straps) (v : Sensors) : State :=
  let t := s.dormant x
  if x.good then (t.readSensors x v).enterJoining else t

/-- R131, R168: what the Stapler Controller keeps across a RESTART. -/
def Stapler.keeping (new old : Stapler) : Stapler :=
  { new with staples := old.staples, faultedMark := old.faultedMark, emptyMark := old.emptyMark }

/-- R168: a RESTART taken. -/
def State.restart (s : State) (x : Straps) (v : Sensors) : State :=
  let t := s.resetPart x v
  { t with sc := t.sc.keeping s.sc }

/-- R160: a power-on or pin reset. -/
def execPowerOnReset (x : Straps) (v : Sensors) (s : State) : Host.Outcome State Fault Refusal :=
  .next (s.resetPart x v)

end Sys2Proof.Machine
end

