-- ==== Sys2Proof/Machine/StaffCmds.lean ====
section
/-!
DEFINITION. What staff ask for: the SETACTs (R50, R52, R95, R113) and the SERVICE commands (R163 to R165, R168). A SETACT or
SERVICE naming another station is heard and not acted on.
-/

namespace Sys2Proof.Machine

/-! ### SETACT -/

/-- 10.10.2: the station a SETACT names. -/
def setactStation (f : Frame) : Nat := f.low6 / 4

/-- R50, R52, R113: a SETACT is acted on when it names this station. -/
def State.onSetact (f : Frame) (act : State → State) (s : State) : State :=
  if setactStation f = s.station then act s else s

/-- R50: a FINISH accepted for a COLLECTING record. -/
def State.finishSet (s : State) (r : SetRecord) : State :=
  (s.putSet { r.toState .finishing with isPartial := true }).afterChange r.id

/-- R52: the carriage has started the unload of the set's bin. -/
def State.unloadStarted (s : State) (id : SetId) : Bool :=
  match s.carriageInFlight with
  | some r => r.isUnload && r.id == id
  | none => false

/-- R52: a SURRENDERING record may still be finished. -/
def State.recoverable (s : State) (r : SetRecord) : Bool :=
  r.state == .surrendering && r.bin.isSome && 1 ≤ r.placedCount && !r.anyPage PageStatus.moving
    && !s.unloadStarted r.id

/-- R94: the surrender YIELDs of a set still waiting in CU are dropped (log 19). -/
def ClaimUnit.dropYields (c : ClaimUnit) (id : SetId) : ClaimUnit :=
  { c with waiting := c.waiting.filter (fun w => match w with
    | .yield i r => !(i == id && r != .late)
    | .helds => true) }

/-- R90: the foreign entry of a set taken back by a FINISH is removed, and the conflict counted. -/
def ClaimUnit.takeBack (c : ClaimUnit) (id : SetId) : ClaimUnit :=
  if c.foreign.any (fun e => e.id == id) then
    { c with foreign := c.foreign.filter (fun e => e.id != id), conflicts := count c.conflicts }
  else c

/-- R52: a FINISH accepted for a SURRENDERING record in SERVICE. -/
def State.recoverSet (s : State) (r : SetRecord) : State :=
  let t := s.withdrawCarriage r.id true
  let u : State := { t with cu := (t.cu.dropYields r.id).takeBack r.id }
  u.completeSet r true

/-- R50, R52: a FINISH naming this station. -/
def State.finish (id : SetId) (s : State) : State :=
  match s.findSet id with
  | none => s.countRefused
  | some r =>
    if (s.bs.state = .active ∨ s.bs.state = .draining) ∧ r.state = .collecting then s.finishSet r
    else if s.bs.state = .service ∧ s.recoverable r = true then s.recoverSet r
    else s.countRefused

def execSetactFinish (f : Frame) (s : State) : Host.Outcome State Fault Refusal :=
  .next (s.hear .setact f (State.onSetact f (State.finish (f.setAt 0))))

/-- R95: a YIELD naming this station. -/
def State.staffYield (id : SetId) (s : State) : State :=
  match s.findSet id with
  | none => s.countRefused
  | some r => if s.surrenderable r then s.surrender id (some .staff) else s.countRefused

def execSetactYield (f : Frame) (s : State) : Host.Outcome State Fault Refusal :=
  .next (s.hear .setact f (State.onSetact f (State.staffYield (f.setAt 0))))

/-- R113: the record at an accepted RETRY. -/
def SetRecord.retried (r : SetRecord) : SetRecord := { r with watch := 0, attempts := 0, stranded := false }

/-- R113: a RETRY naming this station. -/
def State.retry (id : SetId) (s : State) : State :=
  match s.findSet id with
  | none => s.countRefused
  | some r =>
    if r.state = .collecting then
      let q := r.retried
      let t := s.putSet q
      if q.anyAbsent then t.offerReprint q .retry else t.putSet { q with waiting := .none }
    else s.countRefused

def execSetactRetry (f : Frame) (s : State) : Host.Outcome State Fault Refusal :=
  .next (s.hear .setact f (State.onSetact f (State.retry (f.setAt 0))))

/-- R50: a SETACT naming this station whose action code is none of the three. -/
def execSetactRefusedAsMalformed (f : Frame) (s : State) : Host.Outcome State Fault Refusal :=
  .next (s.hear .setact f (State.onSetact f State.countMalformed))

/-! ### SERVICE -/

/-- 10.10.2: the station a SERVICE names. -/
def serviceStation (f : Frame) : Nat := f.byteAt 0 / 16

/-- R163: a SERVICE is acted on when it names this station. -/
def State.onService (f : Frame) (act : State → State) (s : State) : State :=
  if serviceStation f = s.station then act s else s

/-- R163: a refused command. -/
def State.refuseService (s : State) : State := { s with bs := { s.bs with refused := countByte s.bs.refused } }

/-- R164: DRAIN. -/
def State.drain (s : State) : State :=
  if s.bs.state = .active then (s.setBay .draining).drainTest else s.refuseService

def execServiceDrain (f : Frame) (s : State) : Host.Outcome State Fault Refusal :=
  .next (s.hear .service f (State.onService f State.drain))

/-- R165, R96: STOP. -/
def State.stop (s : State) : State :=
  if s.bs.state = .active ∨ s.bs.state = .draining then (s.setBay .service).surrenderAll (some .service)
  else s.refuseService

def execServiceStop (f : Frame) (s : State) : Host.Outcome State Fault Refusal :=
  .next (s.hear .service f (State.onService f State.stop))

/-- R163: RESUME. -/
def State.resume (s : State) : State :=
  if s.bs.state = .draining ∨ s.bs.state = .service then s.setBay .active else s.refuseService

def execServiceResume (f : Frame) (s : State) : Host.Outcome State Fault Refusal :=
  .next (s.hear .service f (State.onService f State.resume))

/-- R163, R168: the bay states in which a RESTART is taken. -/
def BayState.takesRestart : BayState → Bool
  | .service | .fault _ => true
  | .dormant | .joining | .active | .draining => false

/-- R168: RESTART. -/
def State.onRestart (x : Straps) (v : Sensors) (s : State) : State :=
  if s.bs.state.takesRestart then s.restart x v else s.refuseService

def execServiceRestart (f : Frame) (x : Straps) (v : Sensors) (s : State) : Host.Outcome State Fault Refusal :=
  .next (s.hear .service f (State.onService f (State.onRestart x v)))

/-- R163: a SERVICE naming this station whose command code is none of the four. -/
def execServiceRefusedAsMalformed (f : Frame) (s : State) : Host.Outcome State Fault Refusal :=
  .next (s.hear .service f (State.onService f State.countMalformed))

end Sys2Proof.Machine
end

