-- ==== Sys2Proof/Machine/StaplerCmds.lean ====
section
/-!
DEFINITION. The Stapler Controller's commands (chapter 8): the carriage's, the head's and the cartridge's.
-/

namespace Sys2Proof.Machine

/-! ### Carriage -/

/-- R118: the start test (log 3). -/
def execCarriageStart (s : State) : Host.Outcome State Fault Refusal :=
  .next s.startTest

/-- R123: the staples a set is owed. -/
def SetRecord.staplesOwed (r : SetRecord) : Nat :=
  if r.isPartial ∨ r.pages = 1 ∨ Config.stapleMaxPages < r.pages then 0
  else match r.staple with
    | .none => 0
    | .corner => 1
    | .edge => 2

/-- R123: the outcome of a set that is owed no staples. -/
def SetRecord.unstapledOutcome (r : SetRecord) : SetOutcome :=
  if r.isPartial then .partialSet
  else if r.staple = .none ∨ r.pages = 1 then .unstapled
  else .oversize

/-- R123, R124, R128: the stapling of the set in jaw `j` is settled. -/
def State.settle (s : State) (j : JawName) (r : SetRecord) : State :=
  if r.staplesOwed = 0 then s.handOver j r.id r.unstapledOutcome
  else
    let t : State := { s with sc := { s.sc with headQueue := s.sc.headQueue ++ [j] } }
    t.headIssue

/-- R120: an OK TRANSFERRED of the set into jaw `j`. -/
def State.transferDone (s : State) (id : SetId) (b : Nat) (j : JawName) : State :=
  let t : State := { s with sc := { s.sc with carriage := .idle } }
  match s.findSet id with
  | none => t
  | some r =>
    let u := (t.setJaw j (.holding id { outcome := none, owed := r.staplesOwed, retryUsed := false })).freeBin b
    let v := u.putSet { r.toState .inJaw with bin := none }
    (v.settle j r).startTest

/-- R120, R121: TRANSFERRED. -/
def execTransferred (st : Status) (s : State) : Host.Outcome State Fault Refusal :=
  .next (match s.sc.carriage, st with
    | .busy (.transfer id b) (some j), .ok => s.transferDone id b j
    | .busy _ _, _ => s.carriageFault
    | _, _ => s)

/-- R99: every PLACED page of an unloaded record becomes ABSENT, and it holds no bin. -/
def SetRecord.emptied (r : SetRecord) : SetRecord :=
  { r with bin := none, map := r.map.map (fun x => if x = .placed then .absent else x) }

/-- R99, R101, R121: an OK UNLOADED of `m` sheets. -/
def State.unloadDone (s : State) (id : SetId) (b m : Nat) : State :=
  let t : State := { s with
    sc := { s.sc with carriage := .idle }
    rf := { s.rf with count := s.rf.count + m, onWay := s.rf.onWay - m } }
  (((t.freeBin b).updSet id SetRecord.emptied).removalTest id).roomReport

/-- R121: UNLOADED. -/
def execUnloaded (st : Status) (s : State) : Host.Outcome State Fault Refusal :=
  .next (match s.sc.carriage, st with
    | .busy (.unload id b m) _, .ok => s.unloadDone id b m
    | .busy _ _, _ => s.carriageFault
    | _, _ => s)

/-- R122: the carriage's limit expires; with no request in flight there is no limit to expire (log 2). -/
def execCarriageLimitExpiry (s : State) : Host.Outcome State Fault Refusal :=
  .next s.carriageFault

/-! ### Head -/

/-- R127: the staple count falls by `k`. -/
def State.useStaples (s : State) (k : Nat) : State :=
  s.tell { s with sc := { s.sc with staples := s.sc.staples.map (fun n => n - k) } }

/-- R124: STAPLE issue (log 3). -/
def execStapleIssue (s : State) : Host.Outcome State Fault Refusal :=
  .next s.headIssue

/-- What SC keeps with the set in jaw `j`. -/
def State.stapling (s : State) (j : JawName) : Option (SetId × Stapling) :=
  match s.jaw j with
  | .holding id st => some (id, st)
  | .free | .loading _ | .occupied | .outOfService _ => none

/-- R125: the set in jaw `j`, owing `owed` staples, leaves the head queue with its outcome and is handed to delivery; the head is
IDLE, so the next set's STAPLE is issued if there is one (R124). -/
def State.leaveHead (s : State) (j : JawName) (owed : Nat) (o : SetOutcome) : State :=
  match s.stapling j with
  | none => s
  | some (id, st) =>
    let t := s.setJaw j (.holding id { st with owed := owed })
    let u : State := { t with sc := { t.sc with headQueue := t.sc.headQueue.erase j } }
    (u.handOver j id o).headIssue

/-- R125: the end of STAPLE(j, k) as STAPLED. -/
def State.stapleDone (s : State) (j : JawName) (k : Nat) : State :=
  let t : State := { s with sc := { s.sc with head := .idle } }
  (t.useStaples k).leaveHead j 0 .stapled

/-- R125: the end of STAPLE(j, k) as MISFIRE(f), f < k. -/
def State.stapleMisfired (s : State) (j : JawName) (k f : Nat) : State :=
  let t : State := { s with sc := { s.sc with head := .idle, misfires := count s.sc.misfires } }
  let u := t.useStaples k
  match u.stapling j with
  | none => u
  | some (id, st) =>
    if st.retryUsed then u.leaveHead j (k - f) .stapleMissing
    else (u.setJaw j (.holding id { st with owed := k - f, retryUsed := true })).headIssue

/-- R125, R126: STAPLED. -/
def execStapled (st : Status) (s : State) : Host.Outcome State Fault Refusal :=
  .next (match s.sc.head, st with
    | .busy j k, .ok => s.stapleDone j k
    | .busy _ _, .fault => s.headFault
    | .idle, _ => s)

/-- R125, R126: MISFIRE; with f of k or more it is taken as STAPLED (log 16). -/
def execMisfire (st : Status) (formed : Nat) (s : State) : Host.Outcome State Fault Refusal :=
  .next (match s.sc.head, st with
    | .busy j k, .ok => if formed < k then s.stapleMisfired j k formed else s.stapleDone j k
    | .busy _ _, .fault => s.headFault
    | .idle, _ => s)

/-- R126: the end of STAPLE(j, k) as JAM(f), f < k. -/
def State.stapleJammed (s : State) (j : JawName) (k f : Nat) : State :=
  let t := match s.stapling j with
    | none => s
    | some (id, st) => s.setJaw j (.holding id { st with owed := k - f })
  (t.useStaples (f + 1)).headFault

/-- R126: JAM of either status; with f of k or more it is taken as f = k - 1. -/
def execJam (_st : Status) (formed : Nat) (s : State) : Host.Outcome State Fault Refusal :=
  .next (match s.sc.head with
    | .busy j k => s.stapleJammed j k (min formed (k - 1))
    | .idle => s)

/-- R126: the head's limit expires; with no STAPLE in flight there is no limit to expire (log 2). -/
def execHeadLimitExpiry (s : State) : Host.Outcome State Fault Refusal :=
  .next (match s.sc.head with
    | .busy _ _ => s.headFault
    | .idle => s)

/-- R126: "head cleared". -/
def execHeadCleared (s : State) : Host.Outcome State Fault Refusal :=
  .next (if s.sc.faultedMark then
      (s.tell { s with sc := { s.sc with faultedMark := false } }).headIssue
    else s)

/-- R127: "cartridge inserted". -/
def execCartridgeInserted (s : State) : Host.Outcome State Fault Refusal :=
  .next (s.tell { s with sc := { s.sc with staples := some Config.cartridgeStaples, emptyMark := false } }).headIssue

/-- R127: "cartridge empty". -/
def execCartridgeEmpty (s : State) : Host.Outcome State Fault Refusal :=
  .next (s.tell { s with sc := { s.sc with staples := some 0, emptyMark := true } })

end Sys2Proof.Machine
end

