-- ==== Sys2Proof/Machine/Dispatch.lean ====
section
/-!
DEFINITION. The dispatch of a command to its meaning: one arm for each constructor of `Instr`, each one direct call.
-/

namespace Sys2Proof.Machine

def exec (i : Instr) (s : State) : Host.Outcome State Fault Refusal :=
  match i with
  | .readerSample carrier sheet => Sys2Proof.Machine.execReaderSample carrier sheet s
  | .carrierNumberReport n => Sys2Proof.Machine.execCarrierNumberReport n s
  | .markRead bits => Sys2Proof.Machine.execMarkRead bits s
  | .gateArrival n => Sys2Proof.Machine.execGateArrival n s
  | .diverted => Sys2Proof.Machine.execDiverted s
  | .divertFailed => Sys2Proof.Machine.execDivertFailed s
  | .filled => Sys2Proof.Machine.execFilled s
  | .fillMissed => Sys2Proof.Machine.execFillMissed s
  | .gateLimitExpiry => Sys2Proof.Machine.execGateLimitExpiry s
  | .rejectEmptied => Sys2Proof.Machine.execRejectEmptied s
  | .stored st => Sys2Proof.Machine.execStored st s
  | .released st => Sys2Proof.Machine.execReleased st s
  | .rackLimitExpiry => Sys2Proof.Machine.execRackLimitExpiry s
  | .rackRequestIssue => Sys2Proof.Machine.execRackRequestIssue s
  | .binJammed b => Sys2Proof.Machine.execBinJammed b s
  | .placeCleared p => Sys2Proof.Machine.execPlaceCleared p s
  | .carriageStart => Sys2Proof.Machine.execCarriageStart s
  | .transferred st => Sys2Proof.Machine.execTransferred st s
  | .unloaded st => Sys2Proof.Machine.execUnloaded st s
  | .carriageLimitExpiry => Sys2Proof.Machine.execCarriageLimitExpiry s
  | .stapleIssue => Sys2Proof.Machine.execStapleIssue s
  | .stapled st => Sys2Proof.Machine.execStapled st s
  | .misfire st formed => Sys2Proof.Machine.execMisfire st formed s
  | .jam st formed => Sys2Proof.Machine.execJam st formed s
  | .headLimitExpiry => Sys2Proof.Machine.execHeadLimitExpiry s
  | .headCleared => Sys2Proof.Machine.execHeadCleared s
  | .cartridgeInserted => Sys2Proof.Machine.execCartridgeInserted s
  | .cartridgeEmpty => Sys2Proof.Machine.execCartridgeEmpty s
  | .deliverIssue p => Sys2Proof.Machine.execDeliverIssue p s
  | .delivered j st p => Sys2Proof.Machine.execDelivered j st p s
  | .deliveryLimitExpiry j => Sys2Proof.Machine.execDeliveryLimitExpiry j s
  | .heightSample p mm => Sys2Proof.Machine.execHeightSample p mm s
  | .claimDeadlineExpiry job num => Sys2Proof.Machine.execClaimDeadlineExpiry job num s
  | .offer contender => Sys2Proof.Machine.execOffer contender s
  | .attemptSpoiled => Sys2Proof.Machine.execAttemptSpoiled s
  | .badFrameCheck kind f check => Sys2Proof.Machine.execBadFrameCheck kind f check s
  | .claim f => Sys2Proof.Machine.execClaim f s
  | .held f => Sys2Proof.Machine.execHeld f s
  | .yield f => Sys2Proof.Machine.execYield f s
  | .done f => Sys2Proof.Machine.execDone f s
  | .job f => Sys2Proof.Machine.execJob f s
  | .jobclose f => Sys2Proof.Machine.execJobclose f s
  | .hello f => Sys2Proof.Machine.execHello f s
  | .gone f => Sys2Proof.Machine.execGone f s
  | .state f => Sys2Proof.Machine.execState f s
  | .reprint f => Sys2Proof.Machine.execReprint f s
  | .report f => Sys2Proof.Machine.execReport f s
  | .unknownKindNotice kind f => Sys2Proof.Machine.execUnknownKindNotice kind f s
  | .setactFinish f => Sys2Proof.Machine.execSetactFinish f s
  | .setactYield f => Sys2Proof.Machine.execSetactYield f s
  | .setactRetry f => Sys2Proof.Machine.execSetactRetry f s
  | .serviceDrain f => Sys2Proof.Machine.execServiceDrain f s
  | .serviceStop f => Sys2Proof.Machine.execServiceStop f s
  | .serviceResume f => Sys2Proof.Machine.execServiceResume f s
  | .serviceRestart f straps sensors => Sys2Proof.Machine.execServiceRestart f straps sensors s
  | .probe f => Sys2Proof.Machine.execProbe f s
  | .presenceTimerExpiry station => Sys2Proof.Machine.execPresenceTimerExpiry station s
  | .silenceTimerExpiry => Sys2Proof.Machine.execSilenceTimerExpiry s
  | .cadenceTimerExpiry => Sys2Proof.Machine.execCadenceTimerExpiry s
  | .joinTimerExpiry => Sys2Proof.Machine.execJoinTimerExpiry s
  | .waitingNoticeQueued => Sys2Proof.Machine.execWaitingNoticeQueued s
  | .doneQueued => Sys2Proof.Machine.execDoneQueued s
  | .dueNoticeQueued => Sys2Proof.Machine.execDueNoticeQueued s
  | .powerOnReset straps sensors => Sys2Proof.Machine.execPowerOnReset straps sensors s
  | .setactRefusedAsMalformed f => Sys2Proof.Machine.execSetactRefusedAsMalformed f s
  | .serviceRefusedAsMalformed f => Sys2Proof.Machine.execServiceRefusedAsMalformed f s

end Sys2Proof.Machine
end

