-- ==== Sys2Proof/Safety.lean ====
section
/-!
DEFINITION. What counts as a sound state and a sound command: the manual's italic laws and the limits its rules state, as
predicates on the state, the frame of a command (which blocks it leaves alone), and when a notice reaches its block.
-/

namespace Sys2Proof.Machine

/-! ### Frames -/

/-- The parts of the state: the twelve blocks of 0.3, and the queue of commands. -/
inductive Block where
  | ri
  | gc
  | jt
  | cu
  | co
  | hr
  | rf
  | pw
  | sc
  | dc
  | lc
  | bs
  | queue
  deriving DecidableEq, Repr

/-- The parts of the state not listed are the same in both states. -/
def State.sameBut (l : List Block) (s t : State) : Prop :=
  (Block.ri ∉ l → t.ri = s.ri) ∧ (Block.gc ∉ l → t.gc = s.gc) ∧ (Block.jt ∉ l → t.jt = s.jt)
    ∧ (Block.cu ∉ l → t.cu = s.cu) ∧ (Block.co ∉ l → t.co = s.co) ∧ (Block.hr ∉ l → t.hr = s.hr)
    ∧ (Block.rf ∉ l → t.rf = s.rf) ∧ (Block.pw ∉ l → t.pw = s.pw) ∧ (Block.sc ∉ l → t.sc = s.sc)
    ∧ (Block.dc ∉ l → t.dc = s.dc) ∧ (Block.lc ∉ l → t.lc = s.lc) ∧ (Block.bs ∉ l → t.bs = s.bs)
    ∧ (Block.queue ∉ l → t.pending = s.pending)

/-- The records of the sets not listed are the same in both states. -/
def State.setsBut (l : List SetId) (s t : State) : Prop := ∀ i, i ∉ l → t.findSet i = s.findSet i

/-- A STATE is wanted when its content has changed, and the link is otherwise as it was (R152). -/
def State.linkTold (s t : State) : Prop := t.lc = if s.stateContent = t.stateContent then s.lc else s.wantState.lc

/-- The set has a record, and its page `p` has status `x`. -/
def State.pageIs (s : State) (id : SetId) (p : Nat) (x : PageStatus) : Prop :=
  ∃ r, s.findSet id = some r ∧ r.status p = x

/-- The set has a record in state `x`. -/
def State.setIs (s : State) (id : SetId) (x : SetState) : Prop := ∃ r, s.findSet id = some r ∧ r.state = x

/-- The record of a set is SURRENDERING, or it has left the table (R93, R100). -/
def State.givenUp (s : State) (id : SetId) : Prop := ∀ r, s.findSet id = some r → r.state = .surrendering

/-! ### Reads (R1, R2, R11) -/

/-- An approach entry that holds nothing. -/
def Entry.bare (n : Nat) (a : Action) : Entry := { carrier := n, action := a, target := none }

/-- The read window `w` is open, and the next sample of CARRIER at 0 closes it. -/
abbrev State.closing (s : State) (w : Window) : Prop :=
  s.ri.carrier = true ∧ s.ri.lastSample.map (·.1) = some false ∧ s.ri.window = some w

/-- R29: at most 24 set records, at most one for each set; the model keeps them in ascending order (log 33). -/
abbrev State.setTableSound (s : State) : Prop :=
  s.co.sets.length ≤ 24 ∧ s.co.sets.Pairwise (fun a b => a.id.before b.id = true)

/-- A LAP changes nothing: no set is COLLECTING (R106). -/
abbrev State.lapless (s : State) : Prop := s.setTableSound ∧ ∀ r ∈ s.co.sets, r.state ≠ .collecting

/-- That sample brings a MARKED read of carrier `n` into an approach queue with room; carrier 0 where the LAP it brings changes
nothing. -/
abbrev State.marks (s : State) (n : Nat) (m : Mark) : Prop :=
  s.gc.queue.length < 3 ∧ (1 ≤ n ∨ s.lapless) ∧ n < 240 ∧ s.ri.carrier = true ∧ s.ri.lastSample.map (·.1) = some false
    ∧ s.ri.window.bind (·.number) = some n ∧ s.ri.window.map Window.content = some (.marked m)

/-! ### When a notice reaches its block (R149, R150) -/

/-- A valid frame from another node is heard and accepted. What the heard notice does in a fault that clears itself once it has
been handed on (R167) is State.afterHeard. -/
abbrev State.hears (s : State) (k : NoticeKind) (f : Frame) : Prop :=
  s.bs.state ≠ .dormant ∧ f.origin.toNat ≠ s.station ∧ s.ownAttempt k.code f = false ∧ acceptable k f = true

/-- The removal of the last set record brings the rejoin at once: a notice was heard before in this fault (R167). -/
abbrev State.rejoins (s t : State) : Prop := s.bs.state.selfClearing = true ∧ s.bs.heard = true ∧ t.co.sets = []

/-- This bay hears its own accepted notice. -/
abbrev State.hearsEcho (s : State) (k : NoticeKind) (f : Frame) : Prop :=
  s.bs.state ≠ .dormant ∧ f.origin.toNat = s.station ∧ s.ownAttempt k.code f = true ∧ acceptable k f = true

/-! ### Limits of the queues and tables -/

/-- R11: the approach queue holds at most 3 entries. -/
def State.approachBounded (s : State) : Prop := s.gc.queue.length ≤ 3

/-- R151: the urgent queue holds at most 4 notices, the routine queue at most 12. -/
def State.transmitBounded (s : State) : Prop := s.lc.urgent.length ≤ 4 ∧ s.lc.routine.length ≤ 12

/-- R82, R88, R94: a notice waits in CU only while the urgent queue is full. -/
def State.noNeedlessWait (s : State) : Prop := s.cu.waiting = [] ∨ 4 ≤ s.lc.urgent.length

/-- R32, R54, R133, R153: the bins, rack pockets and delivery pockets are as many as the straps give, and the peer table holds the
stations 1..8. -/
def State.listsFitted (s : State) : Prop :=
  s.co.bins.length = s.binsFitted ∧ s.hr.pockets.length = s.rackFitted ∧ s.dc.pockets.length = s.pocketsFitted
    ∧ s.lc.peers.length = 8

/-- R18, R8: the reject tray count with the reject commitments stays within 0..50. -/
def State.trayBounded (s : State) : Prop := s.gc.tray + s.commitments .reject ≤ 50

/-- R101 Notes: every fill commitment has a sheet counted on the return feeder. -/
def State.fillsCovered (s : State) : Prop := s.commitments .fill ≤ s.rf.count

/-- R101: the sheets a rack request in flight carries to the return feeder. -/
def Rack.feederSheets (h : Rack) : Nat := if h.feederInFlight then 1 else 0

/-- R101: the sheets the carriage's request carries to the return feeder, a stuck UNLOAD's included (R99). -/
def CarriageState.feederSheets : CarriageState → Nat
  | .busy (.unload _ _ m) _ => m
  | .faulted (.unload _ _ m) _ => m
  | .busy (.transfer _ _) _ | .faulted (.transfer _ _) _ | .idle => 0

/-- R101: the on-way count is what the requests in flight carry, and with the feeder count stays within 64. -/
def State.feederBalanced (s : State) : Prop :=
  s.rf.onWay = s.hr.feederSheets + s.sc.carriage.feederSheets ∧ s.rf.count + s.rf.onWay ≤ 64

/-- R20: at most 32 job records, at most one for each job number. -/
def State.jobTableSound (s : State) : Prop :=
  s.jt.jobs.length ≤ 32 ∧ s.jt.jobs.Pairwise (fun a b => a.job ≠ b.job)

/-- R20, R21: the ranges of a stored reprint policy. -/
abbrev Policy.inRange (p : Policy) : Prop :=
  1 ≤ p.delay ∧ p.delay ≤ 15 ∧ 1 ≤ p.interval ∧ p.interval ≤ 15 ∧ 1 ≤ p.limit ∧ p.limit ≤ 7

/-- R105: a set's watch never exceeds 15, its countdown stays within 0..15, and its attempts never exceed its policy's limit. -/
def SetRecord.watchSound (r : SetRecord) : Prop :=
  r.policy.inRange ∧ r.watch ≤ 15 ∧ r.countdown ≤ 15 ∧ r.attempts ≤ r.policy.limit

/-- R20, R105: every stored policy is in range, and every record's watch fields are. -/
def State.watchSound (s : State) : Prop :=
  (∀ j ∈ s.jt.jobs, j.policy.inRange) ∧ (∀ r ∈ s.co.sets, r.watchSound)

/-- R71: a foreign entry names a set and a station in range, another station than this bay's, which the peer table marks
present, and a set of which this bay holds no record but a SURRENDERING one. -/
def State.foreignEntrySound (s : State) (e : ForeignEntry) : Prop :=
  (1 ≤ e.id.job ∧ e.id.job ≤ 255) ∧ (1 ≤ e.id.num ∧ e.id.num ≤ 1023) ∧ (1 ≤ e.owner ∧ e.owner ≤ 8)
    ∧ e.owner ≠ s.station ∧ (s.peer e.owner).present = true
    ∧ ∀ r ∈ s.co.sets, r.id = e.id → r.state = .surrendering

/-- R71: at most 128 foreign entries, each sound, never two for one set. -/
def State.foreignSound (s : State) : Prop :=
  s.cu.foreign.length ≤ 128 ∧ s.cu.foreign.Pairwise (fun a b => a.id ≠ b.id)
    ∧ ∀ e ∈ s.cu.foreign, s.foreignEntrySound e

/-- R72: the late claims, with this bay's CLAIMs that could still be heard late, are never more than 4. A CLAIM stands in the
urgent queue and not in the routine queue (R151). -/
def State.lateSound (s : State) : Prop :=
  s.cu.late.length + (s.lc.urgent.filter (fun e => e.notice.kind == .claim)).length ≤ 4
    ∧ ∀ e ∈ s.lc.routine, e.notice.kind ≠ .claim

/-- R73, R96, R161, R164, R167: the set records each bay state can hold: none in DORMANT and JOINING, and in SERVICE and FAULT
none that is CLAIMING, COLLECTING or FINISHING. -/
def State.setsSuitBay (s : State) : Prop :=
  match s.bs.state with
  | .dormant | .joining => s.co.sets = []
  | .service | .fault _ => ∀ r ∈ s.co.sets, r.state ≠ .claiming ∧ r.state ≠ .collecting ∧ r.state ≠ .finishing
  | .active | .draining => True

/-- R129, R118: a jaw being loaded is LOADING, and the DONE list with the jaws in use never exceeds 8. -/
def State.doneListSound (s : State) : Prop :=
  s.sc.doneList.length + s.jawsInUse ≤ 8
    ∧ ∀ r j, s.sc.carriage = .busy r (some j) → ∃ id, s.jaw j = .loading id

/-- R127: the staple count is UNKNOWN or a whole number from 0 to 5000. -/
def State.staplesSound (s : State) : Prop := ∀ n, s.sc.staples = some n → n ≤ 5000

/-- The counters of range 0..65535 (R7, R10, R12, R13, R22, R53, R91, R92, R102, R115, R132, R159). -/
def State.wideCounters (s : State) : List Nat :=
  [s.ri.unreadable, s.ri.readGap, s.gc.lapsed, s.gc.unmatched, s.gc.late, s.jt.tableFull,
    s.cu.claimLost, s.cu.lateClaims, s.cu.foreignRefused, s.cu.conflicts,
    s.co.duplicate, s.co.mismatch, s.co.rackFull, s.co.refused, s.co.surrenders,
    s.rf.fillMissed, s.pw.reprintsSent, s.pw.deferred, s.pw.strandings, s.sc.misfires, s.sc.headJams,
    s.lc.malformed, s.lc.dropped, s.lc.spoiled, s.lc.presenceLost]

/-- The counters of range 0..255 (R67, R132, R159, R163). -/
def State.byteCounters (s : State) : List Nat :=
  [s.hr.faults, s.sc.jawFaults, s.lc.reportDropped, s.bs.refused]

/-- R174: every counter stays at or below its top value. -/
def State.countersSound (s : State) : Prop :=
  (∀ n ∈ s.wideCounters, n ≤ 65535) ∧ (∀ n ∈ s.byteCounters, n ≤ 255)

/-! ### Delivery pockets and lamps -/

/-- R133, R134, R145: a pocket's lamp shows its flags and binding; it is BLOCKED only when FULL; and one that is bound or EMPTY
has a last sample. -/
def Pocket.sound (p : Pocket) : Prop :=
  p.lamp = p.lampOf ∧ (p.blocked = true → p.full = true)
    ∧ (p.binding.isSome = true ∨ p.empty = true → p.last.isSome = true)

/-- R135: every pocket is sound, and at most one is bound to a job. -/
def State.pocketsSound (s : State) : Prop :=
  (∀ p ∈ s.dc.pockets, p.sound)
    ∧ s.dc.pockets.Pairwise (fun a b => a.binding.isSome = true → a.binding ≠ b.binding)

/-- R139, R136: what pocket `p` owes to the set table: the costs of the records that name it and are not SURRENDERING, and the
number of records that name it. -/
def State.loadOf (s : State) (p : Nat) : Nat :=
  ((s.co.sets.filter (fun r => r.pocket == p)).map SetRecord.load).sum

def State.refsOf (s : State) (p : Nat) : Nat := (s.co.sets.filter (fun r => r.pocket == p)).length

/-- R133, R136, R139: the committed load and the references of every pocket are those of the set table. -/
def State.loadsBalanced (s : State) : Prop :=
  ∀ p x, nth1 s.dc.pockets p = some x → x.committed = s.loadOf p ∧ x.refs = s.refsOf p

/-! ### Bins, carriage requests and jaws against the set table -/

/-- The set a jaw holds. -/
def JawState.held : JawState → Option SetId
  | .holding id _ => some id
  | .free | .loading _ | .occupied | .outOfService _ => none

/-- The sets in the jaws. -/
def State.setsInJaws (s : State) : List SetId := [s.sc.jawA, s.sc.jawB].filterMap JawState.held

/-- The carriage's requests: queued, in flight and stuck. -/
def State.carriageRequests (s : State) : List CarriageRequest := s.carriageInFlight.toList ++ s.sc.carriageQueue

/-- R117, R118: a TRANSFER moves a COMPLETE set, an UNLOAD a SURRENDERING one, each out of the bin of the set's record. -/
def State.requestSound (s : State) (q : CarriageRequest) : Prop :=
  ∃ r ∈ s.co.sets, r.id = q.id ∧ r.bin = some q.bin ∧ r.state = if q.isUnload then .surrendering else .complete

/-- A record is in a jaw (R29). -/
abbrev SetRecord.inAJaw (r : SetRecord) : Prop := r.state = .inJaw ∨ r.state = .delivering

/-- R29, R32, R34, R35, R119: the bins, the carriage's requests and the jaws agree with the set table. -/
structure State.placesSound (s : State) : Prop where
  /-- R32, R35: a bin a record names is ASSIGNED to it, or was JAMMED since. -/
  binOfRecord : ∀ r ∈ s.co.sets, ∀ b ∈ r.bin, s.binState b = some .assigned ∨ s.binState b = some .jammed
  /-- R29: a bin is held by one record. -/
  oneHolder : s.co.sets.Pairwise (fun q r => q.bin.isSome = true → q.bin ≠ r.bin)
  /-- R32: an ASSIGNED bin is held by a record. -/
  holder : ∀ b ∈ numbers s.co.bins.length, s.binState b = some .assigned → ∃ r ∈ s.co.sets, r.bin = some b
  /-- R29: CLAIMING to COMPLETE hold a bin, IN_JAW and DELIVERING none. -/
  binOfState : ∀ r ∈ s.co.sets, r.state = .surrendering ∨ (r.bin.isSome = true ↔ ¬r.inAJaw)
  requests : ∀ q ∈ s.carriageRequests, s.requestSound q
  oneRequest : (s.carriageRequests.map CarriageRequest.id).Nodup
  /-- R119, R120: the jaw a TRANSFER loads is LOADING its set. -/
  loading : ∀ j ∈ [JawName.a, JawName.b], ∀ q ∈ s.carriageInFlight,
    s.sc.carriage = .busy q (some j) → s.jaw j = .loading q.id
  /-- R29, R120: the records in a jaw are those of the sets the jaws hold, each in one jaw. -/
  jawOfRecord : ∀ r ∈ s.co.sets, r.inAJaw → r.id ∈ s.setsInJaws
  recordOfJaw : ∀ i ∈ s.setsInJaws, ∃ r ∈ s.co.sets, r.id = i ∧ r.inAJaw
  oneJaw : s.setsInJaws.Nodup

/-- R29: the records in a state other than SURRENDERING. -/
def State.standingRecords (s : State) : List SetRecord := s.co.sets.filter (fun r => r.state != .surrendering)

/-! ### STOP and faults (R92 to R96) -/

/-- R94: a YIELD of a set has become due and its frame has not been heard: it is queued, or waits in CU. -/
def State.yieldDue (s : State) (i : SetId) (y : YieldReason) : Prop :=
  (∃ e ∈ s.lc.urgent, e.notice = .yield i y) ∨ .yield i y ∈ s.cu.waiting

/-- R118, R119: no TRANSFER can start as things stand: the carriage is not IDLE, or no jaw is FREE, or the DONE list has no room
for one more set, or the head of the carriage queue is not a TRANSFER. -/
def State.transfersWait (s : State) : Prop :=
  s.sc.carriage ≠ .idle ∨ (s.sc.jawA ≠ .free ∧ s.sc.jawB ≠ .free) ∨ 8 ≤ s.sc.doneList.length + s.jawsInUse
    ∨ ∀ q ∈ s.sc.carriageQueue.head?, q.isUnload = true

/-- R96: a record that STOP or a fault leaves behind. -/
def State.outlasts (s : State) (r : SetRecord) : Prop :=
  r.state = .surrendering ∨ r.inAJaw ∨ r.state = .complete ∧ s.transferInFlight r.id = true

/-- R81, R92, R93: the set of record `r` is given up, with a YIELD of reason `y` due if one is given and the record was not
CLAIMING, and with no TRANSFER left in the carriage queue if it was COMPLETE. -/
def State.surrenders (t : State) (y : Option YieldReason) (r : SetRecord) : Prop :=
  t.givenUp r.id ∧ (r.state ≠ .claiming → ∀ x ∈ y, t.yieldDue r.id x)
    ∧ (r.state = .complete → ∀ q ∈ t.sc.carriageQueue, q.id = r.id → q.isUnload = true)

/-- R96: what becomes of a record of `s` that is COMPLETE: with its transfer in flight it stays, and with its transfer queued it is
surrendered. -/
def State.completeEnds (s t : State) (y : Option YieldReason) (r : SetRecord) : Prop :=
  (s.transferInFlight r.id = true → t.setIs r.id .complete ∧ t.transferInFlight r.id = true)
    ∧ (s.transferInFlight r.id = false → s.transfersWait → t.surrenders y r)

/-- R81: a claim lost or given up sends no YIELD. -/
def State.claimsYieldNothing (s t : State) (y : YieldReason) : Prop :=
  ∀ r ∈ s.co.sets, r.state = .claiming → ¬s.yieldDue r.id y → ¬t.yieldDue r.id y

/-- R96: the table after STOP or an entry to FAULT, record by record. -/
def State.surrendersAll (s t : State) (y : Option YieldReason) : Prop :=
  (∀ r ∈ t.co.sets, t.outlasts r)
    ∧ (∀ r ∈ s.co.sets, r.state = .claiming ∨ r.state = .collecting ∨ r.state = .finishing → t.surrenders y r)
    ∧ (∀ r ∈ s.co.sets, r.state = .complete → s.completeEnds t y r)
    ∧ (∀ x ∈ y, s.claimsYieldNothing t x)

/-! ### A LAP (R106 to R112) -/

/-- R106: the watch after step 2. -/
def SetRecord.lapWatch (r : SetRecord) : Nat := if r.watch < 15 then r.watch + 1 else r.watch

/-- R109: a REPRINT is due for the record at the LAP that is now taken. -/
abbrev SetRecord.dueAtLap (r : SetRecord) : Prop :=
  r.state = .collecting ∧ r.skipPending = false ∧ r.attempts < r.policy.maximum ∧ r.policy.delay ≤ r.lapWatch
    ∧ r.countdown ≤ 1 ∧ .absent ∈ r.map

/-- R110: the first pass offers a REPRINT for the record. -/
abbrev SetRecord.offeredFirst (r : SetRecord) : Prop :=
  r.state = .collecting ∧ (r.waiting = .retry ∧ .absent ∈ r.map ∨ r.waiting = .policy ∧ r.dueAtLap)

/-- R110: the second pass offers a REPRINT for the record. -/
abbrev SetRecord.offeredSecond (r : SetRecord) : Prop := r.waiting = .none ∧ r.dueAtLap

/-- R110: the records a LAP offers REPRINTs for, in the order of its two passes. -/
def State.lapOffers (s : State) : List SetRecord :=
  s.co.sets.filter (fun r => r.offeredFirst) ++ s.co.sets.filter (fun r => r.offeredSecond)

/-- R110: those of them whose REPRINT finds room in the routine queue, and those it defers. -/
def State.lapQueued (s : State) : List SetRecord := s.lapOffers.take (12 - s.lc.routine.length)

def State.lapDeferred (s : State) : List SetRecord := s.lapOffers.drop (12 - s.lc.routine.length)

/-- R112: the LAP strands the set of the record, for which it offers no REPRINT. -/
abbrev SetRecord.strandsAtLap (r : SetRecord) : Prop :=
  r.state = .collecting ∧ r.skipPending = false ∧ r.stranded = false ∧ r.lapWatch = 15
    ∧ r.attempts = r.policy.maximum ∧ r.countdown ≤ 1 ∧ .absent ∈ r.map

def State.lapStranded (s : State) : List SetRecord :=
  s.co.sets.filter (fun r => r ∉ s.lapOffers ∧ r.strandsAtLap)

/-- R106: a COLLECTING record after the steps of the LAP that come before the offers. -/
def SetRecord.stepped (r : SetRecord) : SetRecord :=
  if r.skipPending then { r with skipPending := false }
  else { r with watch := r.lapWatch, countdown := r.countdown - 1 }

/-- R106, R110, R112, R113: the record after the LAP. -/
def State.afterLap (s : State) (r : SetRecord) : SetRecord :=
  if r.state ≠ .collecting then r
  else if r ∈ s.lapQueued then
    { r.stepped with
      waiting := .none, countdown := r.policy.interval
      attempts := if r.waiting = .retry then r.attempts else r.attempts + 1 }
  else if r ∈ s.lapDeferred then { r.stepped with waiting := if r.waiting = .retry then .retry else .policy }
  else { r.stepped with waiting := .none, stranded := if r ∈ s.lapStranded then true else r.stranded }

/-- R111: the REPRINT of a record: the first eight ABSENT pages in the set's order. -/
def SetRecord.reprintNotice (r : SetRecord) : Notice :=
  .reprint r.id ((r.wanted.filter (fun p => r.status p = .absent)).take 8)

/-! ### The rack against the page maps (R30, R54 to R62) -/

/-- The approach entries and the gate operation in flight. -/
def State.gateEntries (s : State) : List Entry :=
  s.gc.queue ++ (match s.gc.gate with
    | .busy e => [e]
    | .idle | .faulted => [])

/-- The rack pocket an entry's diversion is for. -/
def Entry.rackPocket (e : Entry) : Option Nat :=
  match e.action with
  | .rack k => some k
  | .pass | .bin _ | .reject | .fill => none

/-- The page an entry's diversion is for. -/
def Entry.diverts (e : Entry) : Option PageRef :=
  match e.action with
  | .bin _ | .rack _ => e.target
  | .pass | .reject | .fill => none

/-- Page `p` of set `i` has a status. -/
def State.pageHas (s : State) (i : SetId) (p : Nat) (x : PageStatus) : Prop :=
  ∃ r ∈ s.co.sets, r.id = i ∧ r.status p = x

/-- R30, R40, R41: the page of a BIN or RACK entry is INBOUND in the record the entry was made for. -/
def State.entrySound (s : State) (e : Entry) : Prop :=
  match e.action with
  | .bin _ => ∃ t ∈ e.target, ∃ r ∈ s.recordOf t, r.status t.page = .inboundBin
  | .rack k => ∃ t ∈ e.target, ∃ r ∈ s.recordOf t, r.status t.page = .inboundRack k
  | .pass | .reject | .fill => True

/-- R54 Notes: the pocket of a page in the rack is RESERVED for it or HOLDING it. -/
def State.pageSound (s : State) (i : SetId) (p : Nat) : PageStatus → Prop
  | .inboundRack k => nth1 s.hr.pockets k = some (.reserved i p)
  | .held k | .releasing k => nth1 s.hr.pockets k = some (.holding i p)
  | .absent | .inboundBin | .placed => True

/-- R54 Notes: the page of a RESERVED pocket is INBOUND_RACK to it, and that of a HOLDING one HELD in it or RELEASING. -/
def State.pocketSound (s : State) (k : Nat) : PocketState → Prop
  | .reserved i p => s.pageHas i p (.inboundRack k)
  | .holding i p => s.pageHas i p (.held k) ∨ s.pageHas i p (.releasing k)
  | .free | .occupied => True

/-- R62, R64: the releases queued and in flight. -/
def Rack.allReleases (h : Rack) : List Release :=
  (match h.rack with
    | .busy (.release r) => [r]
    | .busy (.store _) | .idle | .outOfService => []) ++ h.releases

/-- R61: the sheet of a STORE in flight. -/
def Rack.storing (h : Rack) : List InletSheet :=
  match h.rack with
  | .busy (.store e) => [e]
  | .busy (.release _) | .idle | .outOfService => []

/-- R54 to R62: while the rack is in service, the approach entries, the inlet and the releases agree with the pockets. -/
structure State.rackServed (s : State) : Prop where
  entries : ∀ e ∈ s.gateEntries, s.entrySound e
  oneEntry : (s.gateEntries.filterMap Entry.diverts).Nodup
  /-- R58: a place is reserved for each RACK diversion not yet completed, and the inlet's two places suffice. -/
  places : s.hr.inletReserved = (s.gateEntries.filterMap Entry.rackPocket).length
    ∧ s.hr.inletReserved + s.hr.inlet.length ≤ 2
  inlet : ∀ x ∈ s.hr.inlet, nth1 s.hr.pockets x.pocket = some (.reserved x.id x.page)
  oneSheet : (s.gateEntries.filterMap Entry.rackPocket ++ s.hr.inlet.map InletSheet.pocket).Nodup
  /-- R60, R61: a STORE in flight is of the oldest sheet of the inlet. -/
  store : s.hr.storing = s.hr.inlet.take s.hr.storing.length
  releases : ∀ x ∈ s.hr.allReleases, nth1 s.hr.pockets x.pocket = some (.holding x.id x.page)
    ∧ s.pageHas x.id x.page (.releasing x.pocket)
  oneRelease : (s.hr.allReleases.map Release.pocket).Nodup
  /-- R49, R51: nothing of a COMPLETE, IN_JAW or DELIVERING set is on its way. -/
  ended : ∀ r ∈ s.co.sets, r.state = .complete ∨ r.inAJaw → r.anyPage PageStatus.moving = false

/-- R67: a rack out of service holds nothing for any page. -/
def Rack.emptied (h : Rack) : Prop :=
  h.inlet = [] ∧ h.inletReserved = 0 ∧ h.releases = [] ∧ ∀ x ∈ h.pockets, x = .free ∨ x = .occupied

/-- R30, R54 to R62, R67: the rack agrees with the page maps. -/
structure State.rackSound (s : State) : Prop where
  /-- R29, R30: one status for each page 1..n. -/
  wholeMap : ∀ r ∈ s.co.sets, r.map.length = r.pages
  /-- R30: the rack share of a set is at most half the rack pockets fitted, rounded down. -/
  share : ∀ r ∈ s.co.sets, r.share ≤ s.rackFitted / 2
  pages : ∀ r ∈ s.co.sets, ∀ p ∈ numbers r.map.length, s.pageSound r.id p (r.status p)
  pockets : ∀ k ∈ numbers s.hr.pockets.length, ∀ x ∈ nth1 s.hr.pockets k, s.pocketSound k x
  served : s.rackInService = true → s.rackServed
  outOfService : s.rackInService = false → s.hr.emptied

/-- R169: the bay lamp shows the bay state. -/
def State.bayLampSound (s : State) : Prop := s.bs.lamp = bayLamp s.bs.straps.good s.bs.state

/-! ### Safe runs -/

/-- The laws together. -/
structure State.sound (s : State) : Prop where
  approach : s.approachBounded
  transmit : s.transmitBounded
  waiting : s.noNeedlessWait
  fitted : s.listsFitted
  tray : s.trayBounded
  fills : s.fillsCovered
  feeder : s.feederBalanced
  sets : s.setTableSound
  jobs : s.jobTableSound
  watch : s.watchSound
  foreign : s.foreignSound
  late : s.lateSound
  bay : s.setsSuitBay
  doneList : s.doneListSound
  staples : s.staplesSound
  counters : s.countersSound
  pockets : s.pocketsSound
  loads : s.loadsBalanced
  places : s.placesSound
  rack : s.rackSound
  lamp : s.bayLampSound

/-- A run is safe when it stops at no fault and no refusal and ends in a sound state. -/
def safeRun (n : Nat) (s : State) : Prop := ∃ t, Sys2Proof.core.run n s = .next t ∧ State.sound t

end Sys2Proof.Machine
end

