-- ==== Sys2Proof/Certificates/Slice0/Obligations.lean ====
section
/-! DEFINITION. The statements about the CB-16: what each command of spec/opcode_table.json does, and the invariants that
every step keeps. A docstring cites the rules of spec/ a statement is read from. What a notice heard in FAULT(LINK_LOST) or
FAULT(EXPELLED) does beside its own effect is State.afterHeard (R167, log 14), which FramesOnTheLine states. -/

open Sys2Proof Sys2Proof.Machine

/-- 95, 0.5: one event at a time, whole. The queue and the idle step are the model's own (log 4). -/
def Obligations.StepRunsFrontCommand : Prop :=
  (∀ (c : Instr) (s : State), step { s with pending := c :: s.pending } = exec c s)
  ∧ (∀ s : State, s.pending = [] → step s = .next s)

/-- 95, 0.4: every event has its effect; none stops the part (log 23). The queue is the world's and not the part's (log
4). -/
def Obligations.ExecAnswersAndKeepsQueue : Prop :=
    ∀ (c : Instr) (s : State), ∃ t, exec c s = .next t ∧ t.pending = s.pending

/-- The base of the invariants below: the reset values of R19, R20, R53, R69, R91, R103, R131, R133, R158 and R161. The
strap pins of State.reset are the model's choice (log 1). -/
def Obligations.ResetIsSound : Prop :=
    State.reset.sound

/-- R11, R151: the queues' limits, kept by every step; and R82, R88, R94: a notice waits in CU only while the urgent queue is
full. -/
def Obligations.QueuesStayBounded : Prop :=
    ∀ s t : State, step s = .next t → (s.approachBounded → t.approachBounded) ∧ (s.transmitBounded →
      t.transmitBounded) ∧ (s.noNeedlessWait → t.noNeedlessWait)

/-- R8, R18, R101: the italic laws of the tray and the return feeder, kept by every step. -/
def Obligations.TrayAndFeederStayCovered : Prop :=
    ∀ s t : State, step s = .next t → (s.trayBounded → t.trayBounded) ∧ (s.fillsCovered → t.fillsCovered) ∧
      (s.feederBalanced → t.feederBalanced)

/-- R20, R29: the tables' limits and the uniqueness of their records, and R73, R96, R164, R167: the records each bay state can
hold, kept by every step. The order of the set table is log 33. -/
def Obligations.TablesStaySound : Prop :=
    ∀ s t : State, step s = .next t → (s.setTableSound → t.setTableSound) ∧ (s.jobTableSound → t.jobTableSound) ∧
      (s.setTableSound → s.setsSuitBay → t.setsSuitBay)

/-- R20, R21, R105: the ranges of the policies and of the watch fields, kept by every step. -/
def Obligations.WatchStaysSound : Prop :=
    ∀ s t : State, step s = .next t → s.watchSound → t.watchSound

/-- R71, R72: the laws and the limits of the foreign and the late claim list, kept by every step. The foreign list rests on laws
that other statements keep: the set table and the records of each bay state (TablesStaySound), the fitted lists and the
places of the sets (PlacesMatchRecords). -/
def Obligations.ForeignListStaysSound : Prop :=
  (∀ s t : State, step s = .next t → s.setTableSound → s.setsSuitBay → s.listsFitted → s.placesSound →
      s.foreignSound → t.foreignSound)
  ∧ (∀ s t : State, step s = .next t → s.lateSound → t.lateSound ∧ t.cu.late.length ≤ 4)

/-- R118, R129: the bound of the DONE list, kept by every step. -/
def Obligations.DoneListStaysSound : Prop :=
    ∀ s t : State, step s = .next t → s.doneListSound → t.doneListSound

/-- R174 and the counter rules, R127: the ranges of the counters and the staple count, kept by every step. -/
def Obligations.CountersStaySound : Prop :=
    ∀ s t : State, step s = .next t → (s.countersSound → t.countersSound) ∧ (s.staplesSound → t.staplesSound)

/-- R133 to R135, R145, R169: the pockets and the lamps, kept by every step. -/
def Obligations.PocketsAndLampsStaySound : Prop :=
    ∀ s t : State, step s = .next t → (s.pocketsSound → t.pocketsSound) ∧ (s.bayLampSound → t.bayLampSound)

/-- R133, R136, R138, R139: the committed load and the references, kept by every step from a table with one record for
each set. -/
def Obligations.LoadsStayBalanced : Prop :=
    ∀ s t : State, step s = .next t → s.setTableSound → s.loadsBalanced → t.loadsBalanced

/-- 10.10.1, R146: no bit of a frame is dropped, and no two commands share one. -/
def Obligations.FrameBitsReadBack : Prop :=
    ∀ (i : Instr) (x : Straps) (v : Sensors) (l : LineFrame), i.wf = true → frameOfCommand i = some l → (∀ f y w, i =
      .serviceRestart f y w → y = x ∧ w = v) → commandOfBits l.bits x v = some i

/-- 10.10.2: the layouts of the bodies, written by bodyOf and read by the rules of the notices. -/
def Obligations.BodiesReadBack : Prop :=
  (∀ (f : Frame) (i : SetId) (n : Nat), i.job ≤ 255 → i.num ≤ 1023 → n ≤ 63 → f.body = claimBody i n → f.setAt 0 = i
      ∧ f.low6 = n)
  ∧ (∀ (f : Frame) (l : List SetId), (∀ i ∈ l, i.job ≤ 255 ∧ i.num ≤ 1023) → f.body = heldBody l → heldSets f = l)
  ∧ (∀ (f : Frame) (i : SetId) (r : YieldReason), i.job ≤ 255 → i.num ≤ 1023 → f.body = yieldBody i r → f.setAt 0 = i ∧
      f.low6 / 8 = r.code)
  ∧ (∀ (f : Frame) (d : DoneNotice), d.id.job ≤ 255 → d.id.num ≤ 1023 → d.pages ≤ 63 → f.body = doneBody d → f.setAt 0
      = d.id ∧ f.low6 = d.pages ∧ f.byteAt 3 / 32 = d.outcome.code)
  ∧ (∀ (f : Frame) (c : StateContent), 1 ≤ c.bay → c.bay ≤ 9 → c.head ≤ 4 → c.freeBins ≤ 16 → c.stranded ≤ 16 → (∀ p ∈
      c.pockets, p.job ≤ 255) → f.body = stateBody c → stateFields f = some c)
  ∧ (∀ (f : Frame) (x b : Nat), x ≤ 255 → b ≤ 255 → f.body = helloBody x b → f.byteAt 0 = x ∧ f.byteAt 1 = b)
  ∧ (∀ (f : Frame) (x : Nat), x ≤ 255 → f.body = goneBody x → f.byteAt 0 = x)

/-- R1, R2: the agreed values after a sample, the window that opens at an agreed rise of CARRIER, and what the open window
records of the reports that reach it. That the SHEET value agreed at the same sample counts for the window is the model's
choice (log 7). -/
def Obligations.ReaderInputsTaken : Prop :=
  (∀ (s : State) (a b h : Bool),
        ¬(a ≠ s.ri.carrier ∧ s.ri.lastSample.map (·.1) = some a) →
        h = (if b ≠ s.ri.sheet ∧ s.ri.lastSample.map (·.2) = some b then b else s.ri.sheet) →
        exec (.readerSample a b) s = .next ({ s with ri := { s.ri with sheet := h, lastSample := some (a, b),
                                                                       window := s.ri.window.map (fun w => { w with sensed := w.sensed || h }) } }))
  ∧ (∀ (s : State) (b h : Bool),
        s.ri.carrier = false → s.ri.lastSample.map (·.1) = some true →
        h = (if b ≠ s.ri.sheet ∧ s.ri.lastSample.map (·.2) = some b then b else s.ri.sheet) →
        exec (.readerSample true b) s = .next ({ s with ri := { s.ri with carrier := true, sheet := h,
                                                                          lastSample := some (true, b),
                                                                          window := some { number := none,
                                                                                           first := none,
                                                                                           second := none,
                                                                                           sensed := h } } }))
  ∧ (∀ (s : State) (w : Window) (n : Byte),
        s.ri.window = some w →
        exec (.carrierNumberReport n) s = .next
          ({ s with ri := { s.ri with window := some { w with number := some n.toNat } } }))
  ∧ (∀ (s : State) (w : Window) (b : BitVec 40),
        s.ri.window = some w → w.first = none →
        exec (.markRead b) s = .next
          ({ s with ri := { s.ri with window := some { w with first := some (markOfBits b) } } }))
  ∧ (∀ (s : State) (w : Window) (b : BitVec 40),
        s.ri.window = some w → w.first ≠ none →
        exec (.markRead b) s = .next
          ({ s with ri := { s.ri with window := some { w with second := some (markOfBits b) } } }))
  ∧ (∀ (s : State) (b : BitVec 40) (n : Byte),
        s.ri.window = none →
        exec (.markRead b) s = .next s ∧ exec (.carrierNumberReport n) s = .next s)

/-- R29, R32, R34, R35, R117, R119, R120: the bins, the carriage and the jaws against the set table, kept by every step; and R32,
R54, R133, R153: the lists keep their fitted lengths. -/
def Obligations.PlacesMatchRecords : Prop :=
  (∀ s t : State, step s = .next t → s.setTableSound → s.placesSound → t.placesSound)
  ∧ (∀ s : State, s.setTableSound → s.placesSound → s.standingRecords.length ≤ s.co.bins.length + 2)
  ∧ (∀ s t : State, step s = .next t → s.listsFitted → t.listsFitted)

/-- R3 stated whole: the four tests of a valid strip, what a strip that fails one makes of its read, and the mark that the
fields of a valid one become. -/
def Obligations.MarkStripValidity : Prop :=
  ∀ (w : Window) (n : Nat) (m : Strip),
      w.number = some n → n < 240 → w.sensed = true → w.first = some (.strip m) → w.second = some (.strip m) →
      w.content = (if 1 ≤ m.job ∧ 1 ≤ m.num ∧ 1 ≤ m.page ∧ m.page ≤ m.pages ∧ m.check = (m.job + 3 * m.num + 5 *
        m.page + 7 * m.pages) % 64 then .marked { id := { job := m.job, num := m.num }, page := m.page,
                                                  pages := m.pages } else .unreadable true)

/-- R2, R8, R9, R11: the read of a closing window that is not MARKED, the admissions it tests, and what every read does to
a full queue (R13, R44, R57) and at carrier 0 (R6). Carrier 255 for a read with no number is the model's choice (log 8),
and that a FAULTED gate withholds the admissions its reading (log 9). -/
def Obligations.ReadClassifiedAtClosing : Prop :=
  (∀ (s : State) (w : Window) (n : Nat) (b : Bool),
        s.closing w → w.number = some n → 1 ≤ n ∨ s.lapless → n < 240 → w.sensed = false → s.gc.queue.length < 3 →
        ∃ t, exec (.readerSample false b) s = .next t
          ∧ t.gc = { s.gc with queue := s.gc.queue ++ [Entry.bare n (if s.fillAdmission then .fill else .pass)] }
          ∧ t.ri.unreadable = s.ri.unreadable
          ∧ s.sameBut [.ri, .gc] t)
  ∧ (∀ (s : State) (w : Window) (n : Nat) (b : Bool),
        s.closing w → w.number = some n → 1 ≤ n ∨ s.lapless → n < 240 → w.sensed = true →
        (∀ m, w.first = some (.strip m) → w.second = some (.strip m) → m.valid = false) → s.gc.queue.length < 3 →
        ∃ t, exec (.readerSample false b) s = .next t
          ∧ t.gc = { s.gc with queue := s.gc.queue ++ [Entry.bare n (if s.rejectAdmission then .reject else .pass)] }
          ∧ t.ri.unreadable = count s.ri.unreadable
          ∧ s.sameBut [.ri, .gc] t)
  ∧ (∀ (s : State) (w : Window) (b : Bool),
        s.closing w → w.number = none ∨ 240 ≤ w.number.getD 0 → s.gc.queue.length < 3 →
        ∃ t, exec (.readerSample false b) s = .next t
          ∧ t.gc = { s.gc with queue := s.gc.queue ++ [Entry.bare (w.number.getD 255) .pass] }
          ∧ t.ri.unreadable = count s.ri.unreadable
          ∧ s.sameBut [.ri, .gc] t)
  ∧ (∀ (s : State) (w : Window) (n : Nat) (b : Bool) (e : Entry) (q : List Entry),
        s.closing w → w.number = some n → 1 ≤ n ∨ s.lapless → n < 240 → w.sensed = false → s.gc.queue = e :: q →
        3 ≤ s.gc.queue.length → q.length < 3 → e.action = .pass → e.target = none →
        ∃ t, exec (.readerSample false b) s = .next t
          ∧ t.gc = { s.gc with queue := q ++ [Entry.bare n (if s.fillAdmission then .fill else .pass)],
                               lapsed := count s.gc.lapsed }
          ∧ s.sameBut [.ri, .gc] t)
  ∧ (∀ (s : State) (w : Window) (b : Bool) (e : Entry) (q : List Entry),
        s.closing w → s.gc.queue = e :: q → 3 ≤ s.gc.queue.length → q.length < 3 →
        e.action = .pass ∨ e.action = .reject ∨ e.action = .fill → e.target = none →
        exec (.readerSample false b) s
          = exec (.readerSample false b) { s with gc := { s.gc with queue := q, lapsed := count s.gc.lapsed } })
  ∧ (∀ (s : State) (w : Window) (b : Bool) (e : Entry) (q : List Entry) (g : PageRef) (r : SetRecord) (c : Nat),
        s.closing w → w.number ≠ some 0 → s.gc.queue = e :: q → 3 ≤ s.gc.queue.length → q.length < 3 →
        e.action = .bin c → e.target = some g → s.recordOf g = some r → r.state = .claiming ∨ r.state = .collecting →
        r.status g.page = .inboundBin → s.setTableSound →
        ∃ u, (∃ v, u.findSet g.id = some v ∧ v.status g.page = .absent ∧ v.bin = r.bin)
          ∧ s.setsBut [g.id] u
          ∧ u.gc = { s.gc with queue := q, lapsed := count s.gc.lapsed }
          ∧ s.sameBut [.gc, .co, .hr, .rf, .sc, .dc] u
          ∧ exec (.readerSample false b) s = exec (.readerSample false b) u)
  ∧ (∀ (s : State) (w : Window) (b : Bool) (e : Entry) (q : List Entry) (g : PageRef) (r : SetRecord) (k : Nat),
        s.closing w → w.number ≠ some 0 → s.gc.queue = e :: q → 3 ≤ s.gc.queue.length → q.length < 3 →
        e.action = .rack k → e.target = some g → s.recordOf g = some r → r.state = .claiming ∨ r.state = .collecting →
        r.status g.page = .inboundRack k → s.setTableSound → nth1 s.hr.pockets k = some (.reserved g.id g.page) →
        ∃ u, (∃ v, u.findSet g.id = some v ∧ v.status g.page = .absent ∧ v.bin = r.bin)
          ∧ s.setsBut [g.id] u
          ∧ u.gc = { s.gc with queue := q, lapsed := count s.gc.lapsed }
          ∧ s.sameBut [.gc, .co, .hr, .rf, .sc, .dc] u
          ∧ nth1 u.hr.pockets k = some .free
          ∧ u.hr.inletReserved = s.hr.inletReserved - 1
          ∧ exec (.readerSample false b) s = exec (.readerSample false b) u)
  ∧ (∀ (s : State) (w : Window) (n : Nat) (b : Bool),
        s.closing w → w.number = some 0 → 1 ≤ n → n < 240 →
        ∃ t u q e, exec (.readerSample false b) s = .next t
          ∧ exec (.readerSample false b) { s.lap with ri := { s.ri with window := some { w with number := some n } } }
            = .next u
          ∧ u.gc.queue = q ++ [e]
          ∧ t = { u with ri := t.ri, gc := { u.gc with queue := q ++ [{ e with carrier := 0 }] } }
          ∧ t.ri.unreadable = u.ri.unreadable)
  ∧ (∀ (s : State),
        s.rejectAdmission = true ↔ s.bs.state ≠ .dormant
          ∧ s.bs.state ≠ .fault .gate
          ∧ s.gc.gate ≠ .faulted
          ∧ s.gc.tray + (s.gateEntries.filter (fun e => e.action = .reject)).length < 50)
  ∧ (∀ (s : State),
        s.fillAdmission = true ↔ s.bs.state ≠ .dormant
          ∧ s.bs.state ≠ .fault .gate
          ∧ s.gc.gate ≠ .faulted
          ∧ (s.gateEntries.filter (fun e => e.action = .fill)).length < s.rf.count)

/-- R4 and R5 stated whole: the carrier number, the gap check and the loop size at every read, MARKED reads and carrier 0
included; the read handed to GC whatever the check says; their ranges; and what a reset and a RESTART leave. -/
def Obligations.CarrierNumberHandled : Prop :=
  (∀ (s : State) (w : Window) (n : Nat) (b : Bool),
        s.closing w → w.number = some n → n < 240 →
        ∃ t, exec (.readerSample false b) s = .next t
          ∧ t.ri.lastNumber = some n
          ∧ t.ri.window = none
          ∧ t.ri.carrier = false
          ∧ (∀ c l, s.ri.loopSize = some c → s.ri.lastNumber = some l → t.ri.readGap = if n = (l + 1) % c then
            s.ri.readGap else count s.ri.readGap)
          ∧ (s.ri.loopSize = none ∨ s.ri.lastNumber = none → t.ri.readGap = s.ri.readGap)
          ∧ (∀ l, s.ri.lastNumber = some l → t.ri.loopSize = if n = 0 ∧ 47 ≤ l ∧ l ≤ 239 then some (l + 1) else
            s.ri.loopSize)
          ∧ (s.ri.lastNumber = none → t.ri.loopSize = s.ri.loopSize)
          ∧ ∃ q e, t.gc.queue = q ++ [e] ∧ e.carrier = n)
  ∧ (∀ (s : State) (w : Window) (b : Bool),
        s.closing w → w.number = none ∨ 240 ≤ w.number.getD 0 →
        ∃ t, exec (.readerSample false b) s = .next t
          ∧ t.ri.lastNumber = none
          ∧ t.ri.readGap = s.ri.readGap
          ∧ t.ri.loopSize = s.ri.loopSize
          ∧ t.ri.window = none
          ∧ t.ri.carrier = false
          ∧ ∃ q e, t.gc.queue = q ++ [e] ∧ ∀ n ∈ w.number, e.carrier = n)
  ∧ (∀ (s : State) (w : Window) (b : Bool) (l c : Option Nat) (g : Nat),
        s.closing w →
        ∃ t u, exec (.readerSample false b) s = .next t
          ∧ exec (.readerSample false b) { s with ri := { s.ri with lastNumber := l, loopSize := c, readGap := g } }
            = .next u
          ∧ t.sameBut [.ri] u)
  ∧ (∀ s t : State,
        step s = .next t → (∀ l ∈ s.ri.lastNumber, l ≤ 239) → (∀ c ∈ s.ri.loopSize, 48 ≤ c ∧ c ≤ 240) →
        (∀ l ∈ t.ri.lastNumber, l ≤ 239) ∧ ∀ c ∈ t.ri.loopSize, 48 ≤ c ∧ c ≤ 240)
  ∧ (∀ (s : State) (x : Straps) (v : Sensors),
        ∃ t, exec (.powerOnReset x v) s = .next t
          ∧ t.ri.lastNumber = none
          ∧ t.ri.loopSize = none)
  ∧ (∀ (s : State) (f : Frame) (x : Straps) (v : Sensors),
        s.hears .service f → serviceStation f = s.station → s.bs.state = .service ∨ (∃ c, s.bs.state = .fault c) →
        ∃ t, exec (.serviceRestart f x v) s = .next t
          ∧ t.ri.lastNumber = none
          ∧ t.ri.loopSize = none)

/-- R33, R36, R73 to R76, R135, R139: the claim made at a read, and the routing of its first sheet (R40 to R42); the
conditions of a claim (R73, R75) and the pocket it names (R74, R135, R138, R140). No claim is made while the gate is
FAULTED: the model's reading (log 9). -/
def Obligations.ClaimMadeAtRead : Prop :=
  (∀ (s : State) (n : Nat) (m : Mark) (j : JobRecord) (p c : Nat) (b : Bool),
        s.marks n m → s.passesMarked = false → s.findJob m.id.job = some j → m.id.num ∉ j.doneMap →
        s.gc.gate ≠ .faulted → s.standing m.id = false → s.findSet m.id = none → j.state = .opened →
        s.mayClaim j = true → s.pocketFor j m.pages = some p → s.searchBin = some c →
        ∃ t, exec (.readerSample false b) s = .next t
          ∧ (∃ r, t.findSet m.id = some r ∧ r = { id := m.id, pages := m.pages, state := .claiming, bin := some c,
                                                  order := j.order, staple := j.staple,
                                                  policy := (if j.adopted then { j.policy with mode := .none } else j.policy),
                                                  map := r.map, pocket := p, deadline := true, watch := 0,
                                                  attempts := 0, countdown := 0, skipPending := true,
                                                  stranded := false, isPartial := false, waiting := .none,
                                                  record := s.co.made } ∧ r.map.length = m.pages ∧ ∀ q ∈ numbers
            m.pages, q ≠ m.page → r.status q = .absent)
          ∧ t.binState c = some .assigned
          ∧ t.co.searchPtr = c % s.co.bins.length + 1
          ∧ s.setsBut [m.id] t
          ∧ t.lc.urgent = s.lc.urgent ++ [TxEntry.fresh (.claim m.id m.pages)]
          ∧ (∀ x, nth1 s.dc.pockets p = some x → ∃ y, nth1 t.dc.pockets p = some y ∧ y.binding = some (x.binding.getD
            m.id.job) ∧ y.refs = x.refs + 1 ∧ y.committed = x.committed + wholeCost m.pages j.staple ∧ y.lamp =
            y.lampOf)
          ∧ s.sameBut [.ri, .gc, .co, .hr, .dc, .lc] t)
  ∧ (∀ (s : State) (n : Nat) (m : Mark) (j : JobRecord) (p c : Nat) (b : Bool),
        s.marks n m → s.passesMarked = false → s.findJob m.id.job = some j → m.id.num ∉ j.doneMap →
        s.gc.gate ≠ .faulted → s.standing m.id = false → s.findSet m.id = none → j.state = .opened →
        s.mayClaim j = true → s.pocketFor j m.pages = some p → s.searchBin = some c →
        m.page = (if j.order = .forward then 1 else m.pages) →
        ∃ t, exec (.readerSample false b) s = .next t
          ∧ t.pageIs m.id m.page .inboundBin
          ∧ t.gc = { s.gc with queue := s.gc.queue ++ [{ carrier := n, action := .bin c, target := some { id := m.id,
                                                                                                          page := m.page,
                                                                                                          record := s.co.made } }] }
          ∧ t.hr = s.hr)
  ∧ (∀ (s : State) (n : Nat) (m : Mark) (j : JobRecord) (p c : Nat) (b : Bool) (k : Nat),
        s.marks n m → s.passesMarked = false → s.findJob m.id.job = some j → m.id.num ∉ j.doneMap →
        s.gc.gate ≠ .faulted → s.standing m.id = false → s.findSet m.id = none → j.state = .opened →
        s.mayClaim j = true → s.pocketFor j m.pages = some p → s.searchBin = some c →
        m.page ≠ (if j.order = .forward then 1 else m.pages) → s.rackInService = true → s.lowestFree = some k →
        2 ≤ s.freeRackPockets → s.inletPlaceFree = true →
        ∃ t, exec (.readerSample false b) s = .next t
          ∧ t.pageIs m.id m.page (.inboundRack k)
          ∧ t.gc = { s.gc with queue := s.gc.queue ++ [{ carrier := n, action := .rack k, target := some { id := m.id,
                                                                                                           page := m.page,
                                                                                                           record := s.co.made } }] }
          ∧ t.hr = { s.hr with pockets := set1 s.hr.pockets k (.reserved m.id m.page),
                               inletReserved := s.hr.inletReserved + 1 })
  ∧ (∀ (s : State) (n : Nat) (m : Mark) (j : JobRecord) (p c : Nat) (b : Bool),
        s.marks n m → s.passesMarked = false → s.findJob m.id.job = some j → m.id.num ∉ j.doneMap →
        s.gc.gate ≠ .faulted → s.standing m.id = false → s.findSet m.id = none → j.state = .opened →
        s.mayClaim j = true → s.pocketFor j m.pages = some p → s.searchBin = some c →
        m.page ≠ (if j.order = .forward then 1 else m.pages) →
        s.rackInService = false ∨ s.freeRackPockets ≤ 1 ∨ s.inletPlaceFree = false →
        ∃ t, exec (.readerSample false b) s = .next t
          ∧ t.pageIs m.id m.page .absent
          ∧ t.gc = { s.gc with queue := s.gc.queue ++ [Entry.bare n .pass] }
          ∧ t.hr = s.hr
          ∧ t.co.rackFull = count s.co.rackFull)
  ∧ (∀ (s : State) (j : JobRecord),
        s.mayClaim j = true ↔ s.bs.state = .active
          ∧ s.co.sets.length < 24
          ∧ (∃ c, s.binState c = some .available)
          ∧ (j.staple = .none ∨ s.sc.faultedMark = false ∧ s.sc.emptyMark = false)
          ∧ ((∃ x ∈ s.dc.pockets, x.binding = some j.job) ∨ ∀ p ∈ s.lc.peers, ¬(p.present = true ∧ ∃ c, p.last = some
            c ∧ c.bay = BayState.active.code ∧ (∃ x ∈ c.pockets, x.job = j.job ∧ x.full = false) ∧ 1 ≤ c.freeBins ∧
            (j.staple = .none ∨ c.head ≠ HeadStatus.empty.code ∧ c.head ≠ HeadStatus.fault.code)))
          ∧ s.lc.urgent.length < 4
          ∧ s.cu.foreign.length < 128
          ∧ s.cu.late = [])
  ∧ (∀ (s : State) (j : JobRecord) (n p : Nat) (x : Pocket),
        nth1 s.dc.pockets p = some x → x.binding = some j.job →
        (∀ q y, q < p → nth1 s.dc.pockets q = some y → y.binding ≠ some j.job) →
        s.pocketFor j n = if x.full = false
          ∧ 10 * x.last.getD 0 + x.committed + (if (j.staple = .corner ∨ j.staple = .edge) ∧ 2 ≤ n ∧ n ≤ 50 then n + 3
            else n) ≤ 1800 then some p else none)
  ∧ (∀ (s : State) (j : JobRecord) (n p : Nat) (x : Pocket),
        (∀ y ∈ s.dc.pockets, y.binding ≠ some j.job) → nth1 s.dc.pockets p = some x → x.binding = none →
        x.empty = true → (∀ q y, q < p → nth1 s.dc.pockets q = some y → ¬(y.binding = none ∧ y.empty = true)) →
        s.pocketFor j n = some p)
  ∧ (∀ (s : State) (i : Nat),
        i < s.co.bins.length → s.binState ((s.co.searchPtr - 1 + i) % s.co.bins.length + 1) = some .available →
        (∀ k < i, s.binState ((s.co.searchPtr - 1 + k) % s.co.bins.length + 1) ≠ some .available) →
        s.searchBin = some ((s.co.searchPtr - 1 + i) % s.co.bins.length + 1))
  ∧ (∀ (s : State) (j : JobRecord) (n : Nat),
        (∀ y ∈ s.dc.pockets, y.binding ≠ some j.job) → (∀ y ∈ s.dc.pockets, ¬(y.binding = none ∧ y.empty = true)) →
        s.pocketFor j n = none)

/-- R10 cases 1, 2, 5, 6 and 7 without a claim, the sets standing (R70), and the sighting of R107. That R10's cases are
decided while the gate is FAULTED, with PASS for their action, is the model's reading of R10 and R17 (log 9); the sighting
where the bay state gives PASS is log 29. -/
def Obligations.MarkedReadCases : Prop :=
  (∀ (s : State) (n : Nat) (m : Mark) (b : Bool),
        s.marks n m → s.setTableSound →
        s.bs.state = .dormant ∨ s.bs.state = .joining ∨ s.bs.state = .service ∨ s.bs.state = .fault .gate →
        ∃ t, exec (.readerSample false b) s = .next t
          ∧ t.gc = { s.gc with queue := s.gc.queue ++ [Entry.bare n .pass] }
          ∧ t.findSet m.id = (s.findSet m.id).map (fun r => { r with watch := 0 })
          ∧ t.co = { s.co with sets := t.co.sets }
          ∧ s.setsBut [m.id] t
          ∧ s.sameBut [.ri, .gc, .co] t)
  ∧ (∀ (s : State) (n : Nat) (m : Mark) (b : Bool),
        s.marks n m → s.setTableSound → s.passesMarked = false → s.findJob m.id.job = none →
        ∃ t, exec (.readerSample false b) s = .next t
          ∧ t.gc = { s.gc with queue := s.gc.queue ++ [Entry.bare n .pass] }
          ∧ t.findSet m.id = (s.findSet m.id).map (fun r => { r with watch := 0 })
          ∧ t.co = { s.co with sets := t.co.sets }
          ∧ s.setsBut [m.id] t
          ∧ s.sameBut [.ri, .gc, .co] t)
  ∧ (∀ (s : State) (n : Nat) (m : Mark) (j : JobRecord) (b : Bool),
        s.marks n m → s.setTableSound → s.passesMarked = false → s.findJob m.id.job = some j → m.id.num ∈ j.doneMap →
        ∃ t, exec (.readerSample false b) s = .next t
          ∧ t.gc = { s.gc with queue := s.gc.queue ++ [Entry.bare n (if s.rejectAdmission then .reject else .pass)],
                               late := count s.gc.late }
          ∧ t.findSet m.id = (s.findSet m.id).map (fun r => { r with watch := 0 })
          ∧ t.co = { s.co with sets := t.co.sets }
          ∧ s.setsBut [m.id] t
          ∧ s.sameBut [.ri, .gc, .co] t)
  ∧ (∀ (s : State) (n : Nat) (m : Mark) (j : JobRecord) (b : Bool),
        s.marks n m → s.passesMarked = false → s.findJob m.id.job = some j → m.id.num ∉ j.doneMap →
        s.findSet m.id = none → s.standing m.id = true →
        ∃ t, exec (.readerSample false b) s = .next t
          ∧ t.gc = { s.gc with queue := s.gc.queue ++ [Entry.bare n .pass] }
          ∧ s.sameBut [.ri, .gc] t)
  ∧ (∀ (s : State) (n : Nat) (m : Mark) (j : JobRecord) (b : Bool),
        s.marks n m → s.passesMarked = false → s.findJob m.id.job = some j → m.id.num ∉ j.doneMap →
        s.findSet m.id = none → s.standing m.id = false → j.state ≠ .opened →
        ∃ t, exec (.readerSample false b) s = .next t
          ∧ t.gc = { s.gc with queue := s.gc.queue ++ [Entry.bare n (if s.rejectAdmission then .reject else .pass)],
                               late := count s.gc.late }
          ∧ s.sameBut [.ri, .gc] t)
  ∧ (∀ (s : State) (n : Nat) (m : Mark) (j : JobRecord) (b : Bool),
        s.marks n m → s.passesMarked = false → s.findJob m.id.job = some j → m.id.num ∉ j.doneMap →
        s.findSet m.id = none → s.standing m.id = false → j.state = .opened →
        s.gc.gate = .faulted ∨ s.mayClaim j = false ∨ s.pocketFor j m.pages = none ∨ s.searchBin = none →
        ∃ t, exec (.readerSample false b) s = .next t
          ∧ t.gc = { s.gc with queue := s.gc.queue ++ [Entry.bare n .pass] }
          ∧ s.sameBut [.ri, .gc] t)
  ∧ (∀ (s : State) (n : Nat) (m : Mark) (j : JobRecord) (b : Bool),
        s.marks n m → s.passesMarked = false → s.gc.gate = .faulted → s.findJob m.id.job = some j →
        m.id.num ∈ j.doneMap ∨ s.findSet m.id = none ∧ s.standing m.id = false ∧ j.state ≠ .opened → s.setTableSound →
        ∃ t, exec (.readerSample false b) s = .next t
          ∧ t.gc = { s.gc with queue := s.gc.queue ++ [Entry.bare n .pass], late := count s.gc.late }
          ∧ t.findSet m.id = (s.findSet m.id).map (fun r => { r with watch := 0 })
          ∧ t.co = { s.co with sets := t.co.sets }
          ∧ s.setsBut [m.id] t
          ∧ s.sameBut [.ri, .gc, .co] t)
  ∧ (∀ (s : State) (i : SetId),
        s.standing i = true ↔ (∃ e ∈ s.cu.foreign, e.id = i) ∨ (∃ e ∈ s.cu.late, e.id = i) ∨ ∃ r ∈ s.co.sets, r.id = i
          ∧ r.state ≠ .surrendering)
  ∧ (∀ (s : State),
        s.passesMarked = true ↔ s.bs.state = .dormant ∨ s.bs.state = .joining ∨ s.bs.state = .service ∨ s.bs.state =
          .fault .gate)

/-- R37 to R42: collation routing by the record's state, the tests in their order, and what a routed sheet reserves (R55);
the tests of R40 and R41, with the frontier of R31 and the share of R30. That a FAULTED gate takes no BIN and no RACK
entry is the model's reading of R17 (log 9). -/
def Obligations.OwnedSheetRouted : Prop :=
  (∀ (s : State) (n : Nat) (m : Mark) (j : JobRecord) (r : SetRecord) (b : Bool),
        s.marks n m → s.passesMarked = false → s.findJob m.id.job = some j → m.id.num ∉ j.doneMap →
        s.findSet m.id = some r → r.state = .claiming ∨ r.state = .collecting → m.pages ≠ r.pages → s.setTableSound →
        ∃ t, exec (.readerSample false b) s = .next t
          ∧ t.gc = { s.gc with queue := s.gc.queue ++ [Entry.bare n (if s.rejectAdmission then .reject else .pass)] }
          ∧ t.findSet m.id = some { r with watch := 0 }
          ∧ (t.co = { s.co with sets := t.co.sets, mismatch := count s.co.mismatch })
          ∧ s.setsBut [m.id] t
          ∧ s.sameBut [.ri, .gc, .co] t)
  ∧ (∀ (s : State) (n : Nat) (m : Mark) (j : JobRecord) (r : SetRecord) (b : Bool),
        s.marks n m → s.passesMarked = false → s.findJob m.id.job = some j → m.id.num ∉ j.doneMap →
        s.findSet m.id = some r → r.state = .claiming ∨ r.state = .collecting → m.pages = r.pages →
        r.status m.page ≠ .absent → s.setTableSound →
        ∃ t, exec (.readerSample false b) s = .next t
          ∧ t.gc = { s.gc with queue := s.gc.queue ++ [Entry.bare n (if s.rejectAdmission then .reject else .pass)] }
          ∧ t.findSet m.id = some { r with watch := 0 }
          ∧ t.co = { s.co with sets := t.co.sets, duplicate := count s.co.duplicate }
          ∧ s.setsBut [m.id] t
          ∧ s.sameBut [.ri, .gc, .co] t)
  ∧ (∀ (s : State) (n : Nat) (m : Mark) (j : JobRecord) (r : SetRecord) (b : Bool) (c : Nat),
        s.marks n m → s.passesMarked = false → s.findJob m.id.job = some j → m.id.num ∉ j.doneMap →
        s.findSet m.id = some r → r.state = .claiming ∨ r.state = .collecting → m.pages = r.pages →
        r.status m.page = .absent → r.bin = some c → r.direct m.page = true → s.gc.gate ≠ .faulted → s.setTableSound →
        ∃ t, exec (.readerSample false b) s = .next t
          ∧ t.gc = { s.gc with queue := s.gc.queue ++ [{ carrier := n, action := .bin c, target := some { id := r.id,
                                                                                                          page := m.page,
                                                                                                          record := r.record } }] }
          ∧ t.findSet m.id = some { r.setStatus m.page .inboundBin with watch := 0 }
          ∧ t.co = { s.co with sets := t.co.sets }
          ∧ s.setsBut [m.id] t
          ∧ (r.isPartial = false → t.dc = s.dc)
          ∧ s.sameBut [.ri, .gc, .co, .dc] t)
  ∧ (∀ (s : State) (n : Nat) (m : Mark) (j : JobRecord) (r : SetRecord) (b : Bool) (k : Nat),
        s.marks n m → s.passesMarked = false → s.findJob m.id.job = some j → m.id.num ∉ j.doneMap →
        s.findSet m.id = some r → r.state = .claiming ∨ r.state = .collecting → m.pages = r.pages →
        r.status m.page = .absent → r.bin = none ∨ r.direct m.page = false → s.rackAdmits r m.page = true →
        s.lowestFree = some k → s.gc.gate ≠ .faulted → s.setTableSound →
        ∃ t, exec (.readerSample false b) s = .next t
          ∧ t.gc = { s.gc with queue := s.gc.queue ++ [{ carrier := n, action := .rack k, target := some { id := r.id,
                                                                                                           page := m.page,
                                                                                                           record := r.record } }] }
          ∧ t.findSet m.id = some { r.setStatus m.page (.inboundRack k) with watch := 0 }
          ∧ t.hr = { s.hr with pockets := set1 s.hr.pockets k (.reserved r.id m.page),
                               inletReserved := s.hr.inletReserved + 1 }
          ∧ t.co = { s.co with sets := t.co.sets }
          ∧ s.setsBut [m.id] t
          ∧ (r.isPartial = false → t.dc = s.dc)
          ∧ s.sameBut [.ri, .gc, .co, .dc, .hr] t)
  ∧ (∀ (s : State) (n : Nat) (m : Mark) (j : JobRecord) (r : SetRecord) (b : Bool),
        s.marks n m → s.passesMarked = false → s.findJob m.id.job = some j → m.id.num ∉ j.doneMap →
        s.findSet m.id = some r → r.state = .claiming ∨ r.state = .collecting → m.pages = r.pages →
        r.status m.page = .absent → r.bin = none ∨ r.direct m.page = false →
        s.rackAdmits r m.page = false ∨ s.lowestFree = none → s.gc.gate ≠ .faulted → s.setTableSound →
        ∃ t, exec (.readerSample false b) s = .next t
          ∧ t.gc = { s.gc with queue := s.gc.queue ++ [Entry.bare n .pass] }
          ∧ t.findSet m.id = some { r with watch := 0 }
          ∧ t.co = { s.co with sets := t.co.sets, rackFull := count s.co.rackFull }
          ∧ s.setsBut [m.id] t
          ∧ s.sameBut [.ri, .gc, .co] t)
  ∧ (∀ (s : State) (n : Nat) (m : Mark) (j : JobRecord) (r : SetRecord) (b : Bool),
        s.marks n m → s.passesMarked = false → s.findJob m.id.job = some j → m.id.num ∉ j.doneMap →
        s.findSet m.id = some r → r.state = .claiming ∨ r.state = .collecting → m.pages = r.pages →
        r.status m.page = .absent → s.gc.gate = .faulted → s.setTableSound →
        ∃ t, exec (.readerSample false b) s = .next t
          ∧ t.gc = { s.gc with queue := s.gc.queue ++ [Entry.bare n .pass] }
          ∧ t.findSet m.id = some { r with watch := 0 }
          ∧ t.co = { s.co with sets := t.co.sets }
          ∧ s.setsBut [m.id] t
          ∧ s.sameBut [.ri, .gc, .co] t)
  ∧ (∀ (s : State) (n : Nat) (m : Mark) (j : JobRecord) (r : SetRecord) (b : Bool),
        s.marks n m → s.passesMarked = false → s.findJob m.id.job = some j → m.id.num ∉ j.doneMap →
        s.findSet m.id = some r → r.state = .finishing ∨ r.state = .surrendering → s.setTableSound →
        ∃ t, exec (.readerSample false b) s = .next t
          ∧ t.gc = { s.gc with queue := s.gc.queue ++ [Entry.bare n .pass] }
          ∧ t.findSet m.id = some { r with watch := 0 }
          ∧ t.co = { s.co with sets := t.co.sets }
          ∧ s.setsBut [m.id] t
          ∧ s.sameBut [.ri, .gc, .co] t)
  ∧ (∀ (s : State) (n : Nat) (m : Mark) (j : JobRecord) (r : SetRecord) (b : Bool),
        s.marks n m → s.passesMarked = false → s.findJob m.id.job = some j → m.id.num ∉ j.doneMap →
        s.findSet m.id = some r → r.state = .complete ∨ r.state = .inJaw ∨ r.state = .delivering → m.pages ≠ r.pages →
        s.setTableSound →
        ∃ t, exec (.readerSample false b) s = .next t
          ∧ t.gc = { s.gc with queue := s.gc.queue ++ [Entry.bare n (if s.rejectAdmission then .reject else .pass)] }
          ∧ t.findSet m.id = some { r with watch := 0 }
          ∧ (t.co = { s.co with sets := t.co.sets, mismatch := count s.co.mismatch })
          ∧ s.setsBut [m.id] t
          ∧ s.sameBut [.ri, .gc, .co] t)
  ∧ (∀ (s : State) (n : Nat) (m : Mark) (j : JobRecord) (r : SetRecord) (b : Bool),
        s.marks n m → s.passesMarked = false → s.findJob m.id.job = some j → m.id.num ∉ j.doneMap →
        s.findSet m.id = some r → r.state = .complete ∨ r.state = .inJaw ∨ r.state = .delivering → m.pages = r.pages →
        r.status m.page = .absent → s.setTableSound →
        ∃ t, exec (.readerSample false b) s = .next t
          ∧ t.gc = { s.gc with queue := s.gc.queue ++ [Entry.bare n (if s.rejectAdmission then .reject else .pass)],
                               late := count s.gc.late }
          ∧ t.findSet m.id = some { r with watch := 0 }
          ∧ t.co = { s.co with sets := t.co.sets }
          ∧ s.setsBut [m.id] t
          ∧ s.sameBut [.ri, .gc, .co] t)
  ∧ (∀ (s : State) (n : Nat) (m : Mark) (j : JobRecord) (r : SetRecord) (b : Bool),
        s.marks n m → s.passesMarked = false → s.findJob m.id.job = some j → m.id.num ∉ j.doneMap →
        s.findSet m.id = some r → r.state = .complete ∨ r.state = .inJaw ∨ r.state = .delivering → m.pages = r.pages →
        r.status m.page ≠ .absent → s.setTableSound →
        ∃ t, exec (.readerSample false b) s = .next t
          ∧ t.gc = { s.gc with queue := s.gc.queue ++ [Entry.bare n (if s.rejectAdmission then .reject else .pass)] }
          ∧ t.findSet m.id = some { r with watch := 0 }
          ∧ t.co = { s.co with sets := t.co.sets, duplicate := count s.co.duplicate }
          ∧ s.setsBut [m.id] t
          ∧ s.sameBut [.ri, .gc, .co] t)
  ∧ (∀ (r : SetRecord) (p : Nat),
        r.direct p = true ↔ r.frontier = some p ∧ ∀ x ∈ r.map, x = .absent ∨ x = .placed)
  ∧ (∀ (s : State) (r : SetRecord) (p : Nat),
        s.rackAdmits r p = true ↔ s.hr.rack ≠ .outOfService
          ∧ 1 ≤ (s.hr.pockets.filter (fun x => x = .free)).length
          ∧ s.hr.inletReserved + s.hr.inlet.length < 2
          ∧ s.hr.inletOccupied = false
          ∧ (r.map.filter PageStatus.inShare).length + 1 ≤ s.rackFitted / 2
          ∧ (∀ q, r.frontier = some q → q ≠ p → r.status q = .absent → (r.map.filter PageStatus.inShare).length + 1 ≤
            s.rackFitted / 2 - 1 ∧ 2 ≤ (s.hr.pockets.filter (fun x => x = .free)).length))
  ∧ (∀ (r : SetRecord) (p : Nat),
        (r.frontier = some p ↔ ∃ l k, r.wanted = l ++ p :: k ∧ r.status p ≠ .placed ∧ ∀ q ∈ l, r.status q = .placed)
          ∧ r.wanted = (if r.order = .forward then numbers r.pages else (numbers r.pages).reverse))
  ∧ (∀ (s : State) (k : Nat),
        nth1 s.hr.pockets k = some .free → (∀ q < k, nth1 s.hr.pockets q ≠ some .free) →
        s.lowestFree = some k)

/-- R106: what a LAP does to the watch fields of each record. -/
def Obligations.LapCountsWatch : Prop :=
  (∀ (s : State) (w : Window) (b : Bool) (i : SetId) (r : SetRecord),
        s.closing w → w.number = some 0 → w.sensed = false → s.gc.queue.length < 3 → s.setTableSound →
        s.findSet i = some r → r.state = .collecting →
        ∃ t, exec (.readerSample false b) s = .next t
          ∧ (∃ q, t.findSet i = some q
            ∧ q.state = .collecting ∧ q.map = r.map ∧ q.policy = r.policy ∧ q.skipPending = false
            ∧ q.watch = (if r.skipPending = true ∨ 15 ≤ r.watch then r.watch else r.watch + 1)
            ∧ (r.skipPending = true → q.attempts = r.attempts ∧ q.stranded = r.stranded)
            ∧ (r.skipPending = true → r.waiting ≠ .retry ∨ .absent ∉ r.map →
              q = { r with skipPending := false, waiting := .none })
            ∧ (r.skipPending = false → ¬r.dueAtLap → r.waiting ≠ .retry ∨ .absent ∉ r.map →
              q = { r with watch := q.watch, countdown := r.countdown - 1, waiting := .none, stranded := q.stranded })
            ∧ (r.stranded = true → q.stranded = true))
          ∧ s.sameBut [.ri, .gc, .co, .pw, .lc] t)
  ∧ (∀ (s : State) (w : Window) (b : Bool) (i : SetId) (r : SetRecord),
        s.closing w → w.number = some 0 → w.sensed = false → s.gc.queue.length < 3 → s.setTableSound →
        s.findSet i = some r → r.state ≠ .collecting →
        ∃ t, exec (.readerSample false b) s = .next t
          ∧ t.findSet i = some r)

/-- R106, R109 to R113: a policy REPRINT and the STRANDED test at a LAP, for a table of one record; and the whole of a LAP for a
table of any records: the two passes of R110 in ascending order, the waiting POLICY and RETRY REPRINTs among them, the
REPRINTs queued while the routine queue has room and the rest deferred, and then the STRANDED tests. -/
def Obligations.ReprintAtLap : Prop :=
  (∀ (s : State) (w : Window) (b : Bool) (r : SetRecord),
        s.closing w → w.number = some 0 → w.sensed = false → s.gc.queue.length < 3 → s.co.sets = [r] →
        r.state = .collecting → r.skipPending = false → r.policy.inRange → r.waiting = .none → r.countdown ≤ 1 →
        .absent ∈ r.map → r.attempts < r.policy.maximum →
        r.policy.delay ≤ (if r.watch < 15 then r.watch + 1 else r.watch) → s.lc.routine.length < 12 →
        ∃ t, exec (.readerSample false b) s = .next t
          ∧ t.lc =
            { s.lc with routine := s.lc.routine ++ [TxEntry.fresh (.reprint r.id ((r.wanted.filter (fun p => r.status p == .absent)).take 8))] }
          ∧ t.co = { s.co with sets := [{ r with watch := (if r.watch < 15 then r.watch + 1 else r.watch),
                                                 attempts := r.attempts + 1, countdown := r.policy.interval }] }
          ∧ t.pw = { s.pw with reprintsSent := count s.pw.reprintsSent }
          ∧ s.sameBut [.ri, .gc, .co, .pw, .lc] t)
  ∧ (∀ (s : State) (w : Window) (b : Bool) (r : SetRecord),
        s.closing w → w.number = some 0 → w.sensed = false → s.gc.queue.length < 3 → s.co.sets = [r] →
        r.state = .collecting → r.skipPending = false → r.policy.inRange → r.waiting = .none → r.countdown ≤ 1 →
        .absent ∈ r.map → r.attempts < r.policy.maximum →
        r.policy.delay ≤ (if r.watch < 15 then r.watch + 1 else r.watch) → 12 ≤ s.lc.routine.length →
        ∃ t, exec (.readerSample false b) s = .next t
          ∧ t.co = { s.co with sets := [{ r with watch := (if r.watch < 15 then r.watch + 1 else r.watch),
                                                 countdown := r.countdown - 1, waiting := .policy }] }
          ∧ t.pw = { s.pw with deferred := count s.pw.deferred }
          ∧ s.sameBut [.ri, .gc, .co, .pw] t)
  ∧ (∀ (s : State) (w : Window) (b : Bool) (r : SetRecord),
        s.closing w → w.number = some 0 → w.sensed = false → s.gc.queue.length < 3 → s.co.sets = [r] →
        r.state = .collecting → r.skipPending = false → r.policy.inRange → r.waiting = .none → r.countdown ≤ 1 →
        .absent ∈ r.map → r.stranded = false → r.attempts = r.policy.maximum → r.watch = 14 ∨ r.watch = 15 →
        ∃ t, exec (.readerSample false b) s = .next t
          ∧ t.co = { s.co with sets := [{ r with watch := 15, countdown := r.countdown - 1, stranded := true }] }
          ∧ t.pw = { s.pw with strandings := count s.pw.strandings }
          ∧ s.linkTold t
          ∧ s.sameBut [.ri, .gc, .co, .pw, .lc] t)
  ∧ (∀ (s u : State) (w : Window) (b : Bool),
        s.closing w → w.number = some 0 → w.sensed = false → s.gc.queue.length < 3 → s.setTableSound →
        (∀ r ∈ s.co.sets, r.state = .collecting → r.policy.inRange) →
        u = { s with lc := { s.lc with
          routine := s.lc.routine ++ s.lapQueued.map (fun r => TxEntry.fresh r.reprintNotice) } } →
        ∃ t, exec (.readerSample false b) s = .next t
          ∧ t.co = { s.co with sets := s.co.sets.map s.afterLap }
          ∧ t.lc = (if s.lapStranded = [] then u.lc else u.wantState.lc)
          ∧ t.pw = { reprintsSent := count^[s.lapQueued.length] s.pw.reprintsSent,
                     deferred := count^[s.lapDeferred.length] s.pw.deferred,
                     strandings := count^[s.lapStranded.length] s.pw.strandings }
          ∧ s.sameBut [.ri, .gc, .co, .pw, .lc] t)
  ∧ (∀ (m : ReprintMode) (d i l : Nat),
        (Policy.mk m d i l).maximum = (if m = .none then 0 else if m = .once then 1 else l))

/-- R12, R13, R15: which entry a GATE ARRIVAL takes, what goes by, and what the gate does with it. -/
def Obligations.GateArrivalTakesEntry : Prop :=
  (∀ (s : State) (n : Byte),
        (240 ≤ n.toNat ∨ ∀ e ∈ s.gc.queue, e.carrier ≠ n.toNat) →
        exec (.gateArrival n) s = .next ({ s with gc := { s.gc with unmatched := count s.gc.unmatched } }))
  ∧ (∀ (s : State) (n : Byte) (e : Entry) (q : List Entry),
        n.toNat < 240 → s.gc.queue = e :: q → e.carrier = n.toNat → e.action = .pass →
        exec (.gateArrival n) s = .next ({ s with gc := { s.gc with queue := q } }))
  ∧ (∀ (s : State) (n : Byte) (e : Entry) (q : List Entry),
        n.toNat < 240 → s.gc.queue = e :: q → e.carrier = n.toNat → e.action ≠ .pass → s.gc.gate = .idle →
        exec (.gateArrival n) s = .next ({ s with gc := { s.gc with queue := q, gate := .busy e } }))
  ∧ (∀ (s : State) (n : Byte) (e d : Entry) (q : List Entry),
        n.toNat < 240 → s.gc.queue = e :: q → e.carrier = n.toNat → e.action = .reject ∨ e.action = .fill →
        e.target = none → s.gc.gate = .busy d →
        exec (.gateArrival n) s = .next ({ s with gc := { s.gc with queue := q, lapsed := count s.gc.lapsed } }))
  ∧ (∀ (s : State) (n : Byte) (e e2 : Entry) (q2 : List Entry),
        n.toNat < 240 → s.gc.queue = e :: e2 :: q2 → e.carrier ≠ n.toNat → e2.carrier = n.toNat → e2.action = .pass →
        e.action = .pass ∨ e.action = .reject ∨ e.action = .fill → e.target = none →
        exec (.gateArrival n) s = .next ({ s with gc := { s.gc with queue := q2, lapsed := count s.gc.lapsed } }))
  ∧ (∀ (s : State) (n : Byte) (e e2 : Entry) (q2 : List Entry) (g : PageRef) (r : SetRecord) (c : Nat),
        n.toNat < 240 → s.gc.queue = e :: e2 :: q2 → e.carrier ≠ n.toNat → e2.carrier = n.toNat → e2.action = .pass →
        e.action = .bin c → e.target = some g → s.recordOf g = some r → r.state = .claiming ∨ r.state = .collecting →
        r.status g.page = .inboundBin → s.setTableSound →
        ∃ t, exec (.gateArrival n) s = .next t
          ∧ (∃ q, t.findSet g.id = some q ∧ q.status g.page = .absent ∧ q.bin = r.bin)
          ∧ s.setsBut [g.id] t
          ∧ t.gc = { s.gc with queue := q2, lapsed := count s.gc.lapsed })
  ∧ (∀ (s : State) (n : Byte) (e e2 : Entry) (q2 : List Entry) (g : PageRef) (r : SetRecord) (k : Nat),
        n.toNat < 240 → s.gc.queue = e :: e2 :: q2 → e.carrier ≠ n.toNat → e2.carrier = n.toNat → e2.action = .pass →
        e.action = .rack k → e.target = some g → s.recordOf g = some r → r.state = .claiming ∨ r.state = .collecting →
        r.status g.page = .inboundRack k → nth1 s.hr.pockets k = some (.reserved g.id g.page) → s.setTableSound →
        ∃ t, exec (.gateArrival n) s = .next t
          ∧ (∃ q, t.findSet g.id = some q ∧ q.status g.page = .absent ∧ q.bin = r.bin)
          ∧ s.setsBut [g.id] t
          ∧ t.gc = { s.gc with queue := q2, lapsed := count s.gc.lapsed }
          ∧ nth1 t.hr.pockets k = some .free
          ∧ t.hr.inletReserved = s.hr.inletReserved - 1)

/-- R13, R16, R44, R57: what becomes of the page and of the rack reservation of a diversion that does not take place. -/
def Obligations.DiversionsUndone : Prop :=
  (∀ (s : State) (n : Byte) (e d : Entry) (q : List Entry) (g : PageRef) (r : SetRecord) (c : Nat),
        n.toNat < 240 → s.gc.queue = e :: q → e.carrier = n.toNat → e.action = .bin c → e.target = some g →
        s.gc.gate = .busy d → s.recordOf g = some r → r.state = .claiming ∨ r.state = .collecting →
        r.status g.page = .inboundBin → s.setTableSound →
        ∃ t, exec (.gateArrival n) s = .next t
          ∧ (∃ q, t.findSet g.id = some q ∧ q.status g.page = .absent ∧ q.bin = r.bin)
          ∧ t.gc = { s.gc with queue := q, lapsed := count s.gc.lapsed })
  ∧ (∀ (s : State) (n : Byte) (e d : Entry) (q : List Entry) (g : PageRef) (r : SetRecord) (k : Nat),
        n.toNat < 240 → s.gc.queue = e :: q → e.carrier = n.toNat → e.action = .rack k → e.target = some g →
        s.gc.gate = .busy d → s.recordOf g = some r → r.state = .claiming ∨ r.state = .collecting →
        r.status g.page = .inboundRack k → nth1 s.hr.pockets k = some (.reserved g.id g.page) → s.setTableSound →
        ∃ t, exec (.gateArrival n) s = .next t
          ∧ (∃ q, t.findSet g.id = some q ∧ q.status g.page = .absent ∧ q.bin = r.bin)
          ∧ t.gc = { s.gc with queue := q, lapsed := count s.gc.lapsed }
          ∧ nth1 t.hr.pockets k = some .free
          ∧ t.hr.inletReserved = s.hr.inletReserved - 1)
  ∧ (∀ (s : State) (e : Entry) (g : PageRef) (r : SetRecord) (c : Nat),
        s.gc.gate = .busy e → e.action = .bin c → e.target = some g → s.recordOf g = some r →
        r.state = .claiming ∨ r.state = .collecting → r.status g.page = .inboundBin → s.setTableSound →
        ∃ t, exec .divertFailed s = .next t
          ∧ (∃ q, t.findSet g.id = some q ∧ q.status g.page = .absent ∧ q.bin = r.bin)
          ∧ t.gc = { s.gc with gate := .idle })
  ∧ (∀ (s : State) (e : Entry) (g : PageRef) (r : SetRecord) (k : Nat),
        s.gc.gate = .busy e → e.action = .rack k → e.target = some g → s.recordOf g = some r →
        r.state = .claiming ∨ r.state = .collecting → r.status g.page = .inboundRack k →
        nth1 s.hr.pockets k = some (.reserved g.id g.page) → s.setTableSound →
        ∃ t, exec .divertFailed s = .next t
          ∧ (∃ q, t.findSet g.id = some q ∧ q.status g.page = .absent ∧ q.bin = r.bin)
          ∧ t.gc = { s.gc with gate := .idle }
          ∧ nth1 t.hr.pockets k = some .free
          ∧ t.hr.inletReserved = s.hr.inletReserved - 1)
  ∧ (∀ (s : State) (e : Entry) (g : PageRef) (r : SetRecord) (c : Nat),
        s.gc.gate = .busy e → e.action = .bin c → e.target = some g → s.recordOf g = some r →
        r.state = .finishing ∨ r.state = .surrendering → r.status g.page = .inboundBin → s.setTableSound →
        ∃ t, exec .divertFailed s = .next t
          ∧ (∀ q, t.findSet g.id = some q → q.status g.page = .absent)
          ∧ t.gc.gate = .idle
          ∧ t.gc.lapsed = s.gc.lapsed)
  ∧ (∀ (s : State) (e : Entry) (g : PageRef) (r : SetRecord) (k : Nat),
        s.gc.gate = .busy e → e.action = .rack k → e.target = some g → s.recordOf g = some r →
        r.state = .finishing ∨ r.state = .surrendering → r.status g.page = .inboundRack k →
        nth1 s.hr.pockets k = some (.reserved g.id g.page) → s.setTableSound →
        ∃ t, exec .divertFailed s = .next t
          ∧ (∀ q, t.findSet g.id = some q → q.status g.page = .absent)
          ∧ t.gc.gate = .idle
          ∧ t.gc.lapsed = s.gc.lapsed
          ∧ nth1 t.hr.pockets k = some .free)
  ∧ (∀ (s : State) (e : Entry),
        s.gc.gate = .busy e → e.action = .reject → e.target = none →
        exec .divertFailed s = .next ({ s with gc := { s.gc with gate := .idle } }))

/-- R16, R18, R43, R49, R58, R67: the end of each kind of diversion. -/
def Obligations.DivertedEnds : Prop :=
  (∀ (s : State) (e : Entry),
        s.gc.gate = .busy e → e.action = .reject →
        exec .diverted s = .next ({ s with gc := { s.gc with gate := .idle, tray := s.gc.tray + 1 } }))
  ∧ (∀ (s : State) (e : Entry) (g : PageRef) (r : SetRecord) (c : Nat),
        s.gc.gate = .busy e → e.action = .bin c → e.target = some g → s.recordOf g = some r →
        r.state = .claiming ∨ r.state = .collecting ∨ r.state = .finishing → r.bin = some c →
        r.status g.page = .inboundBin → s.setTableSound →
        ∃ t, exec .diverted s = .next t
          ∧ (∃ q, t.findSet g.id = some q ∧ q.status g.page = .placed ∧ q.bin = some c ∧ q.attempts = 0 ∧ q.countdown
            = 0 ∧ q.stranded = false)
          ∧ t.gc = { s.gc with gate := .idle })
  ∧ (∀ (s : State) (e : Entry) (g : PageRef) (r : SetRecord) (c : Nat),
        s.gc.gate = .busy e → e.action = .bin c → e.target = some g → s.recordOf g = some r →
        r.state = .claiming ∨ r.state = .collecting → r.bin ≠ some c → r.status g.page = .inboundBin →
        s.setTableSound →
        ∃ t, exec .diverted s = .next t
          ∧ (∃ q, t.findSet g.id = some q ∧ q.status g.page = .absent ∧ q.bin = r.bin)
          ∧ t.gc = { s.gc with gate := .idle })
  ∧ (∀ (s : State) (e : Entry) (g : PageRef) (r : SetRecord) (c : Nat),
        s.gc.gate = .busy e → e.action = .bin c → e.target = some g → s.recordOf g = some r →
        r.state = .surrendering → r.bin = some c → r.status g.page = .inboundBin → s.setTableSound →
        ∃ t, exec .diverted s = .next t
          ∧ (∃ q, t.findSet g.id = some q ∧ q.state = .surrendering ∧ q.status g.page = .placed ∧ q.bin = some c ∧ ((∀
            p ∈ numbers q.map.length, q.status p ≠ .inboundBin) → s.binReleaseInFlight g.id = false → t.unloadPending
            g.id = true))
          ∧ t.gc = { s.gc with gate := .idle })
  ∧ (∀ (s : State) (e : Entry) (g : PageRef) (r : SetRecord) (c : Nat),
        s.gc.gate = .busy e → e.action = .bin c → e.target = some g → s.recordOf g = some r →
        r.state = .surrendering → r.bin ≠ some c → r.status g.page = .inboundBin → s.setTableSound →
        ∃ t, exec .diverted s = .next t
          ∧ (∀ q, t.findSet g.id = some q → q.state = .surrendering ∧ q.status g.page = .absent)
          ∧ t.gc = { s.gc with gate := .idle })
  ∧ (∀ (s : State) (e : Entry) (g : PageRef) (r : SetRecord) (c : Nat),
        s.gc.gate = .busy e → e.action = .bin c → e.target = some g → s.recordOf g = some r → r.state = .collecting →
        r.bin = some c → r.status g.page = .inboundBin →
        (∀ p ∈ numbers r.map.length, p ≠ g.page → r.status p = .placed) → s.sc.carriage ≠ .idle → s.setTableSound →
        ∃ t, exec .diverted s = .next t
          ∧ t.setIs g.id .complete
          ∧ t.sc.carriageQueue = s.sc.carriageQueue ++ [.transfer g.id c])
  ∧ (∀ (s : State) (e : Entry) (k : Nat) (i : SetId) (p : Nat),
        s.gc.gate = .busy e → e.action = .rack k → s.hr.rack ≠ .outOfService → s.hr.rack ≠ .idle →
        nth1 s.hr.pockets k = some (.reserved i p) →
        exec .diverted s = .next ({ s with gc := { s.gc with gate := .idle },
                                           hr := { s.hr with inletReserved := s.hr.inletReserved - 1,
                                                             inlet := s.hr.inlet ++ [{ pocket := k, id := i,
                                                                                       page := p }] } }))
  ∧ (∀ (s : State) (e : Entry) (k : Nat) (i : SetId) (p : Nat),
        s.gc.gate = .busy e → e.action = .rack k → s.hr.rack = .idle → s.hr.inlet = [] →
        nth1 s.hr.pockets k = some (.reserved i p) →
        exec .diverted s = .next ({ s with gc := { s.gc with gate := .idle },
                                           hr := { s.hr with inletReserved := s.hr.inletReserved - 1,
                                                             inlet := [{ pocket := k, id := i, page := p }],
                                                             rack := .busy (.store { pocket := k, id := i,
                                                                                     page := p }) } }))
  ∧ (∀ (s : State) (e : Entry) (k : Nat),
        s.gc.gate = .busy e → e.action = .rack k → s.hr.rack = .outOfService →
        exec .diverted s = .next ({ s with gc := { s.gc with gate := .idle },
                                           hr := { s.hr with inletOccupied := true } }))

/-- R16, R101, R102: the end of a FILL, and completions of the wrong kind or with no operation in flight. A wrong kind
counts as a FILL MISSED (log 17). -/
def Obligations.FillEnds : Prop :=
  (∀ (s : State) (e : Entry),
        s.gc.gate = .busy e → e.action = .fill →
        ∃ t, exec .filled s = .next t
          ∧ t.rf.count = s.rf.count - 1
          ∧ t.gc = { s.gc with gate := .idle }
          ∧ s.sameBut [.gc, .rf, .hr, .sc] t)
  ∧ (∀ (s : State) (e : Entry),
        s.gc.gate = .busy e → e.action = .fill → s.hr.rack ≠ .idle → s.sc.carriage ≠ .idle →
        exec .filled s = .next ({ s with gc := { s.gc with gate := .idle },
                                         rf := { s.rf with count := s.rf.count - 1 } }))
  ∧ (∀ (s : State) (e : Entry),
        s.gc.gate = .busy e → e.action = .fill →
        exec .fillMissed s = .next ({ s with gc := { s.gc with gate := .idle },
                                             rf := { s.rf with fillMissed := count s.rf.fillMissed } }))
  ∧ (∀ (s : State) (e : Entry),
        s.gc.gate = .busy e → e.action = .fill →
        exec .diverted s = exec .fillMissed s ∧ exec .divertFailed s = exec .fillMissed s)
  ∧ (∀ (s : State) (e : Entry),
        s.gc.gate = .busy e → e.action ≠ .fill →
        exec .filled s = exec .divertFailed s ∧ exec .fillMissed s = exec .divertFailed s)
  ∧ (∀ (s : State),
        s.gc.gate = .idle ∨ s.gc.gate = .faulted →
        exec .diverted s = .next s
          ∧ exec .divertFailed s = .next s
          ∧ exec .filled s = .next s
          ∧ exec .fillMissed s = .next s)

/-- R17, R14, R92 to R96, R166: the gate fault, with the sets it surrenders and their YIELDs, and the bay states that a fault
enters. What a FINISHING set with a page at the gate comes to depends on the undoing of that page (R51). An expiry with no
operation in flight is log 2. -/
def Obligations.GateLimitFaults : Prop :=
  (∀ (s : State) (e : Entry),
        s.gc.gate = .busy e → s.setTableSound →
        ∃ t, exec .gateLimitExpiry s = .next t
          ∧ t.gc.gate = .faulted
          ∧ t.gc.queue.length = s.gc.queue.length
          ∧ (∀ x ∈ t.gc.queue, x.action = .pass)
          ∧ t.gc.tray = s.gc.tray
          ∧ t.gc.lapsed = s.gc.lapsed
          ∧ (t.gc.unmatched = s.gc.unmatched)
          ∧ t.gc.late = s.gc.late
          ∧ t.bs.seen = { s.bs.seen with gate := true }
          ∧ (s.bs.state.faultEnters .gate = true → t.bs.state = .fault .gate ∧ t.bs.lamp = .blinkFast
            ∧ (∀ r ∈ t.co.sets, t.outlasts r)
            ∧ (∀ r ∈ s.co.sets, r.state = .claiming → t.givenUp r.id)
            ∧ (∀ r ∈ s.co.sets, r.state = .collecting → (∃ x ∈ r.map, x ≠ .placed) → t.surrenders (some .fault) r)
            ∧ (∀ r ∈ s.co.sets, r.state = .finishing → (∀ x ∈ s.gateEntries, ∀ g ∈ x.target, g.id ≠ r.id) →
              t.surrenders (some .fault) r)
            ∧ (∀ r ∈ s.co.sets, r.state = .finishing →
              t.setIs r.id .complete ∧ t.transferInFlight r.id = true
              ∨ t.givenUp r.id ∧ (t.yieldDue r.id .fault ∨ t.yieldDue r.id .staff))
            ∧ (∀ r ∈ s.co.sets, r.state = .complete → s.completeEnds t (some .fault) r)
            ∧ s.claimsYieldNothing t .fault)
          ∧ (s.bs.state.faultEnters .gate = false → t.bs.state = s.bs.state))
  ∧ (∀ (s : State),
        s.gc.gate = .idle ∨ s.gc.gate = .faulted →
        exec .gateLimitExpiry s = .next (s))
  ∧ (∀ (b : BayState) (c : Cause),
        b.faultEnters c = true ↔ b = .joining ∨ b = .active ∨ b = .draining ∨ b = .service ∨ (b = .fault .linkLost ∨ b
          = .fault .expelled)
          ∧ (c = .gate ∨ c = .carriage ∨ c = .clash) ∨ (b = .fault .gate ∨ b = .fault .carriage)
          ∧ c = .clash)

/-- R45, R47, R61, R66: the end of a STORE. -/
def Obligations.StoreCompletes : Prop :=
  (∀ (s : State) (e : InletSheet) (r : SetRecord) (f : Nat),
        s.hr.rack = .busy (.store e) → s.findSet e.id = some r → r.status e.page = .inboundRack e.pocket →
        1 ≤ e.pocket → e.pocket ≤ s.hr.pockets.length → r.state = .claiming ∨ r.state = .collecting →
        r.frontier = some f → f ≠ e.page → s.setTableSound →
        ∃ t, exec (.stored .ok) s = .next t
          ∧ t.hr.inlet = s.hr.inlet.drop 1
          ∧ nth1 t.hr.pockets e.pocket = some (.holding e.id e.page)
          ∧ t.gc = s.gc
          ∧ (∃ q, t.findSet e.id = some q ∧ q.status e.page = .held e.pocket ∧ q.attempts = 0 ∧ q.countdown = 0 ∧
            q.stranded = false))
  ∧ (∀ (s : State) (e : InletSheet) (r : SetRecord) (c : Nat),
        s.hr.rack = .busy (.store e) → s.findSet e.id = some r → r.status e.page = .inboundRack e.pocket →
        1 ≤ e.pocket → e.pocket ≤ s.hr.pockets.length → r.state = .claiming ∨ r.state = .collecting →
        r.frontier = some e.page → r.bin = some c → (∀ y ∈ r.map, y.inboundBinP = false ∧ y.releasingP = false) →
        s.setTableSound →
        ∃ t, exec (.stored .ok) s = .next t
          ∧ t.hr.inlet = s.hr.inlet.drop 1
          ∧ nth1 t.hr.pockets e.pocket = some (.holding e.id e.page)
          ∧ t.gc = s.gc
          ∧ t.pageIs e.id e.page (.releasing e.pocket)
          ∧ (.mk e.pocket e.id e.page (.bin c) ∈ t.hr.releases ∨ t.hr.rack = .busy (.release (.mk e.pocket e.id e.page
            (.bin c)))))
  ∧ (∀ (s : State) (e : InletSheet) (r : SetRecord),
        s.hr.rack = .busy (.store e) → s.findSet e.id = some r → r.status e.page = .inboundRack e.pocket →
        1 ≤ e.pocket → e.pocket ≤ s.hr.pockets.length → r.state = .surrendering → s.setTableSound →
        ∃ t, exec (.stored .ok) s = .next t
          ∧ t.hr.inlet = s.hr.inlet.drop 1
          ∧ nth1 t.hr.pockets e.pocket = some (.holding e.id e.page)
          ∧ t.gc = s.gc
          ∧ t.pageIs e.id e.page (.releasing e.pocket)
          ∧ (.mk e.pocket e.id e.page .feeder ∈ t.hr.releases ∨ t.hr.rack = .busy (.release (.mk e.pocket e.id e.page
            .feeder))))
  ∧ (∀ (s : State) (st : Status),
        s.hr.rack = .idle ∨ s.hr.rack = .outOfService →
        exec (.stored st) s = .next s ∧ exec (.released st) s = .next s)

/-- R46, R65, R97, R98, R101: the end of a RELEASE. -/
def Obligations.ReleaseCompletes : Prop :=
  (∀ (s : State) (x : Release) (r : SetRecord) (c : Nat),
        s.hr.rack = .busy (.release x) → s.findSet x.id = some r → r.status x.page = .releasing x.pocket →
        1 ≤ x.pocket → x.pocket ≤ s.hr.pockets.length → x.dest = .bin c → r.bin = some c →
        r.state = .claiming ∨ r.state = .collecting ∨ r.state = .finishing → s.setTableSound →
        ∃ t, exec (.released .ok) s = .next t
          ∧ nth1 t.hr.pockets x.pocket = some .free
          ∧ t.gc = s.gc
          ∧ t.pageIs x.id x.page .placed
          ∧ t.rf.count = s.rf.count)
  ∧ (∀ (s : State) (x : Release) (r : SetRecord) (c : Nat),
        s.hr.rack = .busy (.release x) → s.findSet x.id = some r → r.status x.page = .releasing x.pocket →
        1 ≤ x.pocket → x.pocket ≤ s.hr.pockets.length → x.dest = .bin c → r.bin ≠ some c →
        r.state = .claiming ∨ r.state = .collecting → s.setTableSound →
        ∃ t, exec (.released .ok) s = .next t
          ∧ nth1 t.hr.pockets x.pocket = some .free
          ∧ t.gc = s.gc
          ∧ t.pageIs x.id x.page .absent
          ∧ t.rf.count = s.rf.count)
  ∧ (∀ (s : State) (x : Release) (r : SetRecord) (c : Nat),
        s.hr.rack = .busy (.release x) → s.findSet x.id = some r → r.status x.page = .releasing x.pocket →
        1 ≤ x.pocket → x.pocket ≤ s.hr.pockets.length → x.dest = .bin c → r.bin = some c → r.state = .surrendering →
        s.setTableSound →
        ∃ t, exec (.released .ok) s = .next t
          ∧ nth1 t.hr.pockets x.pocket = some .free
          ∧ t.gc = s.gc
          ∧ (∃ q, t.findSet x.id = some q ∧ q.state = .surrendering ∧ q.status x.page = .placed ∧ q.bin = some c ∧ ((∀
            p ∈ numbers q.map.length, q.status p ≠ .inboundBin) → t.unloadPending x.id = true))
          ∧ t.rf.count = s.rf.count)
  ∧ (∀ (s : State) (x : Release) (r : SetRecord) (c : Nat),
        s.hr.rack = .busy (.release x) → s.findSet x.id = some r → r.status x.page = .releasing x.pocket →
        1 ≤ x.pocket → x.pocket ≤ s.hr.pockets.length → x.dest = .bin c → r.bin ≠ some c → r.state = .surrendering →
        s.setTableSound →
        ∃ t, exec (.released .ok) s = .next t
          ∧ nth1 t.hr.pockets x.pocket = some .free
          ∧ t.gc = s.gc
          ∧ (∀ q, t.findSet x.id = some q → q.state = .surrendering ∧ q.status x.page = .absent)
          ∧ t.rf.count = s.rf.count)
  ∧ (∀ (s : State) (x : Release) (r : SetRecord),
        s.hr.rack = .busy (.release x) → s.findSet x.id = some r → r.status x.page = .releasing x.pocket →
        1 ≤ x.pocket → x.pocket ≤ s.hr.pockets.length → x.dest = .feeder → r.state = .surrendering → s.setTableSound →
        ∃ t, exec (.released .ok) s = .next t
          ∧ nth1 t.hr.pockets x.pocket = some .free
          ∧ t.gc = s.gc
          ∧ (∀ q, t.findSet x.id = some q → q.state = .surrendering ∧ q.status x.page = .absent)
          ∧ t.rf.count = s.rf.count + 1)

/-- R66, R67, R48, R14: the rack fault, at the limit, at a FAULT and at a completion of the wrong kind. -/
def Obligations.RackFaults : Prop :=
  (∀ (s : State) (y : RackRequest),
        s.hr.rack = .busy y →
        ∃ t, exec .rackLimitExpiry s = .next t
          ∧ t.hr.rack = .outOfService
          ∧ t.hr.inlet = []
          ∧ t.hr.inletReserved = 0
          ∧ t.hr.releases = []
          ∧ t.hr.faults = countByte s.hr.faults
          ∧ t.hr.inletOccupied = (s.hr.inletOccupied || !s.hr.inlet.isEmpty || s.rackDiversionInFlight)
          ∧ t.hr.pockets.length = s.hr.pockets.length
          ∧ (∀ k i p, nth1 s.hr.pockets k = some (.holding i p) → nth1 t.hr.pockets k = some .occupied)
          ∧ (∀ k, s.hr.storePocket = some k → 1 ≤ k → k ≤ s.hr.pockets.length → nth1 t.hr.pockets k = some .occupied)
          ∧ (∀ k i p, nth1 s.hr.pockets k = some (.reserved i p) → s.hr.storePocket ≠ some k → nth1 t.hr.pockets k =
            some .free)
          ∧ (∀ k, nth1 s.hr.pockets k = some .free ∨ nth1 s.hr.pockets k = some .occupied → s.hr.storePocket ≠ some k
            → nth1 t.hr.pockets k = nth1 s.hr.pockets k)
          ∧ (∀ r ∈ t.co.sets, ∀ m ∈ r.map, m.inShare = false)
          ∧ (∀ e ∈ t.gc.queue, e.action.isRack = false))
  ∧ (∀ (s : State) (e : InletSheet) (st : Status),
        s.hr.rack = .busy (.store e) →
        exec (.stored .fault) s = exec .rackLimitExpiry s ∧ exec (.released st) s = exec .rackLimitExpiry s)
  ∧ (∀ (s : State) (x : Release) (st : Status),
        s.hr.rack = .busy (.release x) →
        exec (.released .fault) s = exec .rackLimitExpiry s ∧ exec (.stored st) s = exec .rackLimitExpiry s)
  ∧ (∀ (s : State),
        s.hr.rack = .idle ∨ s.hr.rack = .outOfService →
        exec .rackLimitExpiry s = .next (s))

/-- R30, R54 to R62, R67: the rack against the page maps, kept by every step. -/
def Obligations.RackMatchesPages : Prop :=
    ∀ s t : State, step s = .next t → s.setTableSound → s.placesSound → s.rackSound → t.rackSound

/-- R35, R63, R92 to R94, R99: the jam report by the bin's state. That the request stuck in a FAULTED carriage is an
operation in flight on its bin is the model's reading (log 18). -/
def Obligations.BinJams : Prop :=
  (∀ (s : State) (c : Nat),
        s.binState c = some .available ∨ s.binState c = some .occupied ∨ s.binState c = some .assigned ∧
          s.carriageOnBin c = true →
        ∃ t, exec (.binJammed c) s = .next t
          ∧ t.co = { s.co with bins := set1 s.co.bins c .jammed }
          ∧ s.linkTold t
          ∧ s.sameBut [.co, .lc] t)
  ∧ (∀ (s : State) (c : Nat),
        s.binState c = some .jammed ∨ s.binState c = none →
        exec (.binJammed c) s = .next (s))
  ∧ (∀ (s : State) (c : Nat) (r : SetRecord),
        s.binState c = some .assigned → s.carriageOnBin c = false → s.holderOf c = some r → s.findSet r.id = some r →
        r.state = .claiming ∨ r.state = .collecting ∨ r.state = .finishing → s.setTableSound →
        ∃ t, exec (.binJammed c) s = .next t
          ∧ t.binState c = some .jammed
          ∧ (∀ q, t.findSet r.id = some q → q.state = .surrendering ∧ q.bin = none ∧ ∀ x ∈ q.map, x ≠ .placed)
          ∧ t.co.surrenders = count s.co.surrenders
          ∧ (s.cu.waiting = [] → s.lc.urgent.length < 4 → r.state ≠ .claiming → t.lc.urgent = s.lc.urgent ++
            [TxEntry.fresh (.yield r.id .jam)]))
  ∧ (∀ (s : State) (c : Nat) (r : SetRecord),
        s.binState c = some .assigned → s.carriageOnBin c = false → s.holderOf c = some r → s.findSet r.id = some r →
        r.state = .complete → s.setTableSound →
        ∃ t, exec (.binJammed c) s = .next t
          ∧ t.binState c = some .jammed
          ∧ (∀ q, t.findSet r.id = some q → q.state = .surrendering ∧ q.bin = none ∧ ∀ x ∈ q.map, x ≠ .placed)
          ∧ t.co.surrenders = count s.co.surrenders
          ∧ (∀ q ∈ t.sc.carriageQueue, q.id = r.id → q.isUnload = true)
          ∧ (s.cu.waiting = [] → s.lc.urgent.length < 4 → t.lc.urgent = s.lc.urgent ++ [TxEntry.fresh (.yield r.id
            .jam)]))
  ∧ (∀ (s : State) (c : Nat) (r : SetRecord),
        s.binState c = some .assigned → s.carriageOnBin c = false → s.holderOf c = some r → s.findSet r.id = some r →
        r.state = .surrendering → s.setTableSound →
        ∃ t, exec (.binJammed c) s = .next t
          ∧ t.binState c = some .jammed
          ∧ (∀ q, t.findSet r.id = some q → q.state = .surrendering ∧ q.bin = none ∧ ∀ x ∈ q.map, x ≠ .placed)
          ∧ t.co.surrenders = s.co.surrenders
          ∧ t.lc.urgent = s.lc.urgent
          ∧ (∀ q ∈ t.sc.carriageQueue, q.id = r.id → q.isUnload = false)
          ∧ (∀ x ∈ t.hr.releases, x.id = r.id → x.dest = .feeder))

/-- R18, R34, R58, R68, R119: the sensor reports of cleared places. A jaw freed for a waiting TRANSFER is in R118's
statement. -/
def Obligations.PlacesCleared : Prop :=
  (∀ (s : State) (c : Nat),
        (s.binState c = some .occupied ∨ s.binState c = some .jammed ∧ ∀ r ∈ s.co.sets, r.bin ≠ some c) →
        ∃ t, exec (.placeCleared (.bin c)) s = .next t
          ∧ t.co = { s.co with bins := set1 s.co.bins c .available }
          ∧ s.linkTold t
          ∧ s.sameBut [.co, .lc] t)
  ∧ (∀ (s : State) (c : Nat),
        (s.binState c = some .available ∨ s.binState c = some .assigned ∨ s.binState c = none ∨ s.binState c = some
          .jammed ∧ ∃ r ∈ s.co.sets, r.bin = some c) →
        exec (.placeCleared (.bin c)) s = .next (s))
  ∧ (∀ (s : State) (k : Nat),
        nth1 s.hr.pockets k = some .occupied →
        exec (.placeCleared (.rackPocket k)) s = .next
          ({ s with hr := { s.hr with pockets := set1 s.hr.pockets k .free } }))
  ∧ (∀ (s : State) (k : Nat),
        nth1 s.hr.pockets k ≠ some .occupied →
        exec (.placeCleared (.rackPocket k)) s = .next (s))
  ∧ (∀ (s : State),
        exec (.placeCleared .inlet) s = .next ({ s with hr := { s.hr with inletOccupied := false } }))
  ∧ (∀ (s : State) (j : JawName),
        s.jaw j = .occupied → s.sc.carriage ≠ .idle ∨ s.sc.carriageQueue = [] →
        exec (.placeCleared (.jaw j)) s = .next (s.setJaw j .free))
  ∧ (∀ (s : State) (j : JawName),
        s.jaw j ≠ .occupied →
        exec (.placeCleared (.jaw j)) s = .next (s))
  ∧ (∀ (s : State),
        exec .rejectEmptied s = .next ({ s with gc := { s.gc with tray := 0 } }))

/-- R118, R119, R101: the start test. -/
def Obligations.CarriageStarts : Prop :=
  (∀ (s : State) (j : JawName) (i : SetId) (c : Nat) (rest : List CarriageRequest),
        s.sc.carriage = .idle → s.sc.carriageQueue = .transfer i c :: rest → s.jaw j = .free →
        j = s.sc.lastJaw.other ∨ s.jaw s.sc.lastJaw.other ≠ .free → s.sc.doneList.length + s.jawsInUse < 8 →
        exec .carriageStart s = .next ({ s with sc := { s.sc with carriageQueue := rest,
                                                                  carriage := .busy (.transfer i c) (some j),
                                                                  lastJaw := j } }.setJaw j (.loading i)))
  ∧ (∀ (s : State) (i : SetId) (c m : Nat) (rest : List CarriageRequest),
        s.sc.carriage = .idle → s.sc.carriageQueue = .unload i c m :: rest → s.rf.count + s.rf.onWay + m ≤ 64 →
        s.hr.rack ≠ .idle ∨ s.hr.inlet = [] ∧ s.hr.releases = [] →
        exec .carriageStart s = .next ({ s with sc := { s.sc with carriageQueue := rest,
                                                                  carriage := .busy (.unload i c m) none },
                                                rf := { s.rf with onWay := s.rf.onWay + m } }))
  ∧ (∀ (s : State),
        s.sc.carriage ≠ .idle ∨ s.sc.carriageQueue = [] →
        exec .carriageStart s = .next (s))
  ∧ (∀ (s : State) (i : SetId) (c : Nat),
        s.sc.carriageQueue.head? = some (.transfer i c) →
        s.jaw .a ≠ .free ∧ s.jaw .b ≠ .free ∨ 8 ≤ s.sc.doneList.length + s.jawsInUse →
        exec .carriageStart s = .next (s))
  ∧ (∀ (s : State) (i : SetId) (c m : Nat),
        s.sc.carriageQueue.head? = some (.unload i c m) → 64 < s.rf.count + s.rf.onWay + m →
        exec .carriageStart s = .next (s))

/-- R120, R123, R34: a set arrives in its jaw. -/
def Obligations.TransferCompletes : Prop :=
  (∀ (s : State) (i : SetId) (c : Nat) (j : JawName) (r : SetRecord),
        s.sc.carriage = .busy (.transfer i c) (some j) → s.findSet i = some r →
        r.isPartial = true ∨ r.pages = 1 ∨ 50 < r.pages ∨ r.staple = .none → s.setTableSound →
        ∃ t, exec (.transferred .ok) s = .next t
          ∧ (∃ q, t.findSet i = some q ∧ q.state = .delivering ∧ q.bin = none ∧ q.map = r.map)
          ∧ (t.jaw j = .holding i
            { outcome := some (if r.isPartial = true then .partialSet else if r.staple = .none ∨ r.pages = 1 then .unstapled else .oversize),
              owed := 0, retryUsed := false })
          ∧ (s.binState c = some .assigned → t.binState c = some .available)
          ∧ t.sc.headQueue = s.sc.headQueue)
  ∧ (∀ (s : State) (i : SetId) (c : Nat) (j : JawName) (r : SetRecord),
        s.sc.carriage = .busy (.transfer i c) (some j) → s.findSet i = some r → r.isPartial = false → 2 ≤ r.pages →
        r.pages ≤ 50 → r.staple ≠ .none → s.setTableSound →
        ∃ t, exec (.transferred .ok) s = .next t
          ∧ (∃ q, t.findSet i = some q ∧ q.state = .inJaw ∧ q.bin = none ∧ q.map = r.map)
          ∧ t.jaw j = .holding i { outcome := none, owed := if r.staple = .edge then 2 else 1, retryUsed := false }
          ∧ (s.binState c = some .assigned → t.binState c = some .available)
          ∧ t.sc.headQueue = s.sc.headQueue ++ [j])

/-- R99, R101, R121: the end of an UNLOAD. -/
def Obligations.UnloadCompletes : Prop :=
  ∀ (s : State) (i : SetId) (c m : Nat) (jo : Option JawName),
      s.sc.carriage = .busy (.unload i c m) jo →
      ∃ t, exec (.unloaded .ok) s = .next t
        ∧ t.rf.count = s.rf.count + m
        ∧ (s.binState c = some .assigned → t.binState c = some .available)
        ∧ (∀ q, t.findSet i = some q → q.bin = none ∧ ∀ x ∈ q.map, x ≠ .placed)
        ∧ t.gc = s.gc
        ∧ t.dc.list = s.dc.list

/-- R121, R122, R166: the carriage fault. An expiry with no request in flight is log 2. -/
def Obligations.CarriageFaults : Prop :=
  (∀ (s : State) (x : CarriageRequest) (jo : Option JawName),
        s.sc.carriage = .busy x jo → s.setTableSound →
        ∃ t, exec .carriageLimitExpiry s = .next t
          ∧ t.sc.carriage = .faulted x jo
          ∧ t.bs.seen = { s.bs.seen with carriage := true }
          ∧ (s.bs.state.faultEnters .carriage = true → t.bs.state = .fault .carriage ∧ s.surrendersAll t (some .fault))
          ∧ (s.bs.state.faultEnters .carriage = false → t.bs.state = s.bs.state))
  ∧ (∀ (s : State) (i : SetId) (c : Nat) (jo : Option JawName) (u : Status),
        s.sc.carriage = .busy (.transfer i c) jo →
        exec (.transferred .fault) s = exec .carriageLimitExpiry s
          ∧ exec (.unloaded u) s = exec .carriageLimitExpiry s)
  ∧ (∀ (s : State) (i : SetId) (c m : Nat) (jo : Option JawName) (u : Status),
        s.sc.carriage = .busy (.unload i c m) jo →
        exec (.unloaded .fault) s = exec .carriageLimitExpiry s
          ∧ exec (.transferred u) s = exec .carriageLimitExpiry s)
  ∧ (∀ (s : State) (x : CarriageRequest) (jo : Option JawName) (u : Status),
        s.sc.carriage = .idle ∨ s.sc.carriage = .faulted x jo →
        exec (.transferred u) s = .next s ∧ exec (.unloaded u) s = .next s ∧ exec .carriageLimitExpiry s = .next s)

/-- R124, R126, R127, R152: the issue of a STAPLE and the reports of the head and the cartridge. -/
def Obligations.HeadIssuesAndReports : Prop :=
  (∀ (s : State) (j : JawName) (js : List JawName) (i : SetId) (st : Stapling),
        s.sc.head = .idle → s.sc.headQueue = j :: js → s.jaw j = .holding i st → s.sc.faultedMark = false →
        s.sc.emptyMark = false →
        exec .stapleIssue s = .next ({ s with sc := { s.sc with head := .busy j st.owed } }))
  ∧ (∀ (s : State),
        s.sc.head ≠ .idle ∨ s.sc.headQueue = [] ∨ s.sc.faultedMark = true ∨ s.sc.emptyMark = true →
        exec .stapleIssue s = .next (s))
  ∧ (∀ (s : State),
        s.sc.faultedMark = true → s.sc.head ≠ .idle ∨ s.sc.headQueue = [] ∨ s.sc.emptyMark = true →
        ∃ t, exec .headCleared s = .next t
          ∧ t.sc = { s.sc with faultedMark := false }
          ∧ s.linkTold t
          ∧ s.sameBut [.sc, .lc] t)
  ∧ (∀ (s : State) (j : JawName) (js : List JawName) (i : SetId) (st : Stapling),
        s.sc.head = .idle → s.sc.headQueue = j :: js → s.jaw j = .holding i st → s.sc.faultedMark = true →
        s.sc.emptyMark = false →
        ∃ t, exec .headCleared s = .next t
          ∧ t.sc = { s.sc with faultedMark := false, head := .busy j st.owed }
          ∧ s.linkTold t
          ∧ s.sameBut [.sc, .lc] t)
  ∧ (∀ (s : State),
        s.sc.faultedMark = false →
        exec .headCleared s = .next (s))
  ∧ (∀ (s : State),
        s.sc.head ≠ .idle ∨ s.sc.headQueue = [] ∨ s.sc.faultedMark = true →
        ∃ t, exec .cartridgeInserted s = .next t
          ∧ t.sc = { s.sc with staples := some 5000, emptyMark := false }
          ∧ s.linkTold t
          ∧ s.sameBut [.sc, .lc] t)
  ∧ (∀ (s : State) (j : JawName) (js : List JawName) (i : SetId) (st : Stapling),
        s.sc.head = .idle → s.sc.headQueue = j :: js → s.jaw j = .holding i st → s.sc.faultedMark = false →
        ∃ t, exec .cartridgeInserted s = .next t
          ∧ t.sc = { s.sc with staples := some 5000, emptyMark := false, head := .busy j st.owed }
          ∧ s.linkTold t
          ∧ s.sameBut [.sc, .lc] t)
  ∧ (∀ (s : State),
        ∃ t, exec .cartridgeEmpty s = .next t
          ∧ t.sc = { s.sc with staples := some 0, emptyMark := true }
          ∧ s.linkTold t
          ∧ s.sameBut [.sc, .lc] t)

/-- R125, R127, R128: the end of a STAPLE. A MISFIRE that formed every staple (log 16), and HEAD_LIMIT_EXPIRY with no
STAPLE in flight (log 2), are the model's readings. -/
def Obligations.StapleEnds : Prop :=
  (∀ (s : State) (j : JawName) (k : Nat) (i : SetId) (st : Stapling) (r : SetRecord),
        s.sc.head = .busy j k → s.jaw j = .holding i st → s.findSet i = some r → s.setTableSound →
        ∃ t, exec (.stapled .ok) s = .next t
          ∧ t.jaw j = .holding i { st with outcome := some .stapled, owed := 0 }
          ∧ t.sc.headQueue = s.sc.headQueue.erase j
          ∧ t.sc.staples = s.sc.staples.map (· - k)
          ∧ t.setIs i .delivering
          ∧ t.sc.misfires = s.sc.misfires)
  ∧ (∀ (s : State) (j : JawName) (k : Nat) (i : SetId) (st : Stapling) (f : Nat),
        s.sc.head = .busy j k → s.jaw j = .holding i st → f < k → st.retryUsed = false →
        ∃ t, exec (.misfire .ok f) s = .next t
          ∧ t.jaw j = .holding i { st with owed := k - f, retryUsed := true }
          ∧ t.sc.headQueue = s.sc.headQueue
          ∧ t.sc.staples = s.sc.staples.map (· - k)
          ∧ t.sc.misfires = count s.sc.misfires
          ∧ t.co = s.co
          ∧ t.dc = s.dc)
  ∧ (∀ (s : State) (j : JawName) (k : Nat) (i : SetId) (st : Stapling) (f : Nat) (r : SetRecord),
        s.sc.head = .busy j k → s.jaw j = .holding i st → f < k → st.retryUsed = true → s.findSet i = some r →
        s.setTableSound →
        ∃ t, exec (.misfire .ok f) s = .next t
          ∧ t.jaw j = .holding i { st with outcome := some .stapleMissing, owed := k - f }
          ∧ t.sc.headQueue = s.sc.headQueue.erase j
          ∧ t.sc.staples = s.sc.staples.map (· - k)
          ∧ t.sc.misfires = count s.sc.misfires
          ∧ t.setIs i .delivering)
  ∧ (∀ (s : State) (j : JawName) (k f : Nat),
        s.sc.head = .busy j k → k ≤ f →
        exec (.misfire .ok f) s = exec (.stapled .ok) s)
  ∧ (∀ (s : State) (f : Nat) (u : Status),
        s.sc.head = .idle →
        exec (.stapled u) s = .next s
          ∧ exec (.misfire u f) s = .next s
          ∧ exec (.jam u f) s = .next s
          ∧ exec .headLimitExpiry s = .next s)

/-- R126, R127: the head fault and the JAM. -/
def Obligations.HeadFaults : Prop :=
  (∀ (s : State) (j : JawName) (k : Nat),
        s.sc.head = .busy j k →
        ∃ t, exec .headLimitExpiry s = .next t
          ∧ t.sc = { s.sc with head := .idle, faultedMark := true, headJams := count s.sc.headJams }
          ∧ s.linkTold t
          ∧ s.sameBut [.sc, .lc] t)
  ∧ (∀ (s : State) (j : JawName) (k f : Nat),
        s.sc.head = .busy j k →
        exec (.stapled .fault) s = exec .headLimitExpiry s ∧ exec (.misfire .fault f) s = exec .headLimitExpiry s)
  ∧ (∀ (s : State) (j : JawName) (k : Nat) (i : SetId) (st : Stapling) (f : Nat) (u : Status),
        s.sc.head = .busy j k → s.jaw j = .holding i st → 1 ≤ k →
        ∃ t, exec (.jam u f) s = .next t
          ∧ t.jaw j = .holding i { st with owed := k - min f (k - 1) }
          ∧ t.jaw j.other = s.jaw j.other
          ∧ t.sc.head = .idle
          ∧ t.sc.faultedMark = true
          ∧ t.sc.headQueue = s.sc.headQueue
          ∧ t.sc.headJams = count s.sc.headJams
          ∧ t.sc.staples = s.sc.staples.map (· - (min f (k - 1) + 1))
          ∧ s.sameBut [.sc, .lc] t)

/-- R60, R64, R101: the arbiter's choice. R141: the delivery issue test (log 34 for naming the pocket). -/
def Obligations.RequestsIssued : Prop :=
  (∀ (s : State) (e1 : InletSheet) (es : List InletSheet),
        s.hr.rack = .idle → s.hr.inlet = e1 :: es →
        exec .rackRequestIssue s = .next ({ s with hr := { s.hr with rack := .busy (.store e1) } }))
  ∧ (∀ (s : State) (z : Release) (rest : List Release) (c : Nat),
        s.hr.rack = .idle → s.hr.inlet = [] → s.hr.releases = z :: rest → z.dest = .bin c →
        exec .rackRequestIssue s = .next ({ s with hr := { s.hr with rack := .busy (.release z), releases := rest } }))
  ∧ (∀ (s : State) (z : Release) (rest : List Release),
        s.hr.rack = .idle → s.hr.inlet = [] → s.hr.releases = z :: rest → z.dest = .feeder →
        s.rf.count + s.rf.onWay + 1 ≤ 64 → s.sc.carriage ≠ .idle ∨ s.sc.carriageQueue = [] →
        exec .rackRequestIssue s = .next ({ s with hr := { s.hr with rack := .busy (.release z), releases := rest },
                                                   rf := { s.rf with onWay := s.rf.onWay + 1 } }))
  ∧ (∀ (s : State) (z : Release) (rest : List Release),
        s.hr.rack = .idle → s.hr.inlet = [] → s.hr.releases = z :: rest → z.dest = .feeder →
        64 < s.rf.count + s.rf.onWay + 1 →
        exec .rackRequestIssue s = .next (s))
  ∧ (∀ (s : State),
        s.hr.rack ≠ .idle ∨ s.hr.inlet = [] ∧ s.hr.releases = [] →
        exec .rackRequestIssue s = .next (s))
  ∧ (∀ (s : State) (p : Nat) (x : Pocket) (e : DeliveryEntry),
        nth1 s.dc.pockets p = some x → x.blocked = false → x.inFlight = none →
        s.dc.list.find? (fun d => d.pocket == p) = some e →
        exec (.deliverIssue p) s = .next ({ s with dc := { list := s.dc.list.erase e,
                                                           pockets := set1 s.dc.pockets p { x with side := if x.side = .left then .right else .left,
                                                                                                   inFlight := some e.jaw } } }))
  ∧ (∀ (s : State) (p : Nat) (x : Pocket),
        nth1 s.dc.pockets p = some x → (x.blocked = true ∨ x.inFlight ≠ none ∨ ∀ d ∈ s.dc.list, d.pocket ≠ p) →
        exec (.deliverIssue p) s = .next (s))
  ∧ (∀ (s : State) (p : Nat),
        nth1 s.dc.pockets p = none →
        exec (.deliverIssue p) s = .next (s))

/-- R142, R144, R26, R136, R128, R129: the delivery of a set. -/
def Obligations.SetDelivered : Prop :=
  (∀ (s : State) (j : JawName) (p : Nat) (i : SetId) (st : Stapling) (o : SetOutcome) (r : SetRecord),
        s.deliveringInto j = some p → s.jaw j = .holding i st → s.findSet i = some r → st.outcome = some o →
        s.setTableSound →
        ∃ t, exec (.delivered j .ok p) s = .next t
          ∧ t.findSet i = none
          ∧ s.setsBut [i] t
          ∧ (∀ b, t.findJob i.job = some b → i.num ∈ b.doneMap)
          ∧ ((∃ w ∈ t.sc.doneList, w.notice = .mk i (if r.isPartial = true then r.placedCount else r.pages) o p) ∨ (∃
            e ∈ t.lc.routine, e.notice = .done (.mk i (if r.isPartial = true then r.placedCount else r.pages) o p)))
          ∧ (s.sc.carriage ≠ .idle ∨ s.sc.carriageQueue = [] → t.jaw j = .free)
          ∧ (t.jaw j.other = s.jaw j.other ∨ s.sc.carriage = .idle))
  ∧ (∀ (s : State) (j : JawName) (u : Status) (p : Nat),
        s.deliveringInto j = none →
        exec (.delivered j u p) s = .next (s))

/-- R130, R143: the delivery fault. An expiry with no delivery in flight is log 2. -/
def Obligations.DeliveryFaults : Prop :=
  (∀ (s : State) (j : JawName) (p : Nat) (i : SetId) (st : Stapling) (r : SetRecord),
        s.deliveringInto j = some p → s.jaw j = .holding i st → s.findSet i = some r → s.setTableSound →
        ∃ t, exec (.deliveryLimitExpiry j) s = .next t
          ∧ t.jaw j = .outOfService i
          ∧ t.sc.jawFaults = countByte s.sc.jawFaults
          ∧ t.findSet i = none
          ∧ s.setsBut [i] t
          ∧ t.sc.doneList = s.sc.doneList
          ∧ t.jt = s.jt
          ∧ (s.bs.state.silencedFault = false → s.cu.waiting = [] → s.lc.urgent.length < 4 → t.lc.urgent = s.lc.urgent
            ++ [TxEntry.fresh (.yield i .fault)]))
  ∧ (∀ (s : State) (j : JawName) (u : Status) (p v : Nat),
        s.deliveringInto j = some p → u = .fault ∨ v ≠ p →
        exec (.delivered j u v) s = exec (.deliveryLimitExpiry j) s)
  ∧ (∀ (s : State) (j : JawName),
        s.deliveringInto j = none →
        exec (.deliveryLimitExpiry j) s = .next (s))

/-- R134, R137, R145: a height sample. -/
def Obligations.HeightSampled : Prop :=
  (∀ (s : State) (p : Nat) (mm : Byte) (x : Pocket),
        nth1 s.dc.pockets p = some x →
        ∃ t, exec (.heightSample p mm) s = .next t
          ∧ (∃ y, nth1 t.dc.pockets p = some y ∧ y.last = some mm.toNat ∧ y.previous = x.last ∧ y.lamp = y.lampOf ∧
            y.committed = x.committed ∧ y.refs = x.refs ∧ (x.last = none → y.full = x.full ∧ y.blocked = x.blocked ∧
            y.empty = x.empty) ∧ (∀ v, x.last = some v → y.full = (if 180 ≤ v ∧ 180 ≤ mm.toNat then true else if v ≤
            160 ∧ mm.toNat ≤ 160 then false else x.full) ∧ y.blocked = (if 220 ≤ v ∧ 220 ≤ mm.toNat then true else if
            v ≤ 210 ∧ mm.toNat ≤ 210 then false else x.blocked) ∧ y.empty = (if v ≤ 5 ∧ mm.toNat ≤ 5 then true else if
            5 < v ∧ 5 < mm.toNat then false else x.empty)) ∧ y.binding = (if x.empty = false ∧ y.empty = true ∧ x.refs
            = 0 ∧ x.binding.any s.jobEnded = true then none else x.binding))
          ∧ (∀ q, q ≠ p → nth1 t.dc.pockets q = nth1 s.dc.pockets q)
          ∧ s.sameBut [.dc, .lc] t)
  ∧ (∀ (s : State) (p : Nat) (mm : Byte),
        nth1 s.dc.pockets p = none →
        exec (.heightSample p mm) s = .next (s))

/-- R77, R79, R71: a CLAIM heard from another bay, after the steps of R149. -/
def Obligations.PeerClaimHeard : Prop :=
  (∀ (s : State) (f : Frame) (r : SetRecord),
        s.hears .claim f → s.findSet (f.setAt 0) = some r → r.state = .claiming → (f.setAt 0).job ≠ 0 →
        (f.setAt 0).num ≠ 0 → f.low6 ≠ 0 → s.setTableSound →
        ∃ t, exec (.claim f) s = .next (State.afterHeard s t)
          ∧ t.givenUp (f.setAt 0)
          ∧ t.cu.claimLost = count s.cu.claimLost
          ∧ t.co.surrenders = count s.co.surrenders
          ∧ s.setsBut [f.setAt 0] t
          ∧ (∀ e ∈ t.lc.urgent, e.notice.isClaimOf (f.setAt 0) = true → e.withdrawn = true)
          ∧ (∀ e ∈ t.gc.queue, ∀ g ∈ e.target, g.id ≠ f.setAt 0)
          ∧ (¬s.rejoins t → t.cu.foreign = if s.cu.foreign.length < 128 then s.cu.foreign ++ [{ id := f.setAt 0,
                                                                                                owner := f.origin.toNat }]
            else s.cu.foreign))
  ∧ (∀ (s : State) (f : Frame),
        s.hears .claim f → (∀ r, s.findSet (f.setAt 0) = some r → r.state ≠ .claiming) →
        s.standing (f.setAt 0) = true → (f.setAt 0).job ≠ 0 → (f.setAt 0).num ≠ 0 → f.low6 ≠ 0 →
        exec (.claim f) s = .next (State.afterHeard s (s.heardSteps NoticeKind.claim.code f)))
  ∧ (∀ (s : State) (f : Frame),
        s.hears .claim f → (∀ r, s.findSet (f.setAt 0) = some r → r.state ≠ .claiming) →
        s.standing (f.setAt 0) = false → s.cu.foreign.length < 128 → (f.setAt 0).job ≠ 0 → (f.setAt 0).num ≠ 0 →
        f.low6 ≠ 0 →
        exec (.claim f) s = .next (State.afterHeard s
          ({ s.heardSteps NoticeKind.claim.code f with cu := { (s.heardSteps NoticeKind.claim.code f).cu with foreign := s.cu.foreign ++ [{ id := f.setAt 0,
                                                                                                                                            owner := f.origin.toNat }] } })))
  ∧ (∀ (s : State) (f : Frame),
        s.hears .claim f → (∀ r, s.findSet (f.setAt 0) = some r → r.state ≠ .claiming) →
        s.standing (f.setAt 0) = false → 128 ≤ s.cu.foreign.length → (f.setAt 0).job ≠ 0 → (f.setAt 0).num ≠ 0 →
        f.low6 ≠ 0 →
        exec (.claim f) s = .next (State.afterHeard s
          ({ s.heardSteps NoticeKind.claim.code f with cu := { (s.heardSteps NoticeKind.claim.code f).cu with foreignRefused := count s.cu.foreignRefused } })))
  ∧ (∀ (s : State) (f : Frame),
        s.hears .claim f → (f.setAt 0).job = 0 ∨ (f.setAt 0).num = 0 ∨ f.low6 = 0 →
        exec (.claim f) s = .next (State.afterHeard s
          ({ s.heardSteps NoticeKind.claim.code f with lc := { (s.heardSteps NoticeKind.claim.code f).lc with malformed := count (s.heardSteps NoticeKind.claim.code f).lc.malformed } })))

/-- R78, R80, R82, R94, R49: the echo of a CLAIM, with the YIELD(LATE) of a late one, and the claim deadline. That the late claim
counter does not count in the faults that keep silent is log 15, and an expiry of a stopped deadline log 2. -/
def Obligations.OwnClaimHeard : Prop :=
  (∀ (s : State) (f : Frame) (r : SetRecord),
        s.hearsEcho .claim f → s.findSet (f.setAt 0) = some r → r.state = .claiming → (f.setAt 0).job ≠ 0 →
        (f.setAt 0).num ≠ 0 → f.low6 ≠ 0 → s.setTableSound →
        ∃ t, exec (.claim f) s = .next (State.afterHeard s t)
          ∧ (∃ q, t.findSet (f.setAt 0) = some q ∧ q.state = (if r.map.all (· == .placed) = true then .complete else
            .collecting) ∧ q.deadline = false ∧ q.map = r.map ∧ q.bin = r.bin)
          ∧ t.cu.foreign = s.cu.foreign
          ∧ t.co.bins = s.co.bins
          ∧ s.setsBut [f.setAt 0] t)
  ∧ (∀ (s : State) (f : Frame),
        s.hearsEcho .claim f → (∀ r, s.findSet (f.setAt 0) = some r → r.state ≠ .claiming) →
        s.standing (f.setAt 0) = true → (f.setAt 0).job ≠ 0 → (f.setAt 0).num ≠ 0 → f.low6 ≠ 0 →
        exec (.claim f) s = .next (State.afterHeard s (s.heardSteps NoticeKind.claim.code f)))
  ∧ (∀ (s : State) (f : Frame),
        s.hearsEcho .claim f → (∀ r, s.findSet (f.setAt 0) = some r → r.state ≠ .claiming) →
        s.standing (f.setAt 0) = false → s.bs.state.silencedFault = false → (f.setAt 0).job ≠ 0 →
        (f.setAt 0).num ≠ 0 → f.low6 ≠ 0 →
        ∃ t, exec (.claim f) s = .next (State.afterHeard s t)
          ∧ (∃ e ∈ t.cu.late, e.id = f.setAt 0)
          ∧ t.yieldDue (f.setAt 0) .late
          ∧ t.cu.lateClaims = count s.cu.lateClaims
          ∧ t.cu.foreign = s.cu.foreign
          ∧ t.co = s.co)
  ∧ (∀ (s : State) (f : Frame),
        s.hearsEcho .claim f → (∀ r, s.findSet (f.setAt 0) = some r → r.state ≠ .claiming) →
        s.standing (f.setAt 0) = false →
        s.bs.state = .fault .linkLost ∨ s.bs.state = .fault .expelled ∨ s.bs.state = .fault .clash →
        (f.setAt 0).job ≠ 0 → (f.setAt 0).num ≠ 0 → f.low6 ≠ 0 →
        exec (.claim f) s = .next (State.afterHeard s (s.heardSteps NoticeKind.claim.code f)))
  ∧ (∀ (b : BayState),
        b.silencedFault = true ↔ b = .fault .linkLost ∨ b = .fault .expelled ∨ b = .fault .clash)
  ∧ (∀ (s : State) (i : SetId) (r : SetRecord),
        s.setTableSound → s.findSet i = some r → r.state = .claiming → r.deadline = true →
        ∃ t, exec (.claimDeadlineExpiry i.job i.num) s = .next t
          ∧ t.givenUp i
          ∧ t.cu.claimLost = count s.cu.claimLost
          ∧ t.co.surrenders = count s.co.surrenders
          ∧ (s.bs.state.selfClearing = false → t.cu.foreign = s.cu.foreign)
          ∧ s.setsBut [i] t)
  ∧ (∀ (s : State) (i : SetId),
        (∀ r, s.findSet i = some r → r.state ≠ .claiming ∨ r.deadline = false) →
        exec (.claimDeadlineExpiry i.job i.num) s = .next (s))
  ∧ (∀ (s u : State) (f : Frame),
        s.hearsEcho .claim f → (∀ r, s.findSet (f.setAt 0) = some r → r.state ≠ .claiming) →
        s.standing (f.setAt 0) = false → s.bs.state.silencedFault = false → (f.setAt 0).job ≠ 0 →
        (f.setAt 0).num ≠ 0 → f.low6 ≠ 0 → u = s.heardSteps NoticeKind.claim.code f → u.cu.waiting = [] →
        u.lc.urgent.length < 4 →
        exec (.claim f) s = .next (State.afterHeard s
          { u with cu := { u.cu with late := u.cu.late ++ [{ id := f.setAt 0, queued := true }], lateClaims := count s.cu.lateClaims },
                   lc := { u.lc with urgent := u.lc.urgent ++ [TxEntry.fresh (.yield (f.setAt 0) .late)] } }))
  ∧ (∀ (s u : State) (f : Frame),
        s.hearsEcho .claim f → (∀ r, s.findSet (f.setAt 0) = some r → r.state ≠ .claiming) →
        s.standing (f.setAt 0) = false → s.bs.state.silencedFault = false → (f.setAt 0).job ≠ 0 →
        (f.setAt 0).num ≠ 0 → f.low6 ≠ 0 → u = s.heardSteps NoticeKind.claim.code f → 4 ≤ u.lc.urgent.length →
        exec (.claim f) s = .next (State.afterHeard s
          { u with cu := { u.cu with late := u.cu.late ++ [{ id := f.setAt 0, queued := false }], lateClaims := count s.cu.lateClaims,
                                     waiting := u.cu.waiting ++ [.yield (f.setAt 0) .late] } }))

/-- R86: the sets of a HELD, after the steps of R149. -/
def Obligations.HeldHeard : Prop :=
  (∀ (s : State) (f : Frame) (r : SetRecord),
        s.hears .held f → f.body.length = 3 → s.findSet (f.setAt 0) = some r → r.state = .claiming →
        (f.setAt 0).job ≠ 0 → (f.setAt 0).num ≠ 0 → s.setTableSound →
        ∃ t, exec (.held f) s = .next (State.afterHeard s t)
          ∧ t.givenUp (f.setAt 0)
          ∧ t.cu.claimLost = count s.cu.claimLost
          ∧ t.co.surrenders = count s.co.surrenders
          ∧ s.setsBut [f.setAt 0] t
          ∧ (∀ e ∈ t.lc.urgent, e.notice.isClaimOf (f.setAt 0) = true → e.withdrawn = true)
          ∧ (∀ e ∈ t.gc.queue, ∀ g ∈ e.target, g.id ≠ f.setAt 0)
          ∧ (¬s.rejoins t → t.cu.foreign = if s.cu.foreign.length < 128 then s.cu.foreign ++ [{ id := f.setAt 0,
                                                                                                owner := f.origin.toNat }]
            else s.cu.foreign))
  ∧ (∀ (s : State) (f : Frame),
        s.hears .held f → f.body.length = 3 → (∀ r, s.findSet (f.setAt 0) = some r → r.state ≠ .claiming) →
        s.standing (f.setAt 0) = true → (f.setAt 0).job ≠ 0 → (f.setAt 0).num ≠ 0 →
        exec (.held f) s = .next (State.afterHeard s (if s.cu.foreign.any (fun e => e.id == f.setAt 0 && e.owner ==
          f.origin.toNat) = true then s.heardSteps NoticeKind.held.code f else
          { s.heardSteps NoticeKind.held.code f with cu := { (s.heardSteps NoticeKind.held.code f).cu with conflicts := count s.cu.conflicts } })))
  ∧ (∀ (s : State) (f : Frame),
        s.hears .held f → (∀ i ∈ heldSets f, i.job ≠ 0 ∧ i.num ≠ 0 ∧ s.standing i = false) → (heldSets f).Nodup →
        (heldSets f).all (fun i => (s.findSet i).all (fun r => r.state != .claiming)) = true →
        s.cu.foreign.length + (heldSets f).length ≤ 128 →
        exec (.held f) s = .next (State.afterHeard s
          ({ s.heardSteps NoticeKind.held.code f with cu := { (s.heardSteps NoticeKind.held.code f).cu with foreign := s.cu.foreign ++ (heldSets f).map (fun i => { id := i,
                                                                                                                                                                    owner := f.origin.toNat }) } })))
  ∧ (∀ (s : State) (f : Frame),
        s.hears .held f → (∃ i ∈ heldSets f, i.job = 0 ∨ i.num = 0) →
        exec (.held f) s = .next (State.afterHeard s
          ({ s.heardSteps NoticeKind.held.code f with lc := { (s.heardSteps NoticeKind.held.code f).lc with malformed := count (s.heardSteps NoticeKind.held.code f).lc.malformed } })))
  ∧ (∀ (s : State) (f : Frame),
        s.hearsEcho .held f → (∀ i ∈ heldSets f, i.job ≠ 0 ∧ i.num ≠ 0) →
        exec (.held f) s = .next (State.afterHeard s (s.heardSteps NoticeKind.held.code f)))

/-- R84: its refusals, every row of its table, and no use of the reason beside its test. A ten-bit set field is never above
1023. It holds in every bay state but DORMANT; the heard mark of R167, and that it follows the notice's own effect, is
State.afterHeard (log 14). -/
def Obligations.YieldHeard : Prop :=
  (∀ (s : State) (f : Frame),
        s.hears .yield f → (f.setAt 0).job ≠ 0 → (f.setAt 0).num ≠ 0 → f.low6 / 8 ≤ 4 →
        s.cu.foreign.any (fun e => e.id == f.setAt 0 && e.owner == f.origin.toNat) = true →
        exec (.yield f) s = .next (State.afterHeard s
          ({ s.heardSteps NoticeKind.yield.code f with cu := { (s.heardSteps NoticeKind.yield.code f).cu with foreign := s.cu.foreign.filter (fun e => !(e.id == f.setAt 0 && e.owner == f.origin.toNat)) } })))
  ∧ (∀ (s : State) (f : Frame),
        s.hears .yield f → (f.setAt 0).job ≠ 0 → (f.setAt 0).num ≠ 0 → f.low6 / 8 ≤ 4 →
        s.cu.foreign.any (fun e => e.id == f.setAt 0 && e.owner == f.origin.toNat) = false →
        s.standing (f.setAt 0) = true →
        exec (.yield f) s = .next (State.afterHeard s
          ({ s.heardSteps NoticeKind.yield.code f with cu := { (s.heardSteps NoticeKind.yield.code f).cu with conflicts := count s.cu.conflicts } })))
  ∧ (∀ (s : State) (f : Frame),
        s.hears .yield f → (f.setAt 0).job ≠ 0 → (f.setAt 0).num ≠ 0 → f.low6 / 8 ≤ 4 →
        s.cu.foreign.any (fun e => e.id == f.setAt 0 && e.owner == f.origin.toNat) = false →
        s.standing (f.setAt 0) = false →
        exec (.yield f) s = .next (State.afterHeard s (s.heardSteps NoticeKind.yield.code f)))
  ∧ (∀ (s : State) (f : Frame),
        s.hearsEcho .yield f → (f.setAt 0).job ≠ 0 → (f.setAt 0).num ≠ 0 → f.low6 / 8 ≤ 4 →
        exec (.yield f) s = .next (State.afterHeard s
          ({ s.heardSteps NoticeKind.yield.code f with cu := { (s.heardSteps NoticeKind.yield.code f).cu with late := (s.heardSteps NoticeKind.yield.code f).cu.late.filter (fun e => e.id != f.setAt 0) } })))
  ∧ (∀ (s : State) (f : Frame),
        s.hears .yield f ∨ s.hearsEcho .yield f → (f.setAt 0).job = 0 ∨ (f.setAt 0).num = 0 ∨ 4 < f.low6 / 8 →
        exec (.yield f) s = .next (State.afterHeard s
          ({ s.heardSteps NoticeKind.yield.code f with lc := { (s.heardSteps NoticeKind.yield.code f).lc with malformed := count (s.heardSteps NoticeKind.yield.code f).lc.malformed } })))

/-- R26, R85, R93: a DONE heard, after the steps of R149. Where a clause names the state after those steps, it is because they can
start a TRANSFER: room in the routine queue shortens the DONE list (R118, R129). -/
def Obligations.DoneHeard : Prop :=
  (∀ (s : State) (f : Frame),
        s.hears .done f → (∀ r, s.findSet (f.setAt 0) = some r → r.state = .surrendering) → (f.setAt 0).job ≠ 0 →
        (f.setAt 0).num ≠ 0 → f.low6 ≠ 0 → f.byteAt 3 / 32 ≤ 4 →
        ∃ t, exec (.done f) s = .next (State.afterHeard s t)
          ∧ t.cu.foreign = s.cu.foreign.filter (fun e => e.id != f.setAt 0)
          ∧ (∀ e ∈ t.cu.late, e.id ≠ f.setAt 0)
          ∧ (∀ b, t.findJob (f.setAt 0).job = some b → (f.setAt 0).num ∈ b.doneMap)
          ∧ t.co = s.co
          ∧ (∀ w ∈ t.cu.waiting, w ≠ .yield (f.setAt 0) .late)
          ∧ (∀ w ∈ (s.heardSteps NoticeKind.done.code f).cu.waiting, w ≠ .yield (f.setAt 0) .late → w ∈ t.cu.waiting)
          ∧ t.lc.urgent = (s.heardSteps NoticeKind.done.code f).lc.urgent
          ∧ t.cu.conflicts = s.cu.conflicts)
  ∧ (∀ (s : State) (f : Frame) (r : SetRecord),
        s.hears .done f → s.findSet (f.setAt 0) = some r →
        r.state = .claiming ∨ r.state = .collecting ∨ r.state = .finishing → (f.setAt 0).job ≠ 0 →
        (f.setAt 0).num ≠ 0 → f.low6 ≠ 0 → f.byteAt 3 / 32 ≤ 4 → s.setTableSound →
        ∃ t, exec (.done f) s = .next (State.afterHeard s t)
          ∧ (¬s.rejoins t → t.cu.foreign = s.cu.foreign.filter (fun e => e.id != f.setAt 0))
          ∧ (∀ e ∈ t.cu.late, e.id ≠ f.setAt 0)
          ∧ (∀ b, t.findJob (f.setAt 0).job = some b → (f.setAt 0).num ∈ b.doneMap)
          ∧ t.givenUp (f.setAt 0)
          ∧ t.cu.conflicts = count s.cu.conflicts
          ∧ t.co.surrenders = count s.co.surrenders
          ∧ s.setsBut [f.setAt 0] t
          ∧ (∀ w ∈ t.cu.waiting, w ≠ .yield (f.setAt 0) .late))
  ∧ (∀ (s : State) (f : Frame) (r : SetRecord),
        s.hears .done f → s.findSet (f.setAt 0) = some r → r.state = .inJaw ∨ r.state = .delivering →
        (f.setAt 0).job ≠ 0 → (f.setAt 0).num ≠ 0 → f.low6 ≠ 0 → f.byteAt 3 / 32 ≤ 4 → s.setTableSound →
        ∃ t, exec (.done f) s = .next (State.afterHeard s t)
          ∧ t.cu.foreign = s.cu.foreign.filter (fun e => e.id != f.setAt 0)
          ∧ (∀ e ∈ t.cu.late, e.id ≠ f.setAt 0)
          ∧ (∀ b, t.findJob (f.setAt 0).job = some b → (f.setAt 0).num ∈ b.doneMap)
          ∧ t.co = s.co
          ∧ (∀ w ∈ t.cu.waiting, w ≠ .yield (f.setAt 0) .late)
          ∧ (∀ w ∈ (s.heardSteps NoticeKind.done.code f).cu.waiting, w ≠ .yield (f.setAt 0) .late → w ∈ t.cu.waiting)
          ∧ t.lc.urgent = (s.heardSteps NoticeKind.done.code f).lc.urgent
          ∧ t.cu.conflicts = count s.cu.conflicts)
  ∧ (∀ (s : State) (f : Frame),
        s.hearsEcho .done f → (f.setAt 0).job ≠ 0 → (f.setAt 0).num ≠ 0 → f.low6 ≠ 0 → f.byteAt 3 / 32 ≤ 4 →
        ∃ t, exec (.done f) s = .next (State.afterHeard s t)
          ∧ t.cu.foreign = s.cu.foreign.filter (fun e => e.id != f.setAt 0)
          ∧ (∀ e ∈ t.cu.late, e.id ≠ f.setAt 0)
          ∧ (∀ b, t.findJob (f.setAt 0).job = some b → (f.setAt 0).num ∈ b.doneMap)
          ∧ t.co = s.co
          ∧ (∀ w ∈ t.cu.waiting, w ≠ .yield (f.setAt 0) .late)
          ∧ (∀ w ∈ (s.heardSteps NoticeKind.done.code f).cu.waiting, w ≠ .yield (f.setAt 0) .late → w ∈ t.cu.waiting)
          ∧ t.lc.urgent = (s.heardSteps NoticeKind.done.code f).lc.urgent
          ∧ t.cu.conflicts = s.cu.conflicts)
  ∧ (∀ (s : State) (f : Frame),
        s.hears .done f → (f.setAt 0).job = 0 ∨ (f.setAt 0).num = 0 ∨ f.low6 = 0 ∨ 4 < f.byteAt 3 / 32 →
        exec (.done f) s = .next (State.afterHeard s
          ({ s.heardSteps NoticeKind.done.code f with lc := { (s.heardSteps NoticeKind.done.code f).lc with malformed := count (s.heardSteps NoticeKind.done.code f).lc.malformed } })))
  ∧ (∀ (s : State) (f : Frame) (r : SetRecord),
        s.hears .done f → s.findSet (f.setAt 0) = some r → r.state = .complete →
        (s.heardSteps NoticeKind.done.code f).transferInFlight (f.setAt 0) = false → (f.setAt 0).job ≠ 0 →
        (f.setAt 0).num ≠ 0 → f.low6 ≠ 0 → f.byteAt 3 / 32 ≤ 4 → s.setTableSound →
        ∃ t, exec (.done f) s = .next (State.afterHeard s t)
          ∧ t.givenUp (f.setAt 0)
          ∧ (∀ q ∈ t.sc.carriageQueue, q.id = f.setAt 0 → q.isUnload = true)
          ∧ t.transferInFlight (f.setAt 0) = false
          ∧ (¬s.rejoins t → t.cu.foreign = s.cu.foreign.filter (fun e => e.id != f.setAt 0))
          ∧ (∀ e ∈ t.cu.late, e.id ≠ f.setAt 0)
          ∧ (∀ w ∈ t.cu.waiting, w ≠ .yield (f.setAt 0) .late)
          ∧ (∀ b, t.findJob (f.setAt 0).job = some b → (f.setAt 0).num ∈ b.doneMap)
          ∧ t.cu.conflicts = count s.cu.conflicts
          ∧ t.co.surrenders = count s.co.surrenders
          ∧ s.setsBut [f.setAt 0] t)
  ∧ (∀ (s : State) (f : Frame) (r : SetRecord),
        s.hears .done f → s.findSet (f.setAt 0) = some r → r.state = .complete →
        (s.heardSteps NoticeKind.done.code f).transferInFlight (f.setAt 0) = true → (f.setAt 0).job ≠ 0 →
        (f.setAt 0).num ≠ 0 → f.low6 ≠ 0 → f.byteAt 3 / 32 ≤ 4 → s.setTableSound →
        ∃ t, exec (.done f) s = .next (State.afterHeard s t)
          ∧ t.co = s.co
          ∧ t.sc = (s.heardSteps NoticeKind.done.code f).sc
          ∧ t.cu.foreign = s.cu.foreign.filter (fun e => e.id != f.setAt 0)
          ∧ (∀ e ∈ t.cu.late, e.id ≠ f.setAt 0)
          ∧ (∀ w ∈ t.cu.waiting, w ≠ .yield (f.setAt 0) .late)
          ∧ (∀ b, t.findJob (f.setAt 0).job = some b → (f.setAt 0).num ∈ b.doneMap)
          ∧ t.cu.conflicts = count s.cu.conflicts)

/-- R21 to R25, R27: JOB and JOBCLOSE. The fields are those jobFields reads and clamps (R21). -/
def Obligations.JobsAnnounced : Prop :=
  (∀ (s : State) (f : Frame) (x : JobFields),
        s.hears .job f → jobFields f = some x → s.findJob x.job = none → s.jt.jobs.length < 32 →
        exec (.job f) s = .next (State.afterHeard s
          ({ s.heardSteps NoticeKind.job.code f with jt := { s.jt with jobs := s.jt.jobs ++ [{ job := x.job,
                                                                                               label := x.label,
                                                                                               setCount := x.setCount,
                                                                                               staple := x.staple,
                                                                                               order := x.order,
                                                                                               policy := x.policy,
                                                                                               state := .opened,
                                                                                               adopted := x.repeatFlag,
                                                                                               doneMap := [] }] } })))
  ∧ (∀ (s : State) (f : Frame) (x : JobFields) (old : JobRecord),
        s.hears .job f → jobFields f = some x → s.findJob x.job = none → 32 ≤ s.jt.jobs.length →
        s.jt.jobs.find? (fun q => q.state != .opened && !s.jobInUse q.job) = some old →
        ∃ t, exec (.job f) s = .next (State.afterHeard s t)
          ∧ t.jt = { s.jt with jobs := s.jt.jobs.filter (fun q => q.job != old.job) ++ [{ job := x.job,
                                                                                          label := x.label,
                                                                                          setCount := x.setCount,
                                                                                          staple := x.staple,
                                                                                          order := x.order,
                                                                                          policy := x.policy,
                                                                                          state := .opened,
                                                                                          adopted := x.repeatFlag,
                                                                                          doneMap := [] }] }
          ∧ t.co = s.co)
  ∧ (∀ (s : State) (f : Frame) (x : JobFields),
        s.hears .job f → jobFields f = some x → s.findJob x.job = none → 32 ≤ s.jt.jobs.length →
        (∀ q ∈ s.jt.jobs, q.state = .opened ∨ s.jobInUse q.job = true) →
        exec (.job f) s = .next (State.afterHeard s
          ({ s.heardSteps NoticeKind.job.code f with jt := { s.jt with tableFull := count s.jt.tableFull } })))
  ∧ (∀ (s : State) (f : Frame) (x : JobFields) (r : JobRecord),
        s.hears .job f → jobFields f = some x → s.findJob x.job = some r → r.state = .opened →
        (∀ n, x.setCount = some n → r.doneMap.length < n) →
        exec (.job f) s = .next (State.afterHeard s
          ({ s.heardSteps NoticeKind.job.code f with jt := { s.jt with jobs := s.jt.jobs.filter (fun q => q.job != x.job) ++ [{ r with label := x.label,
                                                                                                                                       setCount := x.setCount,
                                                                                                                                       staple := x.staple,
                                                                                                                                       order := x.order,
                                                                                                                                       policy := x.policy,
                                                                                                                                       state := .opened }] } })))
  ∧ (∀ (s : State) (f : Frame) (x : JobFields) (r : JobRecord) (n : Nat),
        s.hears .job f → jobFields f = some x → s.findJob x.job = some r → r.state = .opened → x.setCount = some n →
        n ≤ r.doneMap.length →
        ∃ t, exec (.job f) s = .next (State.afterHeard s t)
          ∧ t.jt = { s.jt with jobs := s.jt.jobs.filter (fun q => q.job != x.job) ++ [{ { r with label := x.label,
                                                                                                 setCount := x.setCount,
                                                                                                 staple := x.staple,
                                                                                                 order := x.order,
                                                                                                 policy := x.policy,
                                                                                                 state := .opened } with state := .complete }] }
          ∧ t.co = s.co)
  ∧ (∀ (s : State) (f : Frame) (x : JobFields) (r : JobRecord),
        s.hears .job f → jobFields f = some x → s.findJob x.job = some r → r.state ≠ .opened → x.repeatFlag = false →
        s.jobInUse x.job = false →
        ∃ t, exec (.job f) s = .next (State.afterHeard s t)
          ∧ t.jt = { s.jt with jobs := s.jt.jobs.filter (fun q => q.job != x.job) ++ [{ job := x.job,
                                                                                        label := x.label,
                                                                                        setCount := x.setCount,
                                                                                        staple := x.staple,
                                                                                        order := x.order,
                                                                                        policy := x.policy,
                                                                                        state := .opened,
                                                                                        adopted := false,
                                                                                        doneMap := [] }] }
          ∧ t.co = s.co)
  ∧ (∀ (s : State) (f : Frame) (x : JobFields) (r : JobRecord),
        s.hears .job f → jobFields f = some x → s.findJob x.job = some r → r.state ≠ .opened → x.repeatFlag = false →
        s.jobInUse x.job = true → (∀ n, x.setCount = some n → r.doneMap.length < n) →
        exec (.job f) s = .next (State.afterHeard s
          ({ s.heardSteps NoticeKind.job.code f with jt := { s.jt with jobs := s.jt.jobs.filter (fun q => q.job != x.job) ++ [{ r with label := x.label,
                                                                                                                                       setCount := x.setCount,
                                                                                                                                       staple := x.staple,
                                                                                                                                       order := x.order,
                                                                                                                                       policy := x.policy,
                                                                                                                                       state := .opened }] } })))
  ∧ (∀ (s : State) (f : Frame) (x : JobFields) (r : JobRecord),
        s.hears .job f → jobFields f = some x → s.findJob x.job = some r → r.state ≠ .opened → x.repeatFlag = true →
        exec (.job f) s = .next (State.afterHeard s (s.heardSteps NoticeKind.job.code f)))
  ∧ (∀ (s : State) (f : Frame),
        s.hears .job f → jobFields f = none →
        exec (.job f) s = .next (State.afterHeard s
          ({ s.heardSteps NoticeKind.job.code f with lc := { (s.heardSteps NoticeKind.job.code f).lc with malformed := count (s.heardSteps NoticeKind.job.code f).lc.malformed } })))
  ∧ (∀ (f : Frame) (label : List Byte) (j c st o rp m d i l : Nat),
        f.body = byte j :: label ++ word2 (c * 32 + st * 8 + o * 2 + rp) ++ word2 (m * 16384 + d * 1024 + i * 64 + l *
          8) →
        label.length = 8 → j ≤ 255 → c ≤ 2047 → st ≤ 3 → o ≤ 3 → rp ≤ 1 → m ≤ 3 → d ≤ 15 → i ≤ 15 → l ≤ 7 →
        jobFields f = if j = 0 ∨ 1023 < c ∨ m = 3 ∨ (∃ x ∈ label, x.toNat < 32 ∨ 126 < x.toNat) ∨ label.head? = some
          32 then none else some { job := j, label := label, setCount := if c = 0 then none else some c,
                                   staple := if st = 1 then .corner else if st = 2 then .edge else .none,
                                   order := if o = 1 then .reverse else .forward,
                                   policy := { mode := if l = 0 ∨ m = 0 then .none else if m = 1 then .once else .repeated,
                                               delay := if d = 0 then 1 else d, interval := if i = 0 then 1 else i,
                                               limit := if l = 0 then 1 else l }, repeatFlag := decide (rp = 1) })
  ∧ (∀ (s : State) (f : Frame) (r : JobRecord),
        s.hears .jobclose f → f.byteAt 0 ≠ 0 → s.findJob (f.byteAt 0) = some r → r.state = .opened →
        ∃ t, exec (.jobclose f) s = .next (State.afterHeard s t)
          ∧ t.jt =
            { s.jt with jobs := s.jt.jobs.map (fun q => if q.job = r.job then { r with state := .closed } else q) }
          ∧ t.co = s.co
          ∧ t.cu = s.cu)
  ∧ (∀ (s : State) (f : Frame),
        s.hears .jobclose f → f.byteAt 0 ≠ 0 → (∀ r, s.findJob (f.byteAt 0) = some r → r.state ≠ .opened) →
        exec (.jobclose f) s = .next (State.afterHeard s (s.heardSteps NoticeKind.jobclose.code f)))
  ∧ (∀ (s : State) (f : Frame),
        s.hears .jobclose f → f.byteAt 0 = 0 →
        exec (.jobclose f) s = .next (State.afterHeard s
          ({ s.heardSteps NoticeKind.jobclose.code f with lc := { (s.heardSteps NoticeKind.jobclose.code f).lc with malformed := count (s.heardSteps NoticeKind.jobclose.code f).lc.malformed } })))

/-- R87 to R89, R153, R154, R162, R166: what the peer table and the Claim Unit take from HELLO, GONE and STATE. -/
def Obligations.PeerNoticesHeard : Prop :=
  (∀ (s : State) (f : Frame),
        s.hears .hello f → f.byteAt 0 = f.origin.toNat → f.byteAt 1 ∈ [4, 8, 12, 16] →
        ∃ t, exec (.hello f) s = .next (State.afterHeard s t)
          ∧ t.cu.foreign = s.cu.foreign.filter (fun e => e.owner != f.origin.toNat)
          ∧ (1 ≤ f.origin.toNat → f.origin.toNat ≤ s.lc.peers.length → (t.peer f.origin.toNat).bins = some (f.byteAt
            1) ∧ (t.peer f.origin.toNat).present = true)
          ∧ t.co = s.co
          ∧ t.bs = s.bs)
  ∧ (∀ (s : State) (f : Frame),
        s.hears .hello f → f.byteAt 0 = f.origin.toNat → f.byteAt 1 ∈ [4, 8, 12, 16] →
        s.bs.state.answersHello = true → s.cu.waiting = [] → s.lc.urgent.length < 4 → 1 ≤ s.heldNow.length →
        s.heldNow.length ≤ 4 →
        ∃ t, exec (.hello f) s = .next (State.afterHeard s t)
          ∧ t.lc.urgent = s.lc.urgent ++ [TxEntry.fresh (.held s.heldNow)]
          ∧ t.cu.backlog = [])
  ∧ (∀ (s : State) (id : SetId),
        id ∈ s.heldNow ↔ (∃ r ∈ s.co.sets, r.id = id ∧ r.state ∈ [SetState.collecting, .finishing, .complete, .inJaw,
          .delivering]) ∨ (∃ e ∈ s.cu.late, e.id = id ∧ e.queued = false))
  ∧ (∀ (s : State),
        s.setTableSound →
        s.heldNow.Pairwise (fun a b => a.before b = true))
  ∧ (∀ (s : State) (f : Frame),
        s.hears .hello f → f.byteAt 0 ≠ f.origin.toNat ∨ f.byteAt 1 ∉ [4, 8, 12, 16] →
        exec (.hello f) s = .next (State.afterHeard s
          ({ s.heardSteps NoticeKind.hello.code f with lc := { (s.heardSteps NoticeKind.hello.code f).lc with malformed := count (s.heardSteps NoticeKind.hello.code f).lc.malformed } })))
  ∧ (∀ (s : State) (f : Frame),
        s.hearsEcho .hello f → f.byteAt 0 = f.origin.toNat → f.byteAt 1 ∈ [4, 8, 12, 16] →
        exec (.hello f) s = .next (State.afterHeard s
          ({ s.heardSteps NoticeKind.hello.code f with bs := { s.bs with join := if s.bs.join = .stopped then .stopped else .listening } })))
  ∧ (∀ (s : State) (f : Frame) (x : Nat),
        s.hears .gone f → f.byteAt 0 = x → 1 ≤ x → x ≤ 8 → x ≠ s.station → s.lc.peers.length = 8 →
        (s.peer x).present = true ∨ x = f.origin.toNat →
        ∃ t, exec (.gone f) s = .next (State.afterHeard s t)
          ∧ t.peer x = Peer.absent
          ∧ t.cu.foreign = s.cu.foreign.filter (fun e => e.owner != x)
          ∧ (∀ d ∈ t.lc.due, d.kind ≠ .gone x)
          ∧ (∀ e ∈ t.lc.routine, e.notice = .gone x → e.onLine.isSome = true)
          ∧ (x ≠ f.origin.toNat → ∀ e ∈ s.lc.routine, e.notice = .gone x → e.onLine.isSome = true → e ∈ t.lc.routine)
          ∧ t.co = s.co)
  ∧ (∀ (s : State) (f : Frame),
        s.hears .gone f → 1 ≤ f.byteAt 0 → f.byteAt 0 ≤ 8 → f.byteAt 0 ≠ s.station → f.byteAt 0 ≠ f.origin.toNat →
        s.lc.peers.length = 8 → (s.peer (f.byteAt 0)).present = false →
        exec (.gone f) s = .next (State.afterHeard s (s.heardSteps NoticeKind.gone.code f)))
  ∧ (∀ (s : State) (f : Frame),
        s.hears .gone f → f.byteAt 0 = s.station → 1 ≤ s.station → s.station ≤ 8 →
        s.bs.state.faultEnters .expelled = true → s.setTableSound →
        ∃ t, exec (.gone f) s = .next (State.afterHeard s t)
          ∧ t.bs.state = .fault .expelled
          ∧ t.bs.seen.expelled = true
          ∧ t.bs.heard = false
          ∧ t.cu.late = []
          ∧ (∀ r ∈ t.co.sets, t.outlasts r)
          ∧ t.cu.waiting = []
          ∧ (∀ e ∈ t.lc.urgent, e.notice.isHeldOrYield = true → e.withdrawn = true))
  ∧ (∀ (s : State) (f : Frame),
        s.hears .gone f → f.byteAt 0 = s.station → 1 ≤ s.station → s.station ≤ 8 →
        s.bs.state.faultEnters .expelled = false →
        exec (.gone f) s = .next (State.afterHeard s
          ({ s.heardSteps NoticeKind.gone.code f with bs := { s.bs with seen := { s.bs.seen with expelled := true } } })))
  ∧ (∀ (s : State) (f : Frame),
        s.hears .gone f → f.byteAt 0 = 0 ∨ 8 < f.byteAt 0 →
        exec (.gone f) s = .next (State.afterHeard s
          ({ s.heardSteps NoticeKind.gone.code f with lc := { (s.heardSteps NoticeKind.gone.code f).lc with malformed := count (s.heardSteps NoticeKind.gone.code f).lc.malformed } })))
  ∧ (∀ (s : State) (f : Frame) (c : StateContent),
        s.hears .state f → stateFields f = some c →
        exec (.state f) s = .next (State.afterHeard s ((s.heardSteps NoticeKind.state.code f).setPeer f.origin.toNat
          { (s.heardSteps NoticeKind.state.code f).peer f.origin.toNat with last := some c })))
  ∧ (∀ (s : State) (f : Frame),
        s.hears .state f → stateFields f = none →
        exec (.state f) s = .next (State.afterHeard s
          ({ s.heardSteps NoticeKind.state.code f with lc := { (s.heardSteps NoticeKind.state.code f).lc with malformed := count (s.heardSteps NoticeKind.state.code f).lc.malformed } })))
  ∧ (∀ (s : State) (f : Frame) (c : StateContent),
        s.hearsEcho .state f → stateFields f = some c →
        exec (.state f) s = .next (State.afterHeard s (s.heardSteps NoticeKind.state.code f)))

/-- R149, R150, R156, R157, R90: hearing without acting, refusal, DORMANT and the station clash. -/
def Obligations.NoticesHeardOnly : Prop :=
  (∀ (s : State) (f : Frame),
        s.hears .reprint f →
        exec (.reprint f) s = .next (State.afterHeard s (s.heardSteps NoticeKind.reprint.code f)))
  ∧ (∀ (s : State) (f : Frame),
        s.hears .report f →
        exec (.report f) s = .next (State.afterHeard s (s.heardSteps NoticeKind.report.code f)))
  ∧ (∀ (s : State) (f : Frame) (kind : BitVec 6),
        s.bs.state ≠ .dormant → s.clashes kind f = false →
        exec (.unknownKindNotice kind f) s = .next (State.afterHeard s (s.heardSteps kind f)))
  ∧ (∀ (s : State) (f : Frame),
        s.bs.state ≠ .dormant →
        ∀ k : NoticeKind, ∀ c : Instr, (k, c) ∈ ([(.claim, .claim f), (.held, .held f), (.yield, .yield f), (.done,
          .done f), (.job, .job f), (.jobclose, .jobclose f), (.hello, .hello f), (.gone, .gone f), (.state, .state
          f), (.reprint, .reprint f), (.report, .report f), (.probe, .probe f), (.setact, .setactFinish f), (.setact,
          .setactYield f), (.setact, .setactRetry f), (.setact, .setactRefusedAsMalformed f), (.service, .serviceDrain
          f), (.service, .serviceStop f), (.service, .serviceResume f), (.service, .serviceRefusedAsMalformed f)] :
          List (NoticeKind × Instr)) → s.clashes k.code f = false → acceptable k f = false → exec c s = .next
          (State.afterHeard s
          { s.heardSteps k.code f with lc := { (s.heardSteps k.code f).lc with malformed := count (s.heardSteps k.code f).lc.malformed } }))
  ∧ (∀ (s : State) (f : Frame) (kind : BitVec 6),
        s.bs.state = .dormant →
        (∀ c ∈ ([.claim f, .held f, .yield f, .done f, .job f, .jobclose f, .hello f, .gone f, .state f, .reprint f,
          .report f, .probe f, .setactFinish f, .setactYield f, .setactRetry f, .setactRefusedAsMalformed f,
          .serviceDrain f, .serviceStop f, .serviceResume f, .serviceRefusedAsMalformed f, .unknownKindNotice kind f]
          : List Instr), exec c s = .next s)
          ∧ ∀ (x : Straps) (v : Sensors), exec (.serviceRestart f x v) s = .next s)
  ∧ (∀ (s : State) (f : Frame),
        s.bs.state ≠ .dormant → s.bs.state ≠ .fault .clash → s.setTableSound →
        ∀ k : NoticeKind, ∀ c : Instr, (k, c) ∈ ([(.claim, .claim f), (.held, .held f), (.yield, .yield f), (.done,
          .done f), (.job, .job f), (.jobclose, .jobclose f), (.hello, .hello f), (.gone, .gone f), (.state, .state
          f), (.reprint, .reprint f), (.report, .report f), (.probe, .probe f), (.setact, .setactFinish f), (.setact,
          .setactYield f), (.setact, .setactRetry f), (.setact, .setactRefusedAsMalformed f), (.service, .serviceDrain
          f), (.service, .serviceStop f), (.service, .serviceResume f), (.service, .serviceRefusedAsMalformed f)] :
          List (NoticeKind × Instr)) → s.clashes k.code f = true → ∃ t, exec c s = .next t
          ∧ t.bs.state = .fault .clash
          ∧ t.bs.seen.clash = true
          ∧ t.cu.late = []
          ∧ t.cu.backlog = []
          ∧ t.cu.waiting = []
          ∧ t.lc.silence = false
          ∧ t.cu.foreign = s.cu.foreign
          ∧ (∀ e ∈ t.lc.urgent, e.notice.isHeldOrYield = true → e.withdrawn = true)
          ∧ ∀ r ∈ t.co.sets, t.outlasts r)
  ∧ (∀ (s : State) (f : Frame),
        s.bs.state = .fault .clash →
        ∀ k : NoticeKind, ∀ c : Instr, (k, c) ∈ ([(.claim, .claim f), (.held, .held f), (.yield, .yield f), (.done,
          .done f), (.job, .job f), (.jobclose, .jobclose f), (.hello, .hello f), (.gone, .gone f), (.state, .state
          f), (.reprint, .reprint f), (.report, .report f), (.probe, .probe f), (.setact, .setactFinish f), (.setact,
          .setactYield f), (.setact, .setactRetry f), (.setact, .setactRefusedAsMalformed f), (.service, .serviceDrain
          f), (.service, .serviceStop f), (.service, .serviceResume f), (.service, .serviceRefusedAsMalformed f)] :
          List (NoticeKind × Instr)) → s.clashes k.code f = true → exec c s = .next s)

/-- R50 to R52, R90, R95, R113: the set actions. -/
def Obligations.SetactsTaken : Prop :=
  (∀ (s : State) (f : Frame) (r : SetRecord),
        s.hears .setact f → setactStation f = s.station → s.bs.state = .active ∨ s.bs.state = .draining →
        s.findSet (f.setAt 0) = some r → r.state = .collecting → s.setTableSound →
        ∃ t, exec (.setactFinish f) s = .next (State.afterHeard s t)
          ∧ (r.anyPage PageStatus.moving = true → ∃ q, t.findSet (f.setAt 0) = some q ∧ q.state = .finishing ∧
            q.isPartial = true ∧ q.waiting = .none)
          ∧ (r.anyPage PageStatus.moving = false → 1 ≤ r.placedCount → ∃ q, t.findSet (f.setAt 0) = some q ∧ q.state =
            .complete ∧ q.isPartial = true ∧ q.map = r.map)
          ∧ (r.anyPage PageStatus.moving = false → r.placedCount = 0 → t.givenUp (f.setAt 0))
          ∧ s.setsBut [(f.setAt 0)] t)
  ∧ (∀ (s : State) (f : Frame) (r : SetRecord),
        s.hears .setact f → setactStation f = s.station → s.bs.state = .service → s.findSet (f.setAt 0) = some r →
        s.recoverable r = true → s.setTableSound →
        ∃ t, exec (.setactFinish f) s = .next (State.afterHeard s t)
          ∧ (∃ q, t.findSet (f.setAt 0) = some q ∧ q.state = .complete ∧ q.isPartial = true ∧ q.map = r.map)
          ∧ (∀ e ∈ t.cu.foreign, e.id ≠ (f.setAt 0))
          ∧ s.setsBut [(f.setAt 0)] t)
  ∧ (∀ (s : State) (f : Frame),
        s.hears .setact f → setactStation f = s.station →
        (∀ r, s.findSet (f.setAt 0) = some r → ¬((s.bs.state = .active ∨ s.bs.state = .draining) ∧ r.state =
          .collecting) ∧ ¬(s.bs.state = .service ∧ s.recoverable r = true)) →
        exec (.setactFinish f) s = .next (State.afterHeard s
          ({ s.heardSteps NoticeKind.setact.code f with co := { s.co with refused := count s.co.refused } })))
  ∧ (∀ (s : State) (f : Frame) (r : SetRecord),
        s.hears .setact f → setactStation f = s.station → s.findSet (f.setAt 0) = some r →
        r.state = .claiming ∨ r.state = .collecting ∨ r.state = .finishing ∨ r.state = .complete ∧ s.transferInFlight
          r.id = false →
        s.setTableSound →
        ∃ t, exec (.setactYield f) s = .next (State.afterHeard s t)
          ∧ t.givenUp (f.setAt 0)
          ∧ t.co.surrenders = count s.co.surrenders
          ∧ s.setsBut [(f.setAt 0)] t
          ∧ (s.cu.waiting = [] → s.lc.urgent.length < 4 → r.state ≠ .claiming → t.lc.urgent = s.lc.urgent ++
            [TxEntry.fresh (.yield (f.setAt 0) .staff)]))
  ∧ (∀ (s : State) (f : Frame),
        s.hears .setact f → setactStation f = s.station →
        (∀ r, s.findSet (f.setAt 0) = some r → r.state = .inJaw ∨ r.state = .delivering ∨ r.state = .surrendering ∨
          r.state = .complete ∧ s.transferInFlight r.id = true) →
        exec (.setactYield f) s = .next (State.afterHeard s
          ({ s.heardSteps NoticeKind.setact.code f with co := { s.co with refused := count s.co.refused } })))
  ∧ (∀ (s : State) (f : Frame) (r : SetRecord),
        s.hears .setact f → setactStation f = s.station → s.findSet (f.setAt 0) = some r → r.state = .collecting →
        r.stranded = false → .absent ∈ r.map → s.lc.routine.length < 12 → s.setTableSound →
        ∃ t, exec (.setactRetry f) s = .next (State.afterHeard s t)
          ∧ t.findSet (f.setAt 0) = some { r with watch := 0, attempts := 0, countdown := r.policy.interval,
                                                  waiting := .none }
          ∧ t.lc.routine = s.lc.routine ++ [TxEntry.fresh (.reprint r.id ((r.wanted.filter (fun p => r.status p ==
            .absent)).take 8))]
          ∧ t.pw = { s.pw with reprintsSent := count s.pw.reprintsSent }
          ∧ s.sameBut [.co, .pw, .lc] t)
  ∧ (∀ (s : State) (f : Frame) (r : SetRecord),
        s.hears .setact f → setactStation f = s.station → s.findSet (f.setAt 0) = some r → r.state = .collecting →
        r.stranded = true → .absent ∈ r.map → s.wantState.lc.routine.length < 12 → s.setTableSound →
        ∃ t, exec (.setactRetry f) s = .next (State.afterHeard s t)
          ∧ t.findSet (f.setAt 0) = some { r with watch := 0, attempts := 0, stranded := false,
                                                  countdown := r.policy.interval, waiting := .none }
          ∧ t.lc.routine = s.wantState.lc.routine ++ [TxEntry.fresh (.reprint r.id ((r.wanted.filter (fun p =>
            r.status p == .absent)).take 8))]
          ∧ t.pw = { s.pw with reprintsSent := count s.pw.reprintsSent }
          ∧ s.setsBut [(f.setAt 0)] t
          ∧ s.sameBut [.co, .pw, .lc] t)
  ∧ (∀ (s : State) (f : Frame) (r : SetRecord),
        s.hears .setact f → setactStation f = s.station → s.findSet (f.setAt 0) = some r → r.state = .collecting →
        r.stranded = true → .absent ∈ r.map → s.lc.routine.length < 12 → 12 ≤ s.wantState.lc.routine.length →
        s.setTableSound →
        ∃ t, exec (.setactRetry f) s = .next (State.afterHeard s t)
          ∧ t.findSet (f.setAt 0) = some { r with watch := 0, attempts := 0, stranded := false, waiting := .retry }
          ∧ t.pw = { s.pw with deferred := count s.pw.deferred }
          ∧ t.lc.routine = s.wantState.lc.routine
          ∧ s.sameBut [.co, .pw, .lc] t)
  ∧ (∀ (s : State) (f : Frame) (r : SetRecord),
        s.hears .setact f → setactStation f = s.station → s.findSet (f.setAt 0) = some r → r.state = .collecting →
        .absent ∈ r.map → 12 ≤ s.lc.routine.length → s.setTableSound →
        ∃ t, exec (.setactRetry f) s = .next (State.afterHeard s t)
          ∧ t.findSet (f.setAt 0) = some { r with watch := 0, attempts := 0, stranded := false, waiting := .retry }
          ∧ t.pw = { s.pw with deferred := count s.pw.deferred }
          ∧ t.lc.routine = s.lc.routine
          ∧ s.sameBut [.co, .pw, .lc] t)
  ∧ (∀ (s : State) (f : Frame) (r : SetRecord),
        s.hears .setact f → setactStation f = s.station → s.findSet (f.setAt 0) = some r → r.state = .collecting →
        .absent ∉ r.map → s.setTableSound →
        ∃ t, exec (.setactRetry f) s = .next (State.afterHeard s t)
          ∧ t.findSet (f.setAt 0) = some { r with watch := 0, attempts := 0, stranded := false, waiting := .none }
          ∧ t.pw = s.pw
          ∧ s.sameBut [.co, .lc] t)
  ∧ (∀ (s : State) (f : Frame),
        s.hears .setact f → setactStation f = s.station →
        (∀ r, s.findSet (f.setAt 0) = some r → r.state ≠ .collecting) →
        exec (.setactRetry f) s = .next (State.afterHeard s
          ({ s.heardSteps NoticeKind.setact.code f with co := { s.co with refused := count s.co.refused } })))
  ∧ (∀ (s : State) (f : Frame),
        s.hears .setact f → setactStation f ≠ s.station →
        ∀ c ∈ ([.setactFinish f, .setactYield f, .setactRetry f, .setactRefusedAsMalformed f] : List Instr), exec c s
          = .next (State.afterHeard s (s.heardSteps NoticeKind.setact.code f)))
  ∧ (∀ (s : State) (r : SetRecord),
        s.recoverable r = true ↔ r.state = .surrendering
          ∧ r.bin ≠ none
          ∧ .placed ∈ r.map
          ∧ (∀ x ∈ r.map, x = .absent ∨ x = .placed)
          ∧ ∀ c m, s.carriageInFlight ≠ some (.unload r.id c m))
  ∧ (∀ (s : State) (f : Frame),
        s.hears .setact f → setactStation f = s.station →
        exec (.setactRefusedAsMalformed f) s = .next (State.afterHeard s
          ({ s.heardSteps NoticeKind.setact.code f with lc := { (s.heardSteps NoticeKind.setact.code f).lc with malformed := count (s.heardSteps NoticeKind.setact.code f).lc.malformed } })))

/-- R163, each taken command with the bay state its result names (R164, R165, R168), and the sets that STOP surrenders with
their YIELDs (R92 to R96). Its refusals hold in every bay state but DORMANT; the heard mark of R167, and with it the order of
a RESTART and a rejoin, is State.afterHeard (log 14). -/
def Obligations.ServiceTaken : Prop :=
  (∀ (s : State) (f : Frame),
        s.hears .service f → serviceStation f = s.station → s.bs.state = .active →
        ∃ t, exec (.serviceDrain f) s = .next (State.afterHeard s t)
          ∧ (t.bs.state = if s.co.sets = [] then .service else .draining)
          ∧ t.bs.refused = s.bs.refused
          ∧ s.sameBut [.lc, .bs] t)
  ∧ (∀ (s : State) (f : Frame),
        s.hears .service f → serviceStation f = s.station → s.bs.state = .active ∨ s.bs.state = .draining →
        s.setTableSound →
        ∃ t, exec (.serviceStop f) s = .next (State.afterHeard s t)
          ∧ t.bs.state = .service
          ∧ t.bs.refused = s.bs.refused
          ∧ s.surrendersAll t (some .service))
  ∧ (∀ (s : State) (f : Frame),
        s.hears .service f → serviceStation f = s.station → s.bs.state = .draining ∨ s.bs.state = .service →
        ∃ t, exec (.serviceResume f) s = .next (State.afterHeard s t)
          ∧ t.bs = { s.bs with state := .active, lamp := .on }
          ∧ s.sameBut [.lc, .bs] t)
  ∧ (∀ (s : State) (f : Frame) (x : Straps) (v : Sensors),
        acceptable .service f = true → f.origin.toNat ≠ s.station → serviceStation f = s.station →
        s.bs.state = .service ∨ s.bs.state = .fault .gate ∨ s.bs.state = .fault .carriage ∨ s.bs.state = .fault
          .linkLost ∨ s.bs.state = .fault .expelled ∨ s.bs.state = .fault .clash →
        ∃ p, exec (.powerOnReset x v) s = .next p
          ∧ exec (.serviceRestart f x v) s = .next { p with sc := { p.sc with staples := s.sc.staples,
                                                                              faultedMark := s.sc.faultedMark,
                                                                              emptyMark := s.sc.emptyMark } })
  ∧ (∀ (s : State) (f : Frame),
        s.hears .service f → serviceStation f = s.station → s.bs.state ≠ .active →
        exec (.serviceDrain f) s = .next (State.afterHeard s
          ({ s.heardSteps NoticeKind.service.code f with bs := { s.bs with refused := countByte s.bs.refused } })))
  ∧ (∀ (s : State) (f : Frame),
        s.hears .service f → serviceStation f = s.station → s.bs.state ≠ .active → s.bs.state ≠ .draining →
        exec (.serviceStop f) s = .next (State.afterHeard s
          ({ s.heardSteps NoticeKind.service.code f with bs := { s.bs with refused := countByte s.bs.refused } })))
  ∧ (∀ (s : State) (f : Frame),
        s.hears .service f → serviceStation f = s.station → s.bs.state ≠ .draining → s.bs.state ≠ .service →
        exec (.serviceResume f) s = .next (State.afterHeard s
          ({ s.heardSteps NoticeKind.service.code f with bs := { s.bs with refused := countByte s.bs.refused } })))
  ∧ (∀ (s : State) (f : Frame) (x : Straps) (v : Sensors),
        s.hears .service f → serviceStation f = s.station →
        s.bs.state = .joining ∨ s.bs.state = .active ∨ s.bs.state = .draining →
        exec (.serviceRestart f x v) s = .next (State.afterHeard s
          ({ s.heardSteps NoticeKind.service.code f with bs := { s.bs with refused := countByte s.bs.refused } })))
  ∧ (∀ (s : State) (f : Frame) (x : Straps) (v : Sensors),
        s.hears .service f → serviceStation f ≠ s.station →
        ∀ c ∈ ([.serviceDrain f, .serviceStop f, .serviceResume f, .serviceRestart f x v, .serviceRefusedAsMalformed
          f] : List Instr), exec c s = .next (State.afterHeard s (s.heardSteps NoticeKind.service.code f)))
  ∧ (∀ (s : State) (f : Frame),
        s.hears .service f → serviceStation f = s.station →
        exec (.serviceRefusedAsMalformed f) s = .next (State.afterHeard s
          ({ s.heardSteps NoticeKind.service.code f with lc := { (s.heardSteps NoticeKind.service.code f).lc with malformed := count (s.heardSteps NoticeKind.service.code f).lc.malformed } })))

/-- R160, R161 and the reset values of each block. The straps and sensors as operands are the model's reading (log 21),
and the STATE before the HELLO its choice (log 13). -/
def Obligations.ResetReadsStraps : Prop :=
  (∀ (s : State) (x : Straps) (v : Sensors),
        x.good = false →
        exec (.powerOnReset x v) s = .next
          ({ State.reset with co := { State.reset.co with bins := List.replicate (4 * (x.bins.toNat + 1)) .available },
                              hr := { State.reset.hr with pockets := List.replicate (8 * (x.rack.toNat + 1)) .free },
                              dc := { State.reset.dc with pockets := List.replicate (2 * (x.delivery.toNat + 1)) Pocket.reset },
                              bs := { State.reset.bs with straps := x, lamp := .blinkFast }, pending := s.pending }))
  ∧ (∀ (x : Straps),
        x.good = true ↔ ((x.station.getLsbD 0).toNat + (x.station.getLsbD 1).toNat + (x.station.getLsbD 2).toNat +
          (x.station.getLsbD 3).toNat + (x.bins.getLsbD 0).toNat + (x.bins.getLsbD 1).toNat + x.rack.toNat +
          x.delivery.toNat + x.parity.toNat) % 2 = 1
          ∧ 1 ≤ x.station.toNat
          ∧ x.station.toNat ≤ 8)
  ∧ (∀ (s : State) (x : Straps) (v : Sensors),
        x.good = true →
        ∃ t, exec (.powerOnReset x v) s = .next t
          ∧ t.bs = { State.reset.bs with state := .joining, straps := x, join := .awaitingEcho, lamp := .blinkSlow }
          ∧ t.co =
            { State.reset.co with bins := (numbers (4 * (x.bins.toNat + 1))).map (fun b => if .bin b ∈ v.found then .occupied else .available) }
          ∧ t.hr =
            { State.reset.hr with pockets := (numbers (8 * (x.rack.toNat + 1))).map (fun k => if .rackPocket k ∈ v.found then .occupied else .free),
                                  inletOccupied := decide (.inlet ∈ v.found) }
          ∧ t.rf = { count := if v.feeder.toNat ≤ 64 then v.feeder.toNat else 64, onWay := 0, fillMissed := 0 }
          ∧ t.sc = { State.reset.sc with jawA := if .jaw .a ∈ v.found then .occupied else .free,
                                         jawB := if .jaw .b ∈ v.found then .occupied else .free }
          ∧ t.dc = { pockets := List.replicate (2 * (x.delivery.toNat + 1)) Pocket.reset, list := [] }
          ∧ t.lc = { State.reset.lc with routine := [TxEntry.fresh .state, TxEntry.fresh .hello], silence := true,
                                         cadence := true }
          ∧ t.ri = State.reset.ri ∧ t.gc = State.reset.gc ∧ t.jt = State.reset.jt ∧ t.cu = State.reset.cu ∧ t.pw =
            State.reset.pw ∧ t.pending = s.pending)

/-- R170 to R173: the answer to a PROBE, and the data of every item. That the routine queue figure of the LINK item counts the
REPORTs that wait, and not the one it stands in, is the model's choice (log 40). -/
def Obligations.ProbeAnswered : Prop :=
  (∀ (s : State) (f : Frame),
        s.hears .probe f → f.byteAt 0 / 16 = s.station → f.byteAt 0 % 16 ≤ 12 → s.lc.routine.length < 12 →
        exec (.probe f) s = .next (State.afterHeard s
          ({ s.heardSteps NoticeKind.probe.code f with lc := { (s.heardSteps NoticeKind.probe.code f).lc with routine := s.lc.routine ++ [TxEntry.fresh (.report (f.byteAt 0 % 16) (f.byteAt 1) ((s.itemData (f.byteAt 0 % 16) (f.byteAt 1)).getD []))] } })))
  ∧ (∀ (s : State) (f : Frame),
        s.hears .probe f → f.byteAt 0 / 16 = s.station → f.byteAt 0 % 16 ≤ 12 → 12 ≤ s.lc.routine.length →
        exec (.probe f) s = .next (State.afterHeard s
          ({ s.heardSteps NoticeKind.probe.code f with lc := { (s.heardSteps NoticeKind.probe.code f).lc with reportDropped := countByte s.lc.reportDropped } })))
  ∧ (∀ (s : State) (f : Frame),
        s.hears .probe f → f.byteAt 0 / 16 = s.station → 13 ≤ f.byteAt 0 % 16 →
        exec (.probe f) s = .next (State.afterHeard s
          ({ s.heardSteps NoticeKind.probe.code f with lc := { (s.heardSteps NoticeKind.probe.code f).lc with malformed := count (s.heardSteps NoticeKind.probe.code f).lc.malformed } })))
  ∧ (∀ (s : State) (f : Frame),
        s.hears .probe f → f.byteAt 0 / 16 ≠ s.station →
        exec (.probe f) s = .next (State.afterHeard s (s.heardSteps NoticeKind.probe.code f)))
  ∧ (∀ (s : State) (n i : Nat),
        1 ≤ i → n ∈ [0, 1, 2, 3, 4, 5, 6, 9] →
        s.itemData n i = none
          ∧ s.itemData 0 0 = some [byte s.station, byte s.bs.state.code, byte s.binsFitted, byte s.rackFitted, byte
            s.pocketsFitted, byte s.bs.seen.code, byte s.bs.refused, byte (s.ri.loopSize.getD 0), byte (s.jt.tableFull
            / 256), byte s.jt.tableFull])
  ∧ (∀ (s : State) (i : Nat),
        (s.co.sets.length ≤ i → s.itemData 12 i = none)
          ∧ (s.jt.jobs.length ≤ i → s.itemData 11 i = none)
          ∧ (i < s.co.sets.length → (s.itemData 12 i).isSome = true)
          ∧ (i + 1 = s.station → s.itemData 10 i = none)
          ∧ (2 ≤ i → s.itemData 7 i = none)
          ∧ (s.dc.pockets.length ≤ i → s.itemData 8 i = none)
          ∧ (s.lc.peers.length ≤ i → s.itemData 10 i = none))
  ∧ (∀ n : Nat,
        n ≤ 65535 →
        ∃ h l, word2 n = [h, l] ∧ h.toNat * 256 + l.toNat = n)
  ∧ (∀ s : State,
        s.itemData 1 0 = some (word2 s.ri.unreadable ++ word2 s.ri.readGap ++ word2 s.gc.lapsed ++ word2 s.gc.unmatched
          ++ word2 s.gc.late ++ [byte s.gc.tray])
          ∧ s.itemData 2 0 = some (word2 s.co.duplicate ++ word2 s.co.mismatch ++ word2 s.co.rackFull ++ word2
            s.co.refused ++ word2 s.co.surrenders ++ [byte s.co.sets.length, byte (s.co.bins.count .available)])
          ∧ s.itemData 4 0 = some (word2 s.cu.claimLost ++ word2 s.cu.lateClaims ++ word2 s.cu.foreignRefused ++ word2
            s.cu.conflicts ++ [byte s.cu.foreign.length, byte s.cu.late.length])
          ∧ s.itemData 5 0 = some ([byte s.rf.count, byte s.rf.onWay] ++ word2 s.rf.fillMissed ++ word2
            s.pw.reprintsSent ++ word2 s.pw.deferred ++ word2 s.pw.strandings ++ [byte (s.co.sets.countP (fun r =>
            r.state = .collecting ∧ r.stranded = true))])
          ∧ s.itemData 9 0 = some (word2 s.lc.malformed ++ word2 s.lc.dropped ++ word2 s.lc.spoiled ++ word2
            s.lc.presenceLost ++ [byte s.lc.reportDropped, byte s.lc.urgent.length, byte s.lc.routine.length]))
  ∧ (∀ s : State,
        s.hr.inlet.length ≤ 3 →
        ∃ k, s.itemData 3 0 = some [match s.hr.rack with | .idle => 0 | .busy _ => 1 | .outOfService => 2,
            byte s.hr.faults, byte (s.hr.pockets.count .free), byte (s.hr.pockets.count .occupied), k,
            byte s.hr.releases.length]
          ∧ k.getLsbD 7 = s.hr.inletOccupied
          ∧ k.toNat % 128 = s.hr.inlet.length)
  ∧ (∀ s : State,
        s.itemData 6 0 = some (word2 (match s.sc.staples with | none => 65535 | some n => n)
          ++ ([match s.headStatus with | .unknown => 0 | .ok => 1 | .low => 2 | .empty => 3 | .fault => 4] : List Byte)
          ++ word2 s.sc.misfires ++ word2 s.sc.headJams ++ [byte s.sc.jawFaults,
            match s.sc.carriage with | .idle => 0 | .busy _ _ => 1 | .faulted _ _ => 2,
            byte s.sc.carriageQueue.length, byte s.sc.doneList.length]))
  ∧ (∀ (s : State) (i : Nat) (x : JawState),
        i = 0 ∧ x = s.sc.jawA ∨ i = 1 ∧ x = s.sc.jawB →
        s.itemData 7 i = some (match x with
          | .free => [0, 0, 0, 0]
          | .loading d => [1, byte d.job] ++ word2 d.num
          | .holding d _ => [2, byte d.job] ++ word2 d.num
          | .occupied => [3, 0, 0, 0]
          | .outOfService d => [4, byte d.job] ++ word2 d.num))
  ∧ (∀ (s : State) (p : Nat) (x : Pocket),
        nth1 s.dc.pockets p = some x →
        ∃ k, s.itemData 8 (p - 1) = some ([byte (x.binding.getD 0), byte (x.last.getD 0)] ++ word2 x.committed
            ++ [byte x.refs, k])
          ∧ k.toNat < 64
          ∧ (k.getLsbD 5 = x.inFlight.isSome ∧ k.getLsbD 4 = decide (x.side = .right) ∧ k.getLsbD 3 = x.last.isSome
            ∧ k.getLsbD 2 = x.empty ∧ k.getLsbD 1 = x.blocked ∧ k.getLsbD 0 = x.full))
  ∧ (∀ (s : State) (p : Nat) (x : Peer),
        nth1 s.lc.peers p = some x → p ≠ s.station →
        ∃ k, s.itemData 10 (p - 1) = some ([k, byte (x.bins.getD 0)] ++ match x.last with
            | none => [0, 0, 0, 0]
            | some c => [byte c.bay, byte c.freeBins, byte c.head, byte c.stranded])
          ∧ k.toNat < 4
          ∧ k.getLsbD 1 = x.last.isSome
          ∧ k.getLsbD 0 = x.present)
  ∧ (∀ (s : State) (i : Nat) (r : JobRecord),
        s.jt.jobs[i]? = some r →
        ∃ k, s.itemData 11 i = some ([byte r.job, k] ++ r.label ++ word2 r.doneMap.length)
          ∧ k.toNat < 8
          ∧ k.getLsbD 2 = r.adopted
          ∧ k.toNat % 4 = (match r.state with | .opened => 0 | .closed => 1 | .complete => 2))
  ∧ (∀ (s : State) (i : Nat) (r : SetRecord),
        s.co.sets[i]? = some r →
        ∃ k, s.itemData 12 i = some ([byte r.id.job] ++ word2 r.id.num ++ [match r.state with
            | .claiming => 0 | .collecting => 1 | .finishing => 2 | .complete => 3 | .inJaw => 4 | .delivering => 5
            | .surrendering => 6,
            byte (r.bin.getD 0), byte r.pages, byte (r.map.count .placed), byte (r.map.count .absent), k,
            byte r.watch])
          ∧ k.toNat < 8
          ∧ k.getLsbD 2 = decide (r.order = .reverse)
          ∧ k.getLsbD 1 = r.isPartial
          ∧ k.getLsbD 0 = r.stranded)
  ∧ (∀ (s : State) (n i : Nat) (d : List Byte),
        s.bodyOf (.report n i d) = byte n :: byte i :: d)

/-- R146 to R149, R151, R154, R167: the line; and R82, R88, R94, R129, R151: what takes the place that this bay's own notice
leaves when it is heard. That an OFFER forms the frame at its first bit and starts nothing while a
frame of this bay is under way is log 6, the spoil mark log 20: the model's own. That a notice heard in a fault that
clears itself is handed on before the heard mark and the rejoin test is log 14. -/
def Obligations.FramesOnTheLine : Prop :=
  (∀ (s : State) (e : TxEntry) (rest : List TxEntry) (c : Option (BitVec 2 × BitVec 4)),
        s.bs.state ≠ .dormant → s.onLine = false → s.lc.urgent = e :: rest →
        (¬(∃ d, c = some d ∧ (d.1.toNat < e.notice.kind.cls.toNat ∨ d.1 = e.notice.kind.cls ∧ d.2.toNat <
          s.bs.straps.station.toNat))) →
        exec (.offer c) s = .next ({ s with lc := { s.lc with urgent := { e with attempts := e.attempts + 1,
                                                                                 onLine := some (s.frameOf e.notice) } :: rest } }))
  ∧ (∀ (s : State) (e : TxEntry) (rest : List TxEntry) (c : Option (BitVec 2 × BitVec 4)),
        s.bs.state ≠ .dormant → s.onLine = false → s.lc.urgent = [] → s.lc.routine = e :: rest →
        (¬(∃ d, c = some d ∧ (d.1.toNat < e.notice.kind.cls.toNat ∨ d.1 = e.notice.kind.cls ∧ d.2.toNat <
          s.bs.straps.station.toNat))) →
        exec (.offer c) s = .next ({ s with lc := { s.lc with routine := { e with attempts := e.attempts + 1,
                                                                                  onLine := some (s.frameOf e.notice) } :: rest } }))
  ∧ (∀ (s : State) (e : TxEntry) (c : Option (BitVec 2 × BitVec 4)),
        s.lc.urgent.head? = some e ∨ s.lc.urgent = [] ∧ s.lc.routine.head? = some e →
        ((∃ d, c = some d ∧ (d.1.toNat < e.notice.kind.cls.toNat ∨ d.1 = e.notice.kind.cls ∧ d.2.toNat <
          s.bs.straps.station.toNat))) →
        exec (.offer c) s = .next (s))
  ∧ (∀ (s : State) (c : Option (BitVec 2 × BitVec 4)),
        s.bs.state = .dormant ∨ s.onLine = true ∨ s.lc.urgent = [] ∧ s.lc.routine = [] →
        exec (.offer c) s = .next (s))
  ∧ (∀ (s : State) (e : TxEntry) (rest : List TxEntry),
        s.lc.urgent = e :: rest → e.onLine.isSome = true → e.withdrawn = false → e.attempts ≤ 7 →
        (∀ x ∈ rest ++ s.lc.routine, x.onLine = none) →
        exec .attemptSpoiled s = .next ({ s with lc := { s.lc with urgent := { e with onLine := none } :: rest,
                                                                   spoiled := count s.lc.spoiled } }))
  ∧ (∀ (s : State) (e : TxEntry) (rest : List TxEntry),
        s.lc.urgent = e :: rest → e.onLine.isSome = true → e.withdrawn = true ∨ 8 ≤ e.attempts → s.cu.waiting = [] →
        s.cu.backlog = [] → (∀ x ∈ rest ++ s.lc.routine, x.onLine = none) → e.notice.kind ≠ .gone →
        exec .attemptSpoiled s = .next ({ s with lc := { s.lc with urgent := rest, spoiled := count s.lc.spoiled,
                                                                   dropped := if e.withdrawn = true then s.lc.dropped else count s.lc.dropped } }))
  ∧ (∀ (s : State) (e : TxEntry) (rest : List TxEntry),
        s.lc.routine = e :: rest → e.onLine.isSome = true → e.withdrawn = false → e.attempts ≤ 7 →
        (∀ x ∈ s.lc.urgent ++ rest, x.onLine = none) →
        exec .attemptSpoiled s = .next ({ s with lc := { s.lc with routine := { e with onLine := none } :: rest,
                                                                   spoiled := count s.lc.spoiled } }))
  ∧ (∀ (s : State) (e : TxEntry) (rest : List TxEntry),
        s.lc.routine = e :: rest → e.onLine.isSome = true →
        e.withdrawn = true ∨ 8 ≤ e.attempts ∧ e.notice.kind ≠ .gone → s.sc.doneList = [] → s.lc.due = [] →
        (∀ x ∈ s.lc.urgent ++ rest, x.onLine = none) →
        exec .attemptSpoiled s = .next ({ s with lc := { s.lc with routine := rest, spoiled := count s.lc.spoiled,
                                                                   dropped := if e.withdrawn = true then s.lc.dropped else count s.lc.dropped } }))
  ∧ (∀ (s : State) (e : TxEntry) (rest : List TxEntry) (x : Nat),
        s.lc.routine = e :: rest → e.onLine.isSome = true → e.withdrawn = false → 8 ≤ e.attempts →
        e.notice = .gone x → s.sc.doneList = [] → s.lc.due = [] → (∀ x ∈ s.lc.urgent ++ rest, x.onLine = none) →
        exec .attemptSpoiled s = .next ({ s with lc := { s.lc with routine := rest, spoiled := count s.lc.spoiled,
                                                                   dropped := count s.lc.dropped,
                                                                   peers := if (s.peer x).present = true ∧ s.bs.state.linkWatch = true then set1 s.lc.peers x { s.peer x with timer := true } else s.lc.peers } }))
  ∧ (∀ (s : State),
        (∀ x ∈ s.lc.urgent ++ s.lc.routine, x.onLine = none) →
        exec .attemptSpoiled s = .next (s))
  ∧ (∀ (s : State) (kind : BitVec 6) (f : Frame) (ck : BitVec 16),
        s.bs.state ≠ .dormant →
        exec (.badFrameCheck kind f ck) s = .next
          ({ s with lc := { s.lc with spoilMark := decide (frameCheck kind f ≠ ck) } }))
  ∧ (∀ (s : State) (kind : BitVec 6) (f : Frame) (ck : BitVec 16),
        s.bs.state = .dormant →
        exec (.badFrameCheck kind f ck) s = .next (s))
  ∧ (∀ (s : State) (kind : BitVec 6) (f : Frame) (x : Nat),
        x = f.origin.toNat → 1 ≤ x → x ≤ 8 → x ≠ s.station → s.ownAttempt kind f = false → s.lc.peers.length = 8 →
        (s.heardSteps kind f).peer x = { s.peer x with present := true, timer := s.bs.state.linkWatch }
          ∧ (∀ d ∈ (s.heardSteps kind f).lc.due, d.kind ≠ .gone x)
          ∧ (∀ e ∈ (s.heardSteps kind f).lc.routine, e.notice = .gone x → e.withdrawn = true)
          ∧ s.sameBut [.lc, .sc, .hr, .rf] (s.heardSteps kind f))
  ∧ (∀ (s : State) (kind : BitVec 6) (f : Frame),
        f.origin.toNat = 0 ∨ 9 ≤ f.origin.toNat → s.ownAttempt kind f = false →
        s.heardSteps kind f = { s with lc := { s.lc with spoilMark := false } })
  ∧ (∀ (s : State) (kind : BitVec 6) (f : Frame),
        s.bs.state = .fault .linkLost ∨ s.bs.state = .fault .expelled → s.clashes kind f = false →
        ∃ t, exec (.unknownKindNotice kind f) s = .next t
          ∧ (s.co.sets = [] → t.bs.state = .joining ∧ t.bs.join = .awaitingEcho ∧ t.lc.silence = true ∧ t.cu.foreign =
            [] ∧ t.cu.late = [])
          ∧ (s.co.sets ≠ [] → t.bs = { s.bs with heard := true }))
  ∧ (∀ (s t : State),
        s.bs.state ≠ .fault .linkLost ∧ s.bs.state ≠ .fault .expelled ∨ t.bs.state ≠ .fault .linkLost ∧ t.bs.state ≠
          .fault .expelled →
        State.afterHeard s t = t)
  ∧ (∀ (s t : State),
        s.bs.state = .fault .linkLost ∨ s.bs.state = .fault .expelled →
        t.bs.state = .fault .linkLost ∨ t.bs.state = .fault .expelled → t.co.sets ≠ [] →
        State.afterHeard s t = { t with bs := { t.bs with heard := true } })
  ∧ (∀ (s t : State),
        s.bs.state = .fault .linkLost ∨ s.bs.state = .fault .expelled →
        t.bs.state = .fault .linkLost ∨ t.bs.state = .fault .expelled → t.co.sets = [] →
        (State.afterHeard s t).bs = { t.bs with heard := true, state := .joining, lamp := .blinkSlow,
                                                join := .awaitingEcho }
          ∧ (State.afterHeard s t).cu = { t.cu with foreign := [], late := [], backlog := [],
                                                    waiting := t.cu.waiting.filter (fun w => decide (w ≠ .helds)) }
          ∧ (State.afterHeard s t).lc.peers = t.lc.peers.map (fun _ => Peer.absent)
          ∧ (State.afterHeard s t).lc.silence = true
          ∧ ((∃ e ∈ (State.afterHeard s t).lc.routine, e.notice = .hello) ∨ ∃ d ∈ (State.afterHeard s t).lc.due,
            d.kind = .hello)
          ∧ t.sameBut [.cu, .lc, .bs] (State.afterHeard s t))
  ∧ (∀ (s : State) (kind : BitVec 6) (f : Frame) (e : TxEntry) (rest : List TxEntry),
        s.lc.urgent = e :: rest → (∀ x ∈ rest ++ s.lc.routine, x.onLine = none) → f.origin.toNat = s.station →
        e.notice.kind.code = kind → e.onLine = some f →
        s.ownAttempt kind f = true
          ∧ (s.cu.waiting = [] ∨ 4 ≤ rest.length →
            s.heardSteps kind f = { s with lc := { s.lc with spoilMark := false, urgent := rest } }))
  ∧ (∀ (s : State) (kind : BitVec 6) (f : Frame) (e : TxEntry) (rest : List TxEntry) (i : SetId) (y : YieldReason)
      (ws : List Waiting),
        s.lc.urgent = e :: rest → (∀ x ∈ rest ++ s.lc.routine, x.onLine = none) → f.origin.toNat = s.station →
        e.notice.kind.code = kind → e.onLine = some f → rest.length = 3 → s.cu.waiting = .yield i y :: ws →
        s.heardSteps kind f = { s with
          lc := { s.lc with spoilMark := false, urgent := rest ++ [TxEntry.fresh (.yield i y)] }
          cu := { s.cu with
            waiting := ws
            late := if y = .late then s.cu.late.map (fun x => if x.id = i then { x with queued := true } else x)
              else s.cu.late } })
  ∧ (∀ (s : State) (kind : BitVec 6) (f : Frame) (e : TxEntry) (rest : List TxEntry) (ws : List Waiting)
      (live : List SetId),
        s.lc.urgent = e :: rest → (∀ x ∈ rest ++ s.lc.routine, x.onLine = none) → f.origin.toNat = s.station →
        e.notice.kind.code = kind → e.onLine = some f → rest.length = 3 → s.cu.waiting = .helds :: ws →
        live = s.cu.backlog.filter (fun i => i ∈ s.heldNow) →
        (live ≠ [] → s.heardSteps kind f = { s with
          lc := { s.lc with spoilMark := false, urgent := rest ++ [TxEntry.fresh (.held (live.take 4))] }
          cu := { s.cu with
            backlog := live.drop 4, waiting := if live.length ≤ 4 then ws else .helds :: ws } })
        ∧ (live = [] → s.heardSteps kind f
          = State.heardSteps { s with cu := { s.cu with backlog := [], waiting := ws } } kind f))
  ∧ (∀ (s : State) (kind : BitVec 6) (f : Frame) (e : TxEntry) (rest : List TxEntry),
        s.lc.routine = e :: rest → (∀ x ∈ s.lc.urgent ++ rest, x.onLine = none) → f.origin.toNat = s.station →
        e.notice.kind.code = kind → e.onLine = some f →
        s.ownAttempt kind f = true
          ∧ (s.lc.due = [] ∧ s.sc.doneList = [] ∨ 12 ≤ rest.length →
            s.heardSteps kind f = { s with lc := { s.lc with spoilMark := false, routine := rest } }))
  ∧ (∀ (s : State) (kind : BitVec 6) (f : Frame) (e : TxEntry) (rest : List TxEntry) (k : Due) (ks : List Due),
        s.lc.routine = e :: rest → (∀ x ∈ s.lc.urgent ++ rest, x.onLine = none) → f.origin.toNat = s.station →
        e.notice.kind.code = kind → e.onLine = some f → rest.length = 11 → s.lc.due = k :: ks →
        (∀ d ∈ s.sc.doneList.head?, k.since < d.since) →
        s.heardSteps kind f = { s with lc := { s.lc with
          spoilMark := false
          due := ks
          routine := rest ++ [TxEntry.fresh (match k.kind with | .state => .state | .hello => .hello | .gone x => .gone x)]
          cadence := if k.kind = .state then true else s.lc.cadence } })
  ∧ (∀ (s : State) (kind : BitVec 6) (f : Frame) (e : TxEntry) (rest : List TxEntry) (d : DoneWaiting)
      (ds : List DoneWaiting),
        s.lc.routine = e :: rest → (∀ x ∈ s.lc.urgent ++ rest, x.onLine = none) → f.origin.toNat = s.station →
        e.notice.kind.code = kind → e.onLine = some f → rest.length = 11 → s.sc.doneList = d :: ds →
        (∀ k ∈ s.lc.due.head?, d.since ≤ k.since) →
        exec .carriageStart { s with
          sc := { s.sc with doneList := ds }
          lc := { s.lc with spoilMark := false, routine := rest ++ [TxEntry.fresh (.done d.notice)] } }
          = .next (s.heardSteps kind f))

/-- R82, R90, R92 to R96, R129, R151, R152, R154, R155, R162, R166: timers and refills. The cadence timer running on after an
expiry that queues no STATE is the model's reading (log 24), and an expiry of a stopped timer log 2. -/
def Obligations.TimersAndRefills : Prop :=
  (∀ (s : State) (x : Nat),
        (s.peer x).timer = true → s.lc.routine.length < 12 →
        exec (.presenceTimerExpiry x) s = .next
          ({ s with lc := { s.lc with peers := set1 s.lc.peers x { s.peer x with timer := false },
                                      presenceLost := count s.lc.presenceLost,
                                      routine := s.lc.routine ++ [TxEntry.fresh (.gone x)] } }))
  ∧ (∀ (s : State) (x : Nat),
        (s.peer x).timer = true → 12 ≤ s.lc.routine.length →
        ∃ t, exec (.presenceTimerExpiry x) s = .next t
          ∧ t.lc.routine = s.lc.routine
          ∧ (∃ d ∈ t.lc.due, d.kind = .gone x)
          ∧ t.lc.presenceLost = count s.lc.presenceLost
          ∧ s.sameBut [.lc] t)
  ∧ (∀ (s : State) (x : Nat),
        (s.peer x).timer = false →
        exec (.presenceTimerExpiry x) s = .next (s))
  ∧ (∀ (s : State),
        s.lc.silence = true → s.bs.state.faultEnters .linkLost = true → s.setTableSound →
        ∃ t, exec .silenceTimerExpiry s = .next t
          ∧ t.bs.state = .fault .linkLost
          ∧ t.bs.seen.linkLost = true
          ∧ t.bs.heard = false
          ∧ t.lc.silence = false
          ∧ t.cu.late = []
          ∧ t.cu.backlog = []
          ∧ t.cu.waiting = []
          ∧ (∀ e ∈ t.lc.urgent, e.notice.isHeldOrYield = true → e.withdrawn = true)
          ∧ (∀ p ∈ t.lc.peers, p.timer = false)
          ∧ s.surrendersAll t none)
  ∧ (∀ (s : State),
        s.lc.silence = true → s.bs.state = .fault .gate ∨ s.bs.state = .fault .carriage →
        exec .silenceTimerExpiry s = .next
          ({ s with bs := { s.bs with seen := { s.bs.seen with linkLost := true } } }))
  ∧ (∀ (s : State),
        s.lc.silence = false →
        exec .silenceTimerExpiry s = .next (s))
  ∧ (∀ (s : State),
        s.lc.cadence = true → s.bs.state ≠ .dormant →
        (∀ e ∈ s.lc.routine, e.notice = .state → e.onLine.isSome = true) → s.lc.routine.length < 12 →
        exec .cadenceTimerExpiry s = .next
          ({ s with lc := { s.lc with routine := s.lc.routine ++ [TxEntry.fresh .state] } }))
  ∧ (∀ (s : State),
        s.lc.cadence = true → (∃ e ∈ s.lc.routine, e.notice = .state ∧ e.onLine = none) →
        exec .cadenceTimerExpiry s = .next s)
  ∧ (∀ (s : State),
        s.lc.cadence = false →
        exec .cadenceTimerExpiry s = .next (s))
  ∧ (∀ (s : State),
        s.bs.join = .listening →
        ∃ t, exec .joinTimerExpiry s = .next t
          ∧ t.bs = { s.bs with state := .active, lamp := .on, join := .stopped }
          ∧ s.sameBut [.bs, .lc] t)
  ∧ (∀ (s : State),
        s.bs.join = .awaitingEcho →
        ∃ t, exec .joinTimerExpiry s = .next t
          ∧ ((∃ e ∈ t.lc.routine, e.notice = .hello) ∨ (∃ d ∈ t.lc.due, d.kind = .hello))
          ∧ s.sameBut [.lc] t)
  ∧ (∀ (s : State),
        s.bs.join = .stopped →
        exec .joinTimerExpiry s = .next (s))
  ∧ (∀ (s : State) (id : SetId) (y : YieldReason),
        s.cu.waiting = [.yield id y] → s.lc.urgent.length < 4 →
        ∃ t, exec .waitingNoticeQueued s = .next t
          ∧ t.cu.waiting = []
          ∧ t.lc.urgent = s.lc.urgent ++ [TxEntry.fresh (.yield id y)]
          ∧ s.sameBut [.cu, .lc] t)
  ∧ (∀ (s : State),
        s.cu.waiting = [] ∨ 4 ≤ s.lc.urgent.length →
        exec .waitingNoticeQueued s = .next (s))
  ∧ (∀ (s : State) (d : DoneWaiting) (ds : List DoneWaiting),
        s.lc.routine.length < 12 → s.sc.doneList = d :: ds → (∀ k ∈ s.lc.due, d.since ≤ k.since) →
        s.sc.carriage ≠ .idle ∨ s.sc.carriageQueue = [] →
        exec .doneQueued s = .next ({ s with sc := { s.sc with doneList := ds },
                                             lc := { s.lc with routine := s.lc.routine ++ [TxEntry.fresh (.done d.notice)] } }))
  ∧ (∀ (s : State) (k : Due) (ks : List Due),
        s.lc.routine.length < 12 → s.lc.due = k :: ks → (∀ d ∈ s.sc.doneList, k.since < d.since) →
        exec .dueNoticeQueued s = .next ({ s with lc := { s.lc with due := ks,
                                                                    routine := s.lc.routine ++ [TxEntry.fresh (match k.kind with | .state => .state | .hello => .hello | .gone x => .gone x)],
                                                                    cadence := if k.kind = .state then true else s.lc.cadence } }))
  ∧ (∀ (s : State),
        12 ≤ s.lc.routine.length ∨ s.sc.doneList = [] ∧ s.lc.due = [] →
        exec .doneQueued s = .next s ∧ exec .dueNoticeQueued s = .next s)
  ∧ (∀ (s : State),
        s.lc.cadence = true → s.bs.state ≠ .dormant →
        (∀ e ∈ s.lc.routine, e.notice = .state → e.onLine.isSome = true) → 12 ≤ s.lc.routine.length →
        ∃ t, exec .cadenceTimerExpiry s = .next t
          ∧ (∃ d ∈ t.lc.due, d.kind = .state)
          ∧ t.lc.routine = s.lc.routine
          ∧ t.lc.cadence = true
          ∧ s.sameBut [.lc] t)
end

