-- ==== Sys2Proof/Laws/Frames.lean ====
section
/-! SUPPORT. The frame of each shared operation, said once: the blocks it may change. Frames compose by `sameBut_trans` and
widen by `sameBut_mono`; `sameBut_foldl` carries one over a fold. -/

namespace Sys2Proof.Machine

theorem sameBut_refl (l : List Block) (s : State) : s.sameBut l s := by simp [State.sameBut]

theorem sameBut_trans {l : List Block} {s t u : State} (h : s.sameBut l t) (k : t.sameBut l u) : s.sameBut l u := by
  obtain ⟨h1, h2, h3, h4, h5, h6, h7, h8, h9, h10, h11, h12, h13⟩ := h
  obtain ⟨k1, k2, k3, k4, k5, k6, k7, k8, k9, k10, k11, k12, k13⟩ := k
  exact ⟨fun m => (k1 m).trans (h1 m), fun m => (k2 m).trans (h2 m), fun m => (k3 m).trans (h3 m),
    fun m => (k4 m).trans (h4 m), fun m => (k5 m).trans (h5 m), fun m => (k6 m).trans (h6 m),
    fun m => (k7 m).trans (h7 m), fun m => (k8 m).trans (h8 m), fun m => (k9 m).trans (h9 m),
    fun m => (k10 m).trans (h10 m), fun m => (k11 m).trans (h11 m), fun m => (k12 m).trans (h12 m),
    fun m => (k13 m).trans (h13 m)⟩

theorem sameBut_mono {l m : List Block} {s t : State} (h : s.sameBut l t) (sub : ∀ b ∈ l, b ∈ m) : s.sameBut m t := by
  obtain ⟨h1, h2, h3, h4, h5, h6, h7, h8, h9, h10, h11, h12, h13⟩ := h
  exact ⟨fun n => h1 (n ∘ sub _), fun n => h2 (n ∘ sub _), fun n => h3 (n ∘ sub _), fun n => h4 (n ∘ sub _),
    fun n => h5 (n ∘ sub _), fun n => h6 (n ∘ sub _), fun n => h7 (n ∘ sub _), fun n => h8 (n ∘ sub _),
    fun n => h9 (n ∘ sub _), fun n => h10 (n ∘ sub _), fun n => h11 (n ∘ sub _), fun n => h12 (n ∘ sub _),
    fun n => h13 (n ∘ sub _)⟩

theorem sameBut_foldl {α : Type} {l : List Block} (f : State → α → State) (h : ∀ t x, State.sameBut l t (f t x)) :
    ∀ (xs : List α) (s : State), s.sameBut l (xs.foldl f s)
  | [], s => sameBut_refl l s
  | x :: xs, s => sameBut_trans (h s x) (sameBut_foldl f h xs (f s x))

/-- A frame that does not list the queue keeps it. -/
theorem State.sameBut.queue {l : List Block} {s t : State} (h : s.sameBut l t) (n : Block.queue ∉ l) :
    t.pending = s.pending := h.2.2.2.2.2.2.2.2.2.2.2.2 n

/-! ### Ops.lean -/

variable (s : State)

theorem addDue_frame (k : DueKind) : s.sameBut [.lc] (s.addDue k) := by
  unfold State.addDue; split <;> simp [State.sameBut]

theorem wantState_frame : s.sameBut [.lc] s.wantState := by
  unfold State.wantState State.pushState
  repeat' split
  all_goals first | exact addDue_frame _ _ | simp [State.sameBut]

theorem wantHello_frame : s.sameBut [.lc] s.wantHello := by
  unfold State.wantHello State.pushRoutine
  repeat' split
  all_goals first | exact addDue_frame _ _ | simp [State.sameBut]

theorem wantGone_frame (x : Nat) : s.sameBut [.lc] (s.wantGone x) := by
  unfold State.wantGone State.pushRoutine
  split
  · simp [State.sameBut]
  · exact addDue_frame _ _

/-- R152: the report of a change touches the link alone. -/
theorem tell_frame (old new : State) : new.sameBut [.lc] (State.tell old new) := by
  unfold State.tell
  split
  · exact sameBut_refl _ _
  · exact wantState_frame _

theorem tell_frame_of {l : List Block} {old new : State} (h : old.sameBut l new) (m : Block.lc ∈ l) :
    old.sameBut l (State.tell old new) :=
  sameBut_trans h (sameBut_mono (tell_frame old new) (by simpa using m))

theorem setBin_frame (b : Nat) (x : BinState) : s.sameBut [.co, .lc] (s.setBin b x) :=
  tell_frame_of (by simp [State.sameBut]) (by decide)

theorem freeBin_frame (b : Nat) : s.sameBut [.co, .lc] (s.freeBin b) := by
  unfold State.freeBin
  split
  · exact setBin_frame _ _ _
  · exact sameBut_refl _ _

theorem changePocket_frame (p : Nat) (f : Pocket → Pocket) : s.sameBut [.dc, .lc] (s.changePocket p f) :=
  tell_frame_of (by simp [State.sameBut]) (by decide)

theorem unbindingTest_frame (p : Nat) : s.sameBut [.dc, .lc] (s.unbindingTest p) := by
  unfold State.unbindingTest
  repeat' split
  all_goals first | exact changePocket_frame _ _ _ | exact sameBut_refl _ _

theorem unbindJob_frame (j : Nat) : s.sameBut [.dc, .lc] (s.unbindJob j) :=
  sameBut_foldl _ (fun t p => by
    split
    · exact unbindingTest_frame _ _
    · exact sameBut_refl _ _) _ _

theorem putSet_frame (r : SetRecord) : s.sameBut [.co, .dc, .lc] (s.putSet r) := by
  unfold State.putSet
  split
  · exact sameBut_refl _ _
  · exact tell_frame_of (by simp [State.sameBut]) (by decide)

theorem updSet_frame (id : SetId) (f : SetRecord → SetRecord) : s.sameBut [.co, .dc, .lc] (s.updSet id f) := by
  unfold State.updSet
  split
  · exact sameBut_refl _ _
  · exact putSet_frame _ _

theorem setPage_frame (id : SetId) (p : Nat) (x : PageStatus) : s.sameBut [.co, .dc, .lc] (s.setPage id p x) :=
  updSet_frame _ _ _

theorem progress_frame (id : SetId) : s.sameBut [.co, .dc, .lc] (s.progress id) := updSet_frame _ _ _

theorem sighting_frame (id : SetId) : s.sameBut [.co, .dc, .lc] (s.sighting id) := updSet_frame _ _ _

theorem addSet_frame (r : SetRecord) : s.sameBut [.co, .dc, .lc] (s.addSet r) :=
  tell_frame_of (by simp [State.sameBut]) (by decide)

theorem dropSet_frame (r : SetRecord) : s.sameBut [.co, .dc, .lc] (s.dropSet r) :=
  sameBut_trans (tell_frame_of (by simp [State.sameBut]) (by decide))
    (sameBut_mono (unbindingTest_frame _ _) (by decide))

theorem putJob_frame (r : JobRecord) : s.sameBut [.jt] (s.putJob r) := by simp [State.sameBut, State.putJob]

theorem announceJob_frame (r : JobRecord) : s.sameBut [.jt] (s.announceJob r) := by
  simp [State.sameBut, State.announceJob]

theorem addDone_frame (id : SetId) : s.sameBut [.jt, .dc, .lc] (s.addDone id) := by
  unfold State.addDone
  split
  · exact sameBut_refl _ _
  · split
    · exact sameBut_refl _ _
    · dsimp only
      split
      · exact sameBut_mono (putJob_frame _ _) (by decide)
      · exact sameBut_trans (sameBut_mono (putJob_frame _ _) (by decide))
          (sameBut_mono (unbindJob_frame _ _) (by decide))

/-! ### Units.lean -/

theorem arbiterIssue_frame : s.sameBut [.hr, .rf] s.arbiterIssue := by
  unfold State.arbiterIssue
  repeat' split
  all_goals simp [State.sameBut]

theorem setJaw_frame (j : JawName) (x : JawState) : s.sameBut [.sc] (s.setJaw j x) := by
  cases j <;> simp [State.sameBut, State.setJaw]

theorem carriageIssue_frame : s.sameBut [.sc, .rf] s.carriageIssue := by
  unfold State.carriageIssue
  repeat' split
  all_goals first
    | exact sameBut_refl _ _
    | exact sameBut_trans (by simp [State.sameBut]) (sameBut_mono (setJaw_frame _ _ _) (by decide))
    | simp [State.sameBut]

theorem arbiter_frame : s.sameBut [.hr, .rf, .sc] s.arbiter := by
  unfold State.arbiter
  dsimp only
  split
  · exact sameBut_mono (arbiterIssue_frame _) (by decide)
  · exact sameBut_trans (sameBut_mono (arbiterIssue_frame _) (by decide))
      (sameBut_mono (carriageIssue_frame _) (by decide))

theorem startTest_frame : s.sameBut [.hr, .rf, .sc] s.startTest := by
  unfold State.startTest
  dsimp only
  split
  · exact sameBut_mono (carriageIssue_frame _) (by decide)
  · exact sameBut_trans (sameBut_mono (carriageIssue_frame _) (by decide))
      (sameBut_mono (arbiterIssue_frame _) (by decide))

theorem roomReport_frame : s.sameBut [.hr, .rf, .sc] s.roomReport :=
  sameBut_trans (arbiter_frame _) (startTest_frame _)

theorem queueRelease_frame (r : Release) : s.sameBut [.hr, .rf, .sc] (s.queueRelease r) :=
  sameBut_trans (by simp [State.sameBut]) (arbiter_frame _)

theorem queueCarriage_frame (r : CarriageRequest) : s.sameBut [.hr, .rf, .sc] (s.queueCarriage r) := by
  unfold State.queueCarriage
  dsimp only
  split
  · exact sameBut_trans (by simp [State.sameBut]) (startTest_frame _)
  · simp [State.sameBut]

theorem withdrawCarriage_frame (id : SetId) (u : Bool) : s.sameBut [.hr, .rf, .sc] (s.withdrawCarriage id u) := by
  unfold State.withdrawCarriage
  dsimp only
  split
  · exact sameBut_trans (by simp [State.sameBut]) (startTest_frame _)
  · simp [State.sameBut]

theorem headIssue_frame : s.sameBut [.sc] s.headIssue := by
  unfold State.headIssue
  repeat' split
  all_goals simp [State.sameBut]

theorem deliverTest_frame (p : Nat) : s.sameBut [.dc] (s.deliverTest p) := by
  unfold State.deliverTest
  repeat' split
  all_goals simp [State.sameBut]

theorem deliverTests_frame : s.sameBut [.dc] s.deliverTests := sameBut_foldl _ deliverTest_frame _ _

theorem fixOutcome_frame (j : JawName) (o : SetOutcome) : s.sameBut [.sc] (s.fixOutcome j o) := by
  unfold State.fixOutcome
  split
  · exact setJaw_frame _ _ _
  · exact sameBut_refl _ _

theorem handOver_frame (j : JawName) (id : SetId) (o : SetOutcome) :
    s.sameBut [.co, .dc, .lc, .sc] (s.handOver j id o) := by
  unfold State.handOver
  split
  · exact sameBut_refl _ _
  · rename_i r _
    refine sameBut_trans (sameBut_mono (putSet_frame s (r.toState .delivering)) (by decide)) ?_
    refine sameBut_trans (sameBut_mono (fixOutcome_frame _ j o) (by decide)) ?_
    exact sameBut_trans (by simp [State.sameBut]) (sameBut_mono (deliverTests_frame _) (by decide))

/-! ### Link.lean -/

theorem queueDone_frame : s.sameBut [.sc, .hr, .rf, .lc] s.queueDone := by
  unfold State.queueDone
  split
  · exact sameBut_refl _ _
  · exact sameBut_trans (by simp [State.sameBut, State.pushRoutine]) (sameBut_mono (startTest_frame _) (by decide))

theorem queueDue_frame : s.sameBut [.lc] s.queueDue := by
  unfold State.queueDue
  repeat' split
  all_goals simp [State.sameBut, State.pushState, State.pushRoutine]

theorem fillPlace_frame : s.sameBut [.sc, .hr, .rf, .lc] s.fillPlace := by
  unfold State.fillPlace
  repeat' split
  · exact sameBut_mono (queueDue_frame _) (by decide)
  · exact queueDone_frame _
  · exact sameBut_refl _ _

theorem fillPlaces_frame : ∀ (n : Nat) (s : State), s.sameBut [.sc, .hr, .rf, .lc] (State.fillPlaces n s)
  | 0, s => sameBut_refl _ s
  | n + 1, s => sameBut_trans (fillPlace_frame s) (fillPlaces_frame n _)

theorem refillRoutine_frame : s.sameBut [.sc, .hr, .rf, .lc] s.refillRoutine := fillPlaces_frame _ _

theorem joinDone_frame (d : DoneNotice) : s.sameBut [.sc, .hr, .rf, .lc] (s.joinDone d) := by
  unfold State.joinDone
  dsimp only
  split
  · exact sameBut_trans (by simp [State.sameBut]) (refillRoutine_frame _)
  · simp [State.sameBut]

theorem formHeld_frame (l : List Waiting) : s.sameBut [.cu, .lc] (s.formHeld l) := by
  unfold State.formHeld
  dsimp only
  split <;> simp [State.sameBut, State.pushUrgent]

theorem queueWaiting_frame : s.sameBut [.cu, .lc] s.queueWaiting := by
  unfold State.queueWaiting
  repeat' split
  all_goals first
    | exact formHeld_frame _ _
    | exact sameBut_refl _ _
    | simp [State.sameBut, State.pushUrgent]

theorem queueWaitings_frame : ∀ (n : Nat) (s : State), s.sameBut [.cu, .lc] (State.queueWaitings n s)
  | 0, s => sameBut_refl _ s
  | n + 1, s => sameBut_trans (queueWaiting_frame s) (queueWaitings_frame n _)

theorem refillUrgent_frame : s.sameBut [.cu, .lc] s.refillUrgent := queueWaitings_frame _ _

theorem dueYield_frame (id : SetId) (r : YieldReason) : s.sameBut [.cu, .lc] (s.dueYield id r) :=
  sameBut_trans (by simp [State.sameBut]) (refillUrgent_frame _)

theorem withdrawUrgent_frame (hit : Notice → Bool) : s.sameBut [.cu, .lc] (s.withdrawUrgent hit) := by
  unfold State.withdrawUrgent
  dsimp only
  split
  · simp [State.sameBut]
  · exact sameBut_trans (by simp [State.sameBut]) (refillUrgent_frame _)

theorem withdrawClaim_frame (id : SetId) : s.sameBut [.cu, .lc] (s.withdrawClaim id) := withdrawUrgent_frame _ _

theorem removeGone_frame (of : Nat → Bool) (q : List TxEntry) : s.sameBut [.sc, .hr, .rf, .lc] (s.removeGone of q) := by
  unfold State.removeGone
  dsimp only
  split
  · simp [State.sameBut]
  · exact sameBut_trans (by simp [State.sameBut]) (refillRoutine_frame _)

theorem cancelGone_frame (of : Nat → Bool) : s.sameBut [.sc, .hr, .rf, .lc] (s.cancelGone of) := removeGone_frame s of _

theorem yieldGone_frame (x : Nat) : s.sameBut [.sc, .hr, .rf, .lc] (s.yieldGone x) := removeGone_frame s _ _

theorem offerNotice_frame (c : Option (BitVec 2 × BitVec 4)) : s.sameBut [.lc] (s.offerNotice c) := by
  unfold State.offerNotice
  dsimp only
  repeat' split
  all_goals simp [State.sameBut]

theorem leaveLine_frame : s.sameBut [.cu, .sc, .hr, .rf, .lc] s.leaveLine := by
  unfold State.leaveLine
  dsimp only
  repeat' split
  · simp [State.sameBut]
  · exact sameBut_trans (by simp [State.sameBut]) (sameBut_mono (refillUrgent_frame _) (by decide))
  · exact sameBut_trans (by simp [State.sameBut]) (sameBut_mono (refillRoutine_frame _) (by decide))
  · refine sameBut_trans ?_ (sameBut_mono (refillRoutine_frame _) (by decide))
    exact sameBut_trans (by simp [State.sameBut]) (sameBut_mono (refillUrgent_frame _) (by decide))

theorem offLine_frame : s.sameBut [.lc] s.offLine := by simp [State.sameBut, State.offLine]

theorem setPeer_frame (x : Nat) (p : Peer) : s.sameBut [.lc] (s.setPeer x p) := by
  simp [State.sameBut, State.setPeer]

theorem markPresent_frame (x : Nat) : s.sameBut [.sc, .hr, .rf, .lc] (s.markPresent x) :=
  sameBut_trans (sameBut_mono (setPeer_frame _ _ _) (by decide)) (cancelGone_frame _ _)

theorem restartPresence_frame (x : Nat) : s.sameBut [.lc] (s.restartPresence x) := by
  unfold State.restartPresence
  dsimp only
  split
  · exact setPeer_frame _ _ _
  · exact sameBut_refl _ _

theorem attemptSpoiled_frame : s.sameBut [.cu, .sc, .hr, .rf, .lc] s.attemptSpoiled := by
  unfold State.attemptSpoiled
  dsimp only
  repeat' split
  · exact sameBut_refl _ _
  · exact sameBut_trans (by simp [State.sameBut]) (leaveLine_frame _)
  · exact sameBut_trans (by simp [State.sameBut]) (sameBut_mono (offLine_frame _) (by decide))
  · refine sameBut_trans ?_ (leaveLine_frame _)
    exact sameBut_trans (by simp [State.sameBut]) (sameBut_mono (restartPresence_frame _ _) (by decide))
  · exact sameBut_trans (by simp [State.sameBut]) (leaveLine_frame _)

/-! ### Bay.lean -/

theorem setBay_frame (x : BayState) : s.sameBut [.lc, .bs] (s.setBay x) :=
  sameBut_trans (by simp [State.sameBut]) (sameBut_mono (wantState_frame _) (by decide))

theorem enterJoining_frame : s.sameBut [.cu, .lc, .bs] s.enterJoining := by
  refine sameBut_trans (sameBut_mono (setBay_frame s .joining) (by decide)) ?_
  exact sameBut_trans (by simp [State.sameBut]) (sameBut_mono (wantHello_frame _) (by decide))

theorem enterActive_frame : s.sameBut [.lc, .bs] s.enterActive := by
  unfold State.enterActive
  exact sameBut_trans (setBay_frame s .active) (by simp [State.sameBut])

theorem drainTest_frame : s.sameBut [.lc, .bs] s.drainTest := by
  unfold State.drainTest
  split
  · exact setBay_frame _ _
  · exact sameBut_refl _ _

theorem rejoinTest_frame : s.sameBut [.cu, .lc, .bs] s.rejoinTest := by
  unfold State.rejoinTest
  split
  · exact enterJoining_frame _
  · exact sameBut_refl _ _

theorem removeSet_frame (id : SetId) : s.sameBut [.cu, .co, .dc, .lc, .bs] (s.removeSet id) := by
  unfold State.removeSet
  split
  · exact sameBut_refl _ _
  · rename_i r _
    refine sameBut_trans (sameBut_mono (dropSet_frame s r) (by decide)) ?_
    exact sameBut_trans (sameBut_mono (drainTest_frame _) (by decide)) (sameBut_mono (rejoinTest_frame _) (by decide))

/-! ### Sets.lean: the course of a set leaves the reader, the job table and the watch's counters alone -/

/-- The blocks the course of a set may change. -/
abbrev setBlocks : List Block := [.gc, .cu, .co, .hr, .rf, .sc, .dc, .lc, .bs]

theorem unloadTest_frame (id : SetId) : s.sameBut [.co, .hr, .rf, .sc, .dc, .lc] (s.unloadTest id) := by
  unfold State.unloadTest
  repeat' split
  all_goals first
    | exact sameBut_refl _ _
    | exact sameBut_trans (sameBut_mono (freeBin_frame _ _) (by decide)) (sameBut_mono (putSet_frame _ _) (by decide))
    | exact sameBut_mono (queueCarriage_frame _ _) (by decide)

theorem removalTest_frame (id : SetId) : s.sameBut [.cu, .co, .dc, .lc, .bs] (s.removalTest id) := by
  unfold State.removalTest
  repeat' split
  all_goals first
    | exact sameBut_refl _ _
    | exact removeSet_frame _ _

theorem undoReservation_frame (k : Nat) (id : SetId) (p : Nat) : s.sameBut [.hr] (s.undoReservation k id p) := by
  unfold State.undoReservation
  split <;> simp [State.sameBut]

theorem undoPage_frame (t : PageRef) : s.sameBut [.co, .dc, .lc] (s.undoPage t) := by
  unfold State.undoPage
  repeat' split
  all_goals first
    | exact sameBut_refl _ _
    | exact setPage_frame _ _ _ _

theorem undoAction_frame (e : Entry) : s.sameBut [.co, .hr, .dc, .lc] (s.undoAction e) := by
  unfold State.undoAction
  repeat' split
  · exact sameBut_mono (undoPage_frame _ _) (by decide)
  · exact sameBut_trans (sameBut_mono (undoPage_frame _ _) (by decide))
      (sameBut_mono (undoReservation_frame _ _ _ _) (by decide))
  · exact sameBut_refl _ _

theorem rewriteSet_frame (id : SetId) : s.sameBut [.gc, .co, .hr, .dc, .lc] (s.rewriteSet id) := by
  have h := sameBut_foldl State.undoAction undoAction_frame
    (s.gc.queue.filter (fun e => e.target.any (fun t => t.id == id))) s
  unfold State.rewriteSet
  exact sameBut_trans (sameBut_mono h (by decide)) (by simp [State.sameBut])

theorem redirect_frame (id : SetId) : s.sameBut [.hr] (s.redirect id) := by simp [State.sameBut, State.redirect]

theorem releaseToFeeder_frame (id : SetId) (p : Nat) :
    s.sameBut [.co, .hr, .rf, .sc, .dc, .lc] (s.releaseToFeeder id p) := by
  unfold State.releaseToFeeder
  repeat' split
  all_goals first
    | exact sameBut_refl _ _
    | exact sameBut_trans (sameBut_mono (setPage_frame _ _ _ _) (by decide))
        (sameBut_mono (queueRelease_frame _ _) (by decide))

theorem beginSurrender_frame (r : SetRecord) :
    s.sameBut [.cu, .co, .hr, .rf, .sc, .dc, .lc] (s.beginSurrender r) := by
  have h1 : s.sameBut [.cu, .co, .hr, .rf, .sc, .dc, .lc] (if r.state = .claiming then s.withdrawClaim r.id else s) := by
    split
    · exact sameBut_mono (withdrawClaim_frame _ _) (by decide)
    · exact sameBut_refl _ _
  unfold State.beginSurrender
  dsimp only
  revert h1
  generalize (if r.state = .claiming then s.withdrawClaim r.id else s) = s1
  intro h1
  have h2 := sameBut_trans h1
    (sameBut_mono (putSet_frame s1 { r.toState .surrendering with deadline := false }) (by decide))
  split
  · refine sameBut_trans (sameBut_trans h2 ?_) (sameBut_mono (withdrawCarriage_frame _ _ _) (by decide))
    simp [State.sameBut]
  · exact sameBut_trans h2 (by simp [State.sameBut])

theorem endSurrender_frame (r : SetRecord) (x : Option YieldReason) : s.sameBut setBlocks (s.endSurrender r x) := by
  unfold State.endSurrender
  refine sameBut_trans ?_ (sameBut_mono (removalTest_frame _ _) (by decide))
  refine sameBut_trans ?_ (sameBut_mono (unloadTest_frame _ _) (by decide))
  refine sameBut_trans ?_
    (sameBut_foldl (l := setBlocks) _ (fun t p => sameBut_mono (releaseToFeeder_frame t r.id p) (by decide)) _ _)
  refine sameBut_trans ?_ (sameBut_mono (redirect_frame _ _) (by decide))
  refine sameBut_trans ?_ (sameBut_mono (rewriteSet_frame _ _) (by decide))
  repeat' split
  all_goals first
    | exact sameBut_refl _ _
    | exact sameBut_mono (dueYield_frame _ _ _) (by decide)

theorem surrender_frame (id : SetId) (x : Option YieldReason) : s.sameBut setBlocks (s.surrender id x) := by
  unfold State.surrender
  split
  · exact sameBut_refl _ _
  · exact sameBut_trans (sameBut_mono (beginSurrender_frame _ _) (by decide)) (endSurrender_frame _ _ _)

theorem surrenderAll_frame (x : Option YieldReason) : s.sameBut setBlocks (s.surrenderAll x) :=
  sameBut_foldl _ (fun t id => by
    split
    · exact surrender_frame _ _ _
    · exact sameBut_refl _ _) _ _

theorem releaseTest_frame (id : SetId) : s.sameBut [.co, .hr, .rf, .sc, .dc, .lc] (s.releaseTest id) := by
  unfold State.releaseTest
  repeat' split
  all_goals first
    | exact sameBut_refl _ _
    | exact sameBut_trans (sameBut_mono (setPage_frame _ _ _ _) (by decide))
        (sameBut_mono (queueRelease_frame _ _) (by decide))

theorem completeSet_frame (r : SetRecord) (b : Bool) : s.sameBut [.co, .hr, .rf, .sc, .dc, .lc] (s.completeSet r b) :=
  sameBut_trans (sameBut_mono (putSet_frame _ _) (by decide)) (sameBut_mono (queueCarriage_frame _ _) (by decide))

theorem completionTest_frame (id : SetId) : s.sameBut setBlocks (s.completionTest id) := by
  unfold State.completionTest
  repeat' split
  all_goals first
    | exact sameBut_refl _ _
    | exact surrender_frame _ _ _
    | exact sameBut_mono (completeSet_frame _ _ _) (by decide)

theorem afterChange_frame (id : SetId) : s.sameBut setBlocks (s.afterChange id) := by
  unfold State.afterChange
  repeat' split
  all_goals first
    | exact sameBut_refl _ _
    | exact sameBut_trans (sameBut_mono (releaseTest_frame _ _) (by decide)) (completionTest_frame _ _)
    | exact sameBut_trans (sameBut_mono (unloadTest_frame _ _) (by decide))
        (sameBut_mono (removalTest_frame _ _) (by decide))

theorem undoEntry_frame (e : Entry) : s.sameBut setBlocks (s.undoEntry e) := by
  unfold State.undoEntry
  dsimp only
  repeat' split
  all_goals first
    | exact sameBut_trans (sameBut_mono (undoAction_frame _ _) (by decide)) (afterChange_frame _ _)
    | exact sameBut_mono (undoAction_frame _ _) (by decide)

theorem lapse_frame (e : Entry) : s.sameBut setBlocks (s.lapse e) := by
  unfold State.lapse
  exact sameBut_trans (undoEntry_frame s e) (by simp [State.sameBut])

theorem lapseOldest_frame : s.sameBut setBlocks s.lapseOldest := by
  unfold State.lapseOldest
  split
  · exact sameBut_refl _ _
  · exact sameBut_trans (by simp [State.sameBut]) (lapse_frame _ _)

theorem rewriteAt_frame (i : Nat) : s.sameBut setBlocks (s.rewriteAt i) := by
  unfold State.rewriteAt
  split
  · exact sameBut_refl _ _
  · exact sameBut_trans (by simp [State.sameBut]) (undoEntry_frame _ _)

/-! ### Faults.lean -/

theorem linkAtFault_frame (c : Cause) (w : Bool) : s.sameBut [.sc, .hr, .rf, .lc] (s.linkAtFault c w) := by
  unfold State.linkAtFault
  repeat' split
  all_goals first
    | exact sameBut_refl _ _
    | exact sameBut_trans (by simp [State.sameBut]) (cancelGone_frame _ _)
    | simp [State.sameBut]

theorem claimsAtFault_frame (c : Cause) : s.sameBut [.cu, .lc] (s.claimsAtFault c) := by
  unfold State.claimsAtFault
  split
  all_goals first
    | exact sameBut_refl _ _
    | exact sameBut_trans (by simp [State.sameBut]) (withdrawUrgent_frame _ _)

theorem enterFault_frame (c : Cause) : s.sameBut setBlocks (s.enterFault c) := by
  unfold State.enterFault
  refine sameBut_trans ?_ (sameBut_mono (linkAtFault_frame _ _ _) (by decide))
  refine sameBut_trans ?_ (sameBut_mono (claimsAtFault_frame _ _) (by decide))
  refine sameBut_trans ?_ (surrenderAll_frame _ _)
  exact sameBut_trans (sameBut_mono (setBay_frame s (.fault c)) (by decide)) (by simp [State.sameBut])

theorem reportFault_frame (c : Cause) : s.sameBut setBlocks (s.reportFault c) := by
  unfold State.reportFault
  dsimp only
  repeat' split
  · exact sameBut_trans (by simp [State.sameBut]) (enterFault_frame _ _)
  · simp [State.sameBut]
  · simp [State.sameBut]

end Sys2Proof.Machine
end

