-- ==== Sys2Proof/Laws/State.lean ====
section
/-! SUPPORT. One lemma for each block and each plain update of the state: what the update leaves of the block, by rfl. -/

namespace Sys2Proof.Machine

variable (s : State)

/-! `State.pushUrgent` -/

@[simp] theorem State.pushUrgent_ri (n : Notice) : (s.pushUrgent n).ri = s.ri := rfl
@[simp] theorem State.pushUrgent_gc (n : Notice) : (s.pushUrgent n).gc = s.gc := rfl
@[simp] theorem State.pushUrgent_jt (n : Notice) : (s.pushUrgent n).jt = s.jt := rfl
@[simp] theorem State.pushUrgent_cu (n : Notice) : (s.pushUrgent n).cu = s.cu := rfl
@[simp] theorem State.pushUrgent_co (n : Notice) : (s.pushUrgent n).co = s.co := rfl
@[simp] theorem State.pushUrgent_hr (n : Notice) : (s.pushUrgent n).hr = s.hr := rfl
@[simp] theorem State.pushUrgent_rf (n : Notice) : (s.pushUrgent n).rf = s.rf := rfl
@[simp] theorem State.pushUrgent_pw (n : Notice) : (s.pushUrgent n).pw = s.pw := rfl
@[simp] theorem State.pushUrgent_sc (n : Notice) : (s.pushUrgent n).sc = s.sc := rfl
@[simp] theorem State.pushUrgent_dc (n : Notice) : (s.pushUrgent n).dc = s.dc := rfl
@[simp] theorem State.pushUrgent_lc (n : Notice) : (s.pushUrgent n).lc =
    { s.lc with urgent := s.lc.urgent ++ [TxEntry.fresh n] } := rfl
@[simp] theorem State.pushUrgent_bs (n : Notice) : (s.pushUrgent n).bs = s.bs := rfl
@[simp] theorem State.pushUrgent_pending (n : Notice) : (s.pushUrgent n).pending = s.pending := rfl

/-! `State.pushRoutine` -/

@[simp] theorem State.pushRoutine_ri (n : Notice) : (s.pushRoutine n).ri = s.ri := rfl
@[simp] theorem State.pushRoutine_gc (n : Notice) : (s.pushRoutine n).gc = s.gc := rfl
@[simp] theorem State.pushRoutine_jt (n : Notice) : (s.pushRoutine n).jt = s.jt := rfl
@[simp] theorem State.pushRoutine_cu (n : Notice) : (s.pushRoutine n).cu = s.cu := rfl
@[simp] theorem State.pushRoutine_co (n : Notice) : (s.pushRoutine n).co = s.co := rfl
@[simp] theorem State.pushRoutine_hr (n : Notice) : (s.pushRoutine n).hr = s.hr := rfl
@[simp] theorem State.pushRoutine_rf (n : Notice) : (s.pushRoutine n).rf = s.rf := rfl
@[simp] theorem State.pushRoutine_pw (n : Notice) : (s.pushRoutine n).pw = s.pw := rfl
@[simp] theorem State.pushRoutine_sc (n : Notice) : (s.pushRoutine n).sc = s.sc := rfl
@[simp] theorem State.pushRoutine_dc (n : Notice) : (s.pushRoutine n).dc = s.dc := rfl
@[simp] theorem State.pushRoutine_lc (n : Notice) : (s.pushRoutine n).lc =
    { s.lc with routine := s.lc.routine ++ [TxEntry.fresh n] } := rfl
@[simp] theorem State.pushRoutine_bs (n : Notice) : (s.pushRoutine n).bs = s.bs := rfl
@[simp] theorem State.pushRoutine_pending (n : Notice) : (s.pushRoutine n).pending = s.pending := rfl

/-! `State.pushState` -/

@[simp] theorem State.pushState_ri : (s.pushState).ri = s.ri := rfl
@[simp] theorem State.pushState_gc : (s.pushState).gc = s.gc := rfl
@[simp] theorem State.pushState_jt : (s.pushState).jt = s.jt := rfl
@[simp] theorem State.pushState_cu : (s.pushState).cu = s.cu := rfl
@[simp] theorem State.pushState_co : (s.pushState).co = s.co := rfl
@[simp] theorem State.pushState_hr : (s.pushState).hr = s.hr := rfl
@[simp] theorem State.pushState_rf : (s.pushState).rf = s.rf := rfl
@[simp] theorem State.pushState_pw : (s.pushState).pw = s.pw := rfl
@[simp] theorem State.pushState_sc : (s.pushState).sc = s.sc := rfl
@[simp] theorem State.pushState_dc : (s.pushState).dc = s.dc := rfl
@[simp] theorem State.pushState_lc : (s.pushState).lc =
    { s.lc with routine := s.lc.routine ++ [TxEntry.fresh .state], cadence := true } := rfl
@[simp] theorem State.pushState_bs : (s.pushState).bs = s.bs := rfl
@[simp] theorem State.pushState_pending : (s.pushState).pending = s.pending := rfl

/-! `State.countMalformed` -/

@[simp] theorem State.countMalformed_ri : (s.countMalformed).ri = s.ri := rfl
@[simp] theorem State.countMalformed_gc : (s.countMalformed).gc = s.gc := rfl
@[simp] theorem State.countMalformed_jt : (s.countMalformed).jt = s.jt := rfl
@[simp] theorem State.countMalformed_cu : (s.countMalformed).cu = s.cu := rfl
@[simp] theorem State.countMalformed_co : (s.countMalformed).co = s.co := rfl
@[simp] theorem State.countMalformed_hr : (s.countMalformed).hr = s.hr := rfl
@[simp] theorem State.countMalformed_rf : (s.countMalformed).rf = s.rf := rfl
@[simp] theorem State.countMalformed_pw : (s.countMalformed).pw = s.pw := rfl
@[simp] theorem State.countMalformed_sc : (s.countMalformed).sc = s.sc := rfl
@[simp] theorem State.countMalformed_dc : (s.countMalformed).dc = s.dc := rfl
@[simp] theorem State.countMalformed_lc : (s.countMalformed).lc = { s.lc with malformed := count s.lc.malformed } := rfl
@[simp] theorem State.countMalformed_bs : (s.countMalformed).bs = s.bs := rfl
@[simp] theorem State.countMalformed_pending : (s.countMalformed).pending = s.pending := rfl

/-! `State.setPeer` -/

@[simp] theorem State.setPeer_ri (x : Nat) (p : Peer) : (s.setPeer x p).ri = s.ri := rfl
@[simp] theorem State.setPeer_gc (x : Nat) (p : Peer) : (s.setPeer x p).gc = s.gc := rfl
@[simp] theorem State.setPeer_jt (x : Nat) (p : Peer) : (s.setPeer x p).jt = s.jt := rfl
@[simp] theorem State.setPeer_cu (x : Nat) (p : Peer) : (s.setPeer x p).cu = s.cu := rfl
@[simp] theorem State.setPeer_co (x : Nat) (p : Peer) : (s.setPeer x p).co = s.co := rfl
@[simp] theorem State.setPeer_hr (x : Nat) (p : Peer) : (s.setPeer x p).hr = s.hr := rfl
@[simp] theorem State.setPeer_rf (x : Nat) (p : Peer) : (s.setPeer x p).rf = s.rf := rfl
@[simp] theorem State.setPeer_pw (x : Nat) (p : Peer) : (s.setPeer x p).pw = s.pw := rfl
@[simp] theorem State.setPeer_sc (x : Nat) (p : Peer) : (s.setPeer x p).sc = s.sc := rfl
@[simp] theorem State.setPeer_dc (x : Nat) (p : Peer) : (s.setPeer x p).dc = s.dc := rfl
@[simp] theorem State.setPeer_lc (x : Nat) (p : Peer) : (s.setPeer x p).lc =
    { s.lc with peers := set1 s.lc.peers x p } := rfl
@[simp] theorem State.setPeer_bs (x : Nat) (p : Peer) : (s.setPeer x p).bs = s.bs := rfl
@[simp] theorem State.setPeer_pending (x : Nat) (p : Peer) : (s.setPeer x p).pending = s.pending := rfl

/-! `State.countRefused` -/

@[simp] theorem State.countRefused_ri : (s.countRefused).ri = s.ri := rfl
@[simp] theorem State.countRefused_gc : (s.countRefused).gc = s.gc := rfl
@[simp] theorem State.countRefused_jt : (s.countRefused).jt = s.jt := rfl
@[simp] theorem State.countRefused_cu : (s.countRefused).cu = s.cu := rfl
@[simp] theorem State.countRefused_co : (s.countRefused).co = { s.co with refused := count s.co.refused } := rfl
@[simp] theorem State.countRefused_hr : (s.countRefused).hr = s.hr := rfl
@[simp] theorem State.countRefused_rf : (s.countRefused).rf = s.rf := rfl
@[simp] theorem State.countRefused_pw : (s.countRefused).pw = s.pw := rfl
@[simp] theorem State.countRefused_sc : (s.countRefused).sc = s.sc := rfl
@[simp] theorem State.countRefused_dc : (s.countRefused).dc = s.dc := rfl
@[simp] theorem State.countRefused_lc : (s.countRefused).lc = s.lc := rfl
@[simp] theorem State.countRefused_bs : (s.countRefused).bs = s.bs := rfl
@[simp] theorem State.countRefused_pending : (s.countRefused).pending = s.pending := rfl

/-! `State.countDuplicate` -/

@[simp] theorem State.countDuplicate_ri : (s.countDuplicate).ri = s.ri := rfl
@[simp] theorem State.countDuplicate_gc : (s.countDuplicate).gc = s.gc := rfl
@[simp] theorem State.countDuplicate_jt : (s.countDuplicate).jt = s.jt := rfl
@[simp] theorem State.countDuplicate_cu : (s.countDuplicate).cu = s.cu := rfl
@[simp] theorem State.countDuplicate_co : (s.countDuplicate).co = { s.co with duplicate := count s.co.duplicate } := rfl
@[simp] theorem State.countDuplicate_hr : (s.countDuplicate).hr = s.hr := rfl
@[simp] theorem State.countDuplicate_rf : (s.countDuplicate).rf = s.rf := rfl
@[simp] theorem State.countDuplicate_pw : (s.countDuplicate).pw = s.pw := rfl
@[simp] theorem State.countDuplicate_sc : (s.countDuplicate).sc = s.sc := rfl
@[simp] theorem State.countDuplicate_dc : (s.countDuplicate).dc = s.dc := rfl
@[simp] theorem State.countDuplicate_lc : (s.countDuplicate).lc = s.lc := rfl
@[simp] theorem State.countDuplicate_bs : (s.countDuplicate).bs = s.bs := rfl
@[simp] theorem State.countDuplicate_pending : (s.countDuplicate).pending = s.pending := rfl

/-! `State.countMismatch` -/

@[simp] theorem State.countMismatch_ri : (s.countMismatch).ri = s.ri := rfl
@[simp] theorem State.countMismatch_gc : (s.countMismatch).gc = s.gc := rfl
@[simp] theorem State.countMismatch_jt : (s.countMismatch).jt = s.jt := rfl
@[simp] theorem State.countMismatch_cu : (s.countMismatch).cu = s.cu := rfl
@[simp] theorem State.countMismatch_co : (s.countMismatch).co = { s.co with mismatch := count s.co.mismatch } := rfl
@[simp] theorem State.countMismatch_hr : (s.countMismatch).hr = s.hr := rfl
@[simp] theorem State.countMismatch_rf : (s.countMismatch).rf = s.rf := rfl
@[simp] theorem State.countMismatch_pw : (s.countMismatch).pw = s.pw := rfl
@[simp] theorem State.countMismatch_sc : (s.countMismatch).sc = s.sc := rfl
@[simp] theorem State.countMismatch_dc : (s.countMismatch).dc = s.dc := rfl
@[simp] theorem State.countMismatch_lc : (s.countMismatch).lc = s.lc := rfl
@[simp] theorem State.countMismatch_bs : (s.countMismatch).bs = s.bs := rfl
@[simp] theorem State.countMismatch_pending : (s.countMismatch).pending = s.pending := rfl

/-! `State.countRackFull` -/

@[simp] theorem State.countRackFull_ri : (s.countRackFull).ri = s.ri := rfl
@[simp] theorem State.countRackFull_gc : (s.countRackFull).gc = s.gc := rfl
@[simp] theorem State.countRackFull_jt : (s.countRackFull).jt = s.jt := rfl
@[simp] theorem State.countRackFull_cu : (s.countRackFull).cu = s.cu := rfl
@[simp] theorem State.countRackFull_co : (s.countRackFull).co = { s.co with rackFull := count s.co.rackFull } := rfl
@[simp] theorem State.countRackFull_hr : (s.countRackFull).hr = s.hr := rfl
@[simp] theorem State.countRackFull_rf : (s.countRackFull).rf = s.rf := rfl
@[simp] theorem State.countRackFull_pw : (s.countRackFull).pw = s.pw := rfl
@[simp] theorem State.countRackFull_sc : (s.countRackFull).sc = s.sc := rfl
@[simp] theorem State.countRackFull_dc : (s.countRackFull).dc = s.dc := rfl
@[simp] theorem State.countRackFull_lc : (s.countRackFull).lc = s.lc := rfl
@[simp] theorem State.countRackFull_bs : (s.countRackFull).bs = s.bs := rfl
@[simp] theorem State.countRackFull_pending : (s.countRackFull).pending = s.pending := rfl

/-! `State.countLate` -/

@[simp] theorem State.countLate_ri : (s.countLate).ri = s.ri := rfl
@[simp] theorem State.countLate_gc : (s.countLate).gc = { s.gc with late := count s.gc.late } := rfl
@[simp] theorem State.countLate_jt : (s.countLate).jt = s.jt := rfl
@[simp] theorem State.countLate_cu : (s.countLate).cu = s.cu := rfl
@[simp] theorem State.countLate_co : (s.countLate).co = s.co := rfl
@[simp] theorem State.countLate_hr : (s.countLate).hr = s.hr := rfl
@[simp] theorem State.countLate_rf : (s.countLate).rf = s.rf := rfl
@[simp] theorem State.countLate_pw : (s.countLate).pw = s.pw := rfl
@[simp] theorem State.countLate_sc : (s.countLate).sc = s.sc := rfl
@[simp] theorem State.countLate_dc : (s.countLate).dc = s.dc := rfl
@[simp] theorem State.countLate_lc : (s.countLate).lc = s.lc := rfl
@[simp] theorem State.countLate_bs : (s.countLate).bs = s.bs := rfl
@[simp] theorem State.countLate_pending : (s.countLate).pending = s.pending := rfl

/-! `State.countConflict` -/

@[simp] theorem State.countConflict_ri : (s.countConflict).ri = s.ri := rfl
@[simp] theorem State.countConflict_gc : (s.countConflict).gc = s.gc := rfl
@[simp] theorem State.countConflict_jt : (s.countConflict).jt = s.jt := rfl
@[simp] theorem State.countConflict_cu : (s.countConflict).cu = { s.cu with conflicts := count s.cu.conflicts } := rfl
@[simp] theorem State.countConflict_co : (s.countConflict).co = s.co := rfl
@[simp] theorem State.countConflict_hr : (s.countConflict).hr = s.hr := rfl
@[simp] theorem State.countConflict_rf : (s.countConflict).rf = s.rf := rfl
@[simp] theorem State.countConflict_pw : (s.countConflict).pw = s.pw := rfl
@[simp] theorem State.countConflict_sc : (s.countConflict).sc = s.sc := rfl
@[simp] theorem State.countConflict_dc : (s.countConflict).dc = s.dc := rfl
@[simp] theorem State.countConflict_lc : (s.countConflict).lc = s.lc := rfl
@[simp] theorem State.countConflict_bs : (s.countConflict).bs = s.bs := rfl
@[simp] theorem State.countConflict_pending : (s.countConflict).pending = s.pending := rfl

/-! `State.countClaimLost` -/

@[simp] theorem State.countClaimLost_ri : (s.countClaimLost).ri = s.ri := rfl
@[simp] theorem State.countClaimLost_gc : (s.countClaimLost).gc = s.gc := rfl
@[simp] theorem State.countClaimLost_jt : (s.countClaimLost).jt = s.jt := rfl
@[simp] theorem State.countClaimLost_cu : (s.countClaimLost).cu = { s.cu with claimLost := count s.cu.claimLost } := rfl
@[simp] theorem State.countClaimLost_co : (s.countClaimLost).co = s.co := rfl
@[simp] theorem State.countClaimLost_hr : (s.countClaimLost).hr = s.hr := rfl
@[simp] theorem State.countClaimLost_rf : (s.countClaimLost).rf = s.rf := rfl
@[simp] theorem State.countClaimLost_pw : (s.countClaimLost).pw = s.pw := rfl
@[simp] theorem State.countClaimLost_sc : (s.countClaimLost).sc = s.sc := rfl
@[simp] theorem State.countClaimLost_dc : (s.countClaimLost).dc = s.dc := rfl
@[simp] theorem State.countClaimLost_lc : (s.countClaimLost).lc = s.lc := rfl
@[simp] theorem State.countClaimLost_bs : (s.countClaimLost).bs = s.bs := rfl
@[simp] theorem State.countClaimLost_pending : (s.countClaimLost).pending = s.pending := rfl

/-! `State.fillMissed` -/

@[simp] theorem State.fillMissed_ri : (s.fillMissed).ri = s.ri := rfl
@[simp] theorem State.fillMissed_gc : (s.fillMissed).gc = s.gc := rfl
@[simp] theorem State.fillMissed_jt : (s.fillMissed).jt = s.jt := rfl
@[simp] theorem State.fillMissed_cu : (s.fillMissed).cu = s.cu := rfl
@[simp] theorem State.fillMissed_co : (s.fillMissed).co = s.co := rfl
@[simp] theorem State.fillMissed_hr : (s.fillMissed).hr = s.hr := rfl
@[simp] theorem State.fillMissed_rf : (s.fillMissed).rf = { s.rf with fillMissed := count s.rf.fillMissed } := rfl
@[simp] theorem State.fillMissed_pw : (s.fillMissed).pw = s.pw := rfl
@[simp] theorem State.fillMissed_sc : (s.fillMissed).sc = s.sc := rfl
@[simp] theorem State.fillMissed_dc : (s.fillMissed).dc = s.dc := rfl
@[simp] theorem State.fillMissed_lc : (s.fillMissed).lc = s.lc := rfl
@[simp] theorem State.fillMissed_bs : (s.fillMissed).bs = s.bs := rfl
@[simp] theorem State.fillMissed_pending : (s.fillMissed).pending = s.pending := rfl

/-! `State.refuseService` -/

@[simp] theorem State.refuseService_ri : (s.refuseService).ri = s.ri := rfl
@[simp] theorem State.refuseService_gc : (s.refuseService).gc = s.gc := rfl
@[simp] theorem State.refuseService_jt : (s.refuseService).jt = s.jt := rfl
@[simp] theorem State.refuseService_cu : (s.refuseService).cu = s.cu := rfl
@[simp] theorem State.refuseService_co : (s.refuseService).co = s.co := rfl
@[simp] theorem State.refuseService_hr : (s.refuseService).hr = s.hr := rfl
@[simp] theorem State.refuseService_rf : (s.refuseService).rf = s.rf := rfl
@[simp] theorem State.refuseService_pw : (s.refuseService).pw = s.pw := rfl
@[simp] theorem State.refuseService_sc : (s.refuseService).sc = s.sc := rfl
@[simp] theorem State.refuseService_dc : (s.refuseService).dc = s.dc := rfl
@[simp] theorem State.refuseService_lc : (s.refuseService).lc = s.lc := rfl
@[simp] theorem State.refuseService_bs : (s.refuseService).bs = { s.bs with refused := countByte s.bs.refused } := rfl
@[simp] theorem State.refuseService_pending : (s.refuseService).pending = s.pending := rfl

/-! `State.clearInlet` -/

@[simp] theorem State.clearInlet_ri : (s.clearInlet).ri = s.ri := rfl
@[simp] theorem State.clearInlet_gc : (s.clearInlet).gc = s.gc := rfl
@[simp] theorem State.clearInlet_jt : (s.clearInlet).jt = s.jt := rfl
@[simp] theorem State.clearInlet_cu : (s.clearInlet).cu = s.cu := rfl
@[simp] theorem State.clearInlet_co : (s.clearInlet).co = s.co := rfl
@[simp] theorem State.clearInlet_hr : (s.clearInlet).hr = { s.hr with inletOccupied := false } := rfl
@[simp] theorem State.clearInlet_rf : (s.clearInlet).rf = s.rf := rfl
@[simp] theorem State.clearInlet_pw : (s.clearInlet).pw = s.pw := rfl
@[simp] theorem State.clearInlet_sc : (s.clearInlet).sc = s.sc := rfl
@[simp] theorem State.clearInlet_dc : (s.clearInlet).dc = s.dc := rfl
@[simp] theorem State.clearInlet_lc : (s.clearInlet).lc = s.lc := rfl
@[simp] theorem State.clearInlet_bs : (s.clearInlet).bs = s.bs := rfl
@[simp] theorem State.clearInlet_pending : (s.clearInlet).pending = s.pending := rfl

/-! `State.reserve` -/

@[simp] theorem State.reserve_ri (k : Nat) (id : SetId) (p : Nat) : (s.reserve k id p).ri = s.ri := rfl
@[simp] theorem State.reserve_gc (k : Nat) (id : SetId) (p : Nat) : (s.reserve k id p).gc = s.gc := rfl
@[simp] theorem State.reserve_jt (k : Nat) (id : SetId) (p : Nat) : (s.reserve k id p).jt = s.jt := rfl
@[simp] theorem State.reserve_cu (k : Nat) (id : SetId) (p : Nat) : (s.reserve k id p).cu = s.cu := rfl
@[simp] theorem State.reserve_co (k : Nat) (id : SetId) (p : Nat) : (s.reserve k id p).co = s.co := rfl
@[simp] theorem State.reserve_hr (k : Nat) (id : SetId) (p : Nat) : (s.reserve k id p).hr =
    { s.hr with pockets := set1 s.hr.pockets k (.reserved id p), inletReserved := s.hr.inletReserved + 1 } := rfl
@[simp] theorem State.reserve_rf (k : Nat) (id : SetId) (p : Nat) : (s.reserve k id p).rf = s.rf := rfl
@[simp] theorem State.reserve_pw (k : Nat) (id : SetId) (p : Nat) : (s.reserve k id p).pw = s.pw := rfl
@[simp] theorem State.reserve_sc (k : Nat) (id : SetId) (p : Nat) : (s.reserve k id p).sc = s.sc := rfl
@[simp] theorem State.reserve_dc (k : Nat) (id : SetId) (p : Nat) : (s.reserve k id p).dc = s.dc := rfl
@[simp] theorem State.reserve_lc (k : Nat) (id : SetId) (p : Nat) : (s.reserve k id p).lc = s.lc := rfl
@[simp] theorem State.reserve_bs (k : Nat) (id : SetId) (p : Nat) : (s.reserve k id p).bs = s.bs := rfl
@[simp] theorem State.reserve_pending (k : Nat) (id : SetId) (p : Nat) : (s.reserve k id p).pending = s.pending := rfl

/-! `State.putJob` -/

@[simp] theorem State.putJob_ri (r : JobRecord) : (s.putJob r).ri = s.ri := rfl
@[simp] theorem State.putJob_gc (r : JobRecord) : (s.putJob r).gc = s.gc := rfl
@[simp] theorem State.putJob_jt (r : JobRecord) : (s.putJob r).jt =
    { s.jt with jobs := s.jt.jobs.map (fun q => if q.job = r.job then r else q) } := rfl
@[simp] theorem State.putJob_cu (r : JobRecord) : (s.putJob r).cu = s.cu := rfl
@[simp] theorem State.putJob_co (r : JobRecord) : (s.putJob r).co = s.co := rfl
@[simp] theorem State.putJob_hr (r : JobRecord) : (s.putJob r).hr = s.hr := rfl
@[simp] theorem State.putJob_rf (r : JobRecord) : (s.putJob r).rf = s.rf := rfl
@[simp] theorem State.putJob_pw (r : JobRecord) : (s.putJob r).pw = s.pw := rfl
@[simp] theorem State.putJob_sc (r : JobRecord) : (s.putJob r).sc = s.sc := rfl
@[simp] theorem State.putJob_dc (r : JobRecord) : (s.putJob r).dc = s.dc := rfl
@[simp] theorem State.putJob_lc (r : JobRecord) : (s.putJob r).lc = s.lc := rfl
@[simp] theorem State.putJob_bs (r : JobRecord) : (s.putJob r).bs = s.bs := rfl
@[simp] theorem State.putJob_pending (r : JobRecord) : (s.putJob r).pending = s.pending := rfl

/-! `State.announceJob` -/

@[simp] theorem State.announceJob_ri (r : JobRecord) : (s.announceJob r).ri = s.ri := rfl
@[simp] theorem State.announceJob_gc (r : JobRecord) : (s.announceJob r).gc = s.gc := rfl
@[simp] theorem State.announceJob_jt (r : JobRecord) : (s.announceJob r).jt =
    { s.jt with jobs := s.jt.jobs.filter (fun q => q.job != r.job) ++ [r] } := rfl
@[simp] theorem State.announceJob_cu (r : JobRecord) : (s.announceJob r).cu = s.cu := rfl
@[simp] theorem State.announceJob_co (r : JobRecord) : (s.announceJob r).co = s.co := rfl
@[simp] theorem State.announceJob_hr (r : JobRecord) : (s.announceJob r).hr = s.hr := rfl
@[simp] theorem State.announceJob_rf (r : JobRecord) : (s.announceJob r).rf = s.rf := rfl
@[simp] theorem State.announceJob_pw (r : JobRecord) : (s.announceJob r).pw = s.pw := rfl
@[simp] theorem State.announceJob_sc (r : JobRecord) : (s.announceJob r).sc = s.sc := rfl
@[simp] theorem State.announceJob_dc (r : JobRecord) : (s.announceJob r).dc = s.dc := rfl
@[simp] theorem State.announceJob_lc (r : JobRecord) : (s.announceJob r).lc = s.lc := rfl
@[simp] theorem State.announceJob_bs (r : JobRecord) : (s.announceJob r).bs = s.bs := rfl
@[simp] theorem State.announceJob_pending (r : JobRecord) : (s.announceJob r).pending = s.pending := rfl

end Sys2Proof.Machine
end

