-- ==== Sys2Proof/Laws/Tables.lean ====
section
/-! SUPPORT. Reading what was written: numbered places, jaws, and the set table's records. -/

namespace Sys2Proof

/-! ### Numbered places -/

@[simp] theorem length_set1 {α : Type} (l : List α) (i : Nat) (a : α) : (set1 l i a).length = l.length := by
  cases i <;> simp [set1]

@[simp] theorem length_modify1 {α : Type} (l : List α) (i : Nat) (f : α → α) :
    (modify1 l i f).length = l.length := by
  unfold modify1; split <;> simp

@[simp] theorem length_numbers (n : Nat) : (numbers n).length = n := by simp [numbers]

@[simp] theorem mem_numbers {n i : Nat} : i ∈ numbers n ↔ 1 ≤ i ∧ i ≤ n := by
  simp only [numbers, List.mem_map, List.mem_range]
  constructor
  · rintro ⟨k, hk, rfl⟩; omega
  · rintro ⟨h1, h2⟩; exact ⟨i - 1, by omega, by omega⟩

theorem nth1_isSome_iff {α : Type} (l : List α) (i : Nat) : (nth1 l i).isSome = true ↔ 1 ≤ i ∧ i ≤ l.length := by
  cases i <;> simp [nth1]

theorem nth1_set1_same {α : Type} {l : List α} {i : Nat} (a : α) (h1 : 1 ≤ i) (h2 : i ≤ l.length) :
    nth1 (set1 l i a) i = some a := by
  cases i with
  | zero => omega
  | succ k => simp only [nth1, set1]; exact List.getElem?_set_self (by omega)

theorem nth1_set1_other {α : Type} (l : List α) {i j : Nat} (a : α) (h : i ≠ j) :
    nth1 (set1 l i a) j = nth1 l j := by
  cases i <;> cases j <;> simp_all [nth1, set1]

theorem nth1_modify1_same {α : Type} (l : List α) (i : Nat) (f : α → α) :
    nth1 (modify1 l i f) i = (nth1 l i).map f := by
  unfold modify1
  split
  · simp [*]
  · rename_i a h
    have := (nth1_isSome_iff l i).mp (by simp [h])
    simp [nth1_set1_same _ this.1 this.2, h]

theorem nth1_modify1_other {α : Type} (l : List α) {i j : Nat} (f : α → α) (h : i ≠ j) :
    nth1 (modify1 l i f) j = nth1 l j := by
  unfold modify1
  split
  · rfl
  · exact nth1_set1_other _ _ h

end Sys2Proof

namespace Sys2Proof.Machine

/-! ### Jaws -/

@[simp] theorem jaw_setJaw_same (s : State) (j : JawName) (x : JawState) : (s.setJaw j x).jaw j = x := by
  cases j <;> rfl

theorem jaw_setJaw_other (s : State) {j k : JawName} (x : JawState) (h : j ≠ k) : (s.setJaw j x).jaw k = s.jaw k := by
  cases j <;> cases k <;> first | exact absurd rfl h | rfl

/-! ### The set table -/

/-- The report of a change to the peers leaves the set table alone. -/
@[simp] theorem tell_sets (old new : State) : (State.tell old new).co = new.co := by
  unfold State.tell State.wantState State.pushState State.addDue
  repeat' split
  all_goals rfl

theorem findSet_tell (old new : State) (i : SetId) : (State.tell old new).findSet i = new.findSet i := by
  simp [State.findSet]

theorem find?_map_replace (l : List SetRecord) (r : SetRecord) (i : SetId) :
    (l.map (fun q => if q.id = r.id then r else q)).find? (fun q => q.id == i)
      = if i = r.id then (l.find? (fun q => q.id == i)).map (fun _ => r) else l.find? (fun q => q.id == i) := by
  induction l with
  | nil => simp
  | cons q rest ih =>
    rw [List.map_cons, List.find?_cons, List.find?_cons, ih]
    by_cases h1 : q.id = r.id
    · rw [if_pos h1, h1]
      by_cases h2 : i = r.id
      · subst h2; simp
      · have : (r.id == i) = false := by simpa using fun e => h2 e.symm
        simp [this, h2]
    · rw [if_neg h1]
      by_cases h3 : q.id = i
      · have h2 : i ≠ r.id := by rw [← h3]; exact h1
        simp [h3, h2]
      · have : (q.id == i) = false := by simpa using h3
        simp only [this]

/-- A record written is the record read. -/
theorem findSet_putSet_same {s : State} {r old : SetRecord} (h : s.findSet r.id = some old) :
    (s.putSet r).findSet r.id = some r := by
  unfold State.putSet
  rw [h]
  simp only [findSet_tell]
  unfold State.findSet at h ⊢
  simp only [find?_map_replace, if_true, h, Option.map_some]

/-- Writing a record leaves every other set's record alone. -/
theorem findSet_putSet_other (s : State) (r : SetRecord) {i : SetId} (h : i ≠ r.id) :
    (s.putSet r).findSet i = s.findSet i := by
  unfold State.putSet
  split
  · rfl
  · simp only [findSet_tell]
    unfold State.findSet
    simp only [find?_map_replace, if_neg h]

theorem findSet_id {s : State} {i : SetId} {r : SetRecord} (h : s.findSet i = some r) : r.id = i := by
  unfold State.findSet at h
  simpa using List.find?_some h

/-- A record changed in place is the changed record when it is read. -/
theorem findSet_updSet_same {s : State} {i : SetId} {r : SetRecord} {f : SetRecord → SetRecord}
    (h : s.findSet i = some r) (k : (f r).id = i) : (s.updSet i f).findSet i = some (f r) := by
  unfold State.updSet
  rw [h]
  have h' : s.findSet (f r).id = some r := by rw [k]; exact h
  have := findSet_putSet_same h'
  rw [k] at this
  exact this

theorem findSet_updSet_other (s : State) {i j : SetId} (f : SetRecord → SetRecord) (h : j ≠ i)
    (k : ∀ r, s.findSet i = some r → (f r).id = i) : (s.updSet i f).findSet j = s.findSet j := by
  unfold State.updSet
  split
  · rfl
  · rename_i r hr
    exact findSet_putSet_other s _ (by rw [k r hr]; exact h)

/-! ### The order of the set table (log 33) -/

theorem mem_insertRecord (r q : SetRecord) (l : List SetRecord) : q ∈ insertRecord r l ↔ q = r ∨ q ∈ l := by
  induction l with
  | nil => simp [insertRecord]
  | cons x rest ih =>
    unfold insertRecord
    split
    · simp
    · simp only [List.mem_cons, ih]; tauto

@[simp] theorem length_insertRecord (r : SetRecord) (l : List SetRecord) :
    (insertRecord r l).length = l.length + 1 := by
  induction l with
  | nil => rfl
  | cons x rest ih =>
    unfold insertRecord
    split
    · rfl
    · simp [ih]

theorem SetId.before_trans {a b c : SetId} (h : a.before b = true) (k : b.before c = true) : a.before c = true := by
  simp only [SetId.before, Bool.or_eq_true, Bool.and_eq_true, decide_eq_true_eq, beq_iff_eq] at *
  omega

theorem SetId.before_of_not {a b : SetId} (h : ¬a.before b = true) (n : a ≠ b) : b.before a = true := by
  obtain ⟨aj, an⟩ := a
  obtain ⟨bj, bn⟩ := b
  simp only [SetId.before, Bool.or_eq_true, Bool.and_eq_true, decide_eq_true_eq, beq_iff_eq, not_or, not_and,
    SetId.mk.injEq, ne_eq] at *
  omega

/-- A set with no record yet takes its place in ascending order. -/
theorem pairwise_insertRecord (r : SetRecord) (l : List SetRecord) (h : l.Pairwise (fun a b => a.id.before b.id = true))
    (n : ∀ q ∈ l, q.id ≠ r.id) : (insertRecord r l).Pairwise (fun a b => a.id.before b.id = true) := by
  induction l with
  | nil => simp [insertRecord]
  | cons x rest ih =>
    rw [List.pairwise_cons] at h
    unfold insertRecord
    split
    · rename_i hb
      refine List.pairwise_cons.mpr ⟨fun q hq => ?_, List.pairwise_cons.mpr h⟩
      rcases List.mem_cons.mp hq with rfl | hq
      · exact hb
      · exact SetId.before_trans hb (h.1 q hq)
    · rename_i hb
      refine List.pairwise_cons.mpr ⟨fun q hq => ?_, ih h.2 (fun q hq => n q (List.mem_cons_of_mem _ hq))⟩
      rcases (mem_insertRecord r q rest).mp hq with rfl | hq
      · exact SetId.before_of_not hb (fun e => n x (List.mem_cons_self ..) e.symm)
      · exact h.1 q hq

theorem mem_insertId {a x : SetId} {l : List SetId} : x ∈ insertId a l ↔ x = a ∨ x ∈ l := by
  induction l with
  | nil => simp [insertId]
  | cons b rest ih =>
    unfold insertId
    split
    · subst_vars; simp
    · split <;> simp [ih]
      tauto

/-- A set put into an ascending list leaves it ascending, so with each set once. -/
theorem pairwise_insertId (a : SetId) {l : List SetId} (h : l.Pairwise (fun a b => a.before b = true)) :
    (insertId a l).Pairwise (fun a b => a.before b = true) := by
  induction l with
  | nil => simp [insertId]
  | cons b rest ih =>
    obtain ⟨hb, hr⟩ := List.pairwise_cons.mp h
    unfold insertId
    split
    · exact h
    · rename_i hne
      split
      · rename_i hab
        refine List.pairwise_cons.mpr ⟨fun x hx => ?_, h⟩
        obtain rfl | hx := List.mem_cons.mp hx
        · exact hab
        · exact SetId.before_trans hab (hb x hx)
      · rename_i hab
        refine List.pairwise_cons.mpr ⟨fun x hx => ?_, ih hr⟩
        obtain rfl | hx := mem_insertId.mp hx
        · exact SetId.before_of_not hab hne
        · exact hb x hx

/-! ### Counters (R174) -/

theorem countTo_le {top n : Nat} (h : n ≤ top) : countTo top n ≤ top := by
  unfold countTo; split <;> omega

theorem count_le {n : Nat} (h : n ≤ 65535) : count n ≤ 65535 := countTo_le h

theorem countByte_le {n : Nat} (h : n ≤ 255) : countByte n ≤ 255 := countTo_le h

end Sys2Proof.Machine
end

