-- ==== Sys2Proof/Tests/Slice0.lean ====
section
/-! SUPPORT. The model's own tests: the well-formedness smoke, small steps checked against spec/, and for each statement of
Certificates/Slice0/Obligations.lean a state and operands that meet its hypotheses together. -/

open Sys2Proof Sys2Proof.Machine

namespace Sys2Proof.Tests

set_option maxRecDepth 8000

/-- Straps of station 3 with 4 bins, 8 rack pockets and 2 delivery pockets; three pins at 1, so good. -/
def straps3 : Straps := { station := 3, bins := 0, rack := 0, delivery := 0, parity := 1 }

/-- Job 1: OPEN, FORWARD, no staples, REPEATED reprints with delay 2, interval 2 and limit 3. -/
def job1 : JobRecord :=
  { job := 1, label := List.replicate 8 65, setCount := none, staple := .none, order := .forward,
    policy := { mode := .repeated, delay := 2, interval := 2, limit := 3 }, state := .opened, adopted := false,
    doneMap := [] }

/-- A delivery pocket sampled twice at 0 mm: bindable. -/
def readyPocket : Pocket := { Pocket.reset with last := some 0, previous := some 0, empty := true }

/-- Station 3, ACTIVE, with job 1 announced and two bindable pockets. -/
def base : State :=
  { State.reset with
    bs := { State.reset.bs with state := .active, straps := straps3, lamp := .on }
    jt := { jobs := [job1], tableFull := 0 }
    dc := { pockets := [readyPocket, readyPocket], list := [] }
    lc := { State.reset.lc with silence := true, cadence := true } }

/-- Set 1 of job 1. -/
def set11 : SetId := { job := 1, num := 1 }

/-- A record of set 1 of job 1, in bin 1 and for pocket 1, with a page map. -/
def record11 (x : SetState) (map : List PageStatus) : SetRecord :=
  { id := set11, pages := map.length, state := x, bin := some 1, order := .forward, staple := .none,
    policy := job1.policy, map := map, pocket := 1, deadline := x == .claiming, watch := 0, attempts := 0,
    countdown := 0, skipPending := false, stranded := false, isPartial := false, waiting := .none, record := 0 }

/-- The base state holding one record, its bin ASSIGNED and its pocket bound and charged. -/
def holding (r : SetRecord) : State :=
  { base with
    co := { base.co with sets := [r], made := 1, bins := [.assigned, .available, .available, .available] }
    dc := { base.dc with
      pockets := [{ readyPocket with binding := some 1, committed := r.load, refs := 1, lamp := .on }, readyPocket] } }

/-- 5.6 and then R52: a set taken back by a FINISH whose YIELD(LATE) still waits for room in the urgent queue. -/
def takenBack : State :=
  { holding (record11 .complete [.placed, .absent]) with
    cu := { base.cu with late := [{ id := set11, queued := false }], waiting := [.yield set11 .late] }
    lc := { base.lc with urgent := List.replicate 4 (TxEntry.fresh (.yield { job := 1, num := 2 } .staff)) } }

/-- The page reference of page `p` of `record11`. -/
def ref11 (p : Nat) : PageRef := { id := set11, page := p, record := 0 }

/-- The gate busy with an entry of carrier 5. -/
def gateBusy (a : Action) (r : Option PageRef) (s : State) : State :=
  { s with gc := { s.gc with gate := .busy { carrier := 5, action := a, target := r } } }

/-- The approach queue set. -/
def queued (q : List Entry) (s : State) : State := { s with gc := { s.gc with queue := q } }

/-- A read window open with a carrier number and two mark reads, about to close. -/
def closingWith (w : Window) (s : State) : State :=
  { s with ri := { s.ri with carrier := true, lastSample := some (false, false), window := some w } }

/-- A window of carrier `n` with no sheet. -/
def emptyWindow (n : Option Nat) : Window := { number := n, first := none, second := none, sensed := false }

/-- The strip of a page of a set of job 1, with its check (R3). -/
def stripOf (num page pages : Nat) : Strip :=
  { job := 1, num := num, page := page, pages := pages, check := (1 + 3 * num + 5 * page + 7 * pages) % 64 }

/-- A window of carrier `n` in which a strip was read twice. -/
def stripWindow (n : Nat) (m : Strip) : Window :=
  { number := some n, first := some (.strip m), second := some (.strip m), sensed := true }

/-- The mark of a page of set 1 of job 1. -/
def mark11 (page pages : Nat) : Mark := { id := set11, page := page, pages := pages }

/-- Nothing is numbered below 1. -/
theorem noneBelow1 {α : Type} (l : List α) (P : α → Prop) : ∀ q y, q < 1 → nth1 l q = some y → P y
  | 0, _, _, h => nomatch h
  | _ + 1, _, h, _ => absurd h (by omega)

/-! ### Well-formedness: one ill-formed command for each check, refused -/

/-- A frame of 16 body bytes, one more than 10.10.1 gives a frame. -/
def longFrame : Frame := { cls := 0, origin := 5, body := List.replicate 16 0 }

def goodFrame : Frame := { cls := 1, origin := 13, body := [0x30] }

theorem test_wf_frameLength : (Instr.claim longFrame).wf = false := by decide

theorem test_wf_binNumber : (Instr.binJammed 0).wf = false ∧ (Instr.binJammed 17).wf = false := by decide

theorem test_wf_placeNumber :
    (Instr.placeCleared (.bin 0)).wf = false ∧ (Instr.placeCleared (.rackPocket 17)).wf = false := by decide

theorem test_wf_deliveryPocket :
    (Instr.deliverIssue 5).wf = false ∧ (Instr.delivered .a .ok 0).wf = false ∧ (Instr.heightSample 5 0).wf = false := by
  decide

theorem test_wf_setOfDeadline :
    (Instr.claimDeadlineExpiry 0 1).wf = false ∧ (Instr.claimDeadlineExpiry 256 1).wf = false
      ∧ (Instr.claimDeadlineExpiry 1 0).wf = false ∧ (Instr.claimDeadlineExpiry 1 1024).wf = false := by decide

/-- A frame whose check agrees is no BAD_FRAME_CHECK. -/
theorem test_wf_badCheckDiffers : (Instr.badFrameCheck 8 goodFrame (frameCheck 8 goodFrame)).wf = false := by decide

theorem test_wf_kindKnown : (Instr.unknownKindNotice 1 goodFrame).wf = false := by decide

theorem test_wf_setactCode :
    (Instr.setactYield { cls := 1, origin := 13, body := [1, 0, 64] }).wf = false
      ∧ (Instr.setactRefusedAsMalformed { cls := 1, origin := 13, body := [1, 0, 64] }).wf = false := by decide

theorem test_wf_serviceCode :
    (Instr.serviceStop goodFrame).wf = false ∧ (Instr.serviceRefusedAsMalformed goodFrame).wf = false := by decide

theorem test_wf_sensors :
    (Instr.serviceRestart { goodFrame with body := [0x33] } straps3 { found := [.bin 17], feeder := 0 }).wf = false
      ∧ (Instr.powerOnReset straps3 { found := [.rackPocket 0], feeder := 0 }).wf = false := by decide

theorem test_wf_station :
    (Instr.presenceTimerExpiry 0).wf = false ∧ (Instr.presenceTimerExpiry 9).wf = false := by decide

theorem test_wf_goodCommands :
    (Instr.serviceDrain goodFrame).wf = true ∧ (Instr.placeCleared (.bin 16)).wf = true
      ∧ (Instr.claimDeadlineExpiry 255 1023).wf = true := by decide

/-! ### No table word spells a command -/

theorem test_noTableWord : decodeTableWord 8 0 = none := rfl

theorem test_fetchWordLeavesState : base.withFetchWord 8 0 = base := rfl

/-! ### Marks (1.2.1: job 12, set 37, page 4 of 6, check 57) -/

theorem test_mark_check :
    (Strip.mk 12 37 4 6 57).valid = true ∧ (Strip.mk 12 37 4 6 59).valid = false
      ∧ (Strip.mk 12 37 5 6 57).valid = false := by decide

/-- A strip with page 7 and pages 6 is not valid whatever its check. -/
theorem test_mark_pageBeyondPages : ∀ c : Fin 64, (Strip.mk 12 37 7 6 c).valid = false := by decide

/-- 10.10.3: the bits of that mark: found 1, unused 000, job 00001100, set 0000100101, page 000100, pages 000110, check 111001. -/
theorem test_mark_bits :
    markOfBits 0b1000000011000000100101000100000110111001#40 = .strip (.mk 12 37 4 6 57) := by decide

/-! ### A JOB's fields (2.6.1: job 40, "ART 7C", count 3, CORNER, FORWARD, REPEAT 4, 3, limit 0) -/

/-- Byte 0 the job; bytes 1..8 the label; byte 9, 10: count 3, staple 01, order 00, repeat 0; byte 11, 12: mode 10, delay 0100,
interval 0011, limit 000. -/
def job40 : Frame :=
  { cls := 1, origin := 0, body := [40, 65, 82, 84, 32, 55, 67, 32, 32, 0x00, 0x68, 0x90, 0xC0] }

/-- The limit of 0 is clamped to policy NONE with limit 1. -/
theorem test_job_fields :
    jobFields job40 =
      some { job := 40, label := [65, 82, 84, 32, 55, 67, 32, 32], setCount := some 3, staple := .corner,
             order := .forward, policy := { mode := .none, delay := 4, interval := 3, limit := 1 },
             repeatFlag := false } := by decide

/-- A label may not start with a space (R21). -/
theorem test_job_labelSpace : labelOk [32, 65, 65, 65, 65, 65, 65, 65] = false := by decide

/-! ### A frame's bits (10.10.1) -/

/-- SERVICE STOP to station 3 from station 13: class 01, origin 1101, kind 001000, length 0001, body 00110001. -/
theorem test_frameBits :
    natOfBits (frameBits 8 { cls := 1, origin := 13, body := [0x31] }) = 0b011101001000000100110001 := by decide

theorem test_frameCommand :
    commandOfFrame 8 { cls := 1, origin := 13, body := [0x31] } straps3 { found := [], feeder := 0 }
      = .serviceStop { cls := 1, origin := 13, body := [0x31] } := by decide

/-! ### Admission at the limit (9.4.1) -/

/-- A pocket at 150 mm with a committed load of 30 admits a 20-page set of a CORNER job; at 176 mm it does not. -/
theorem test_admission :
    ({ readyPocket with last := some 150, committed := 30 }).admits (wholeCost 20 .corner) = true
      ∧ ({ readyPocket with last := some 176, committed := 30 }).admits (wholeCost 20 .corner) = false := by decide

/-- A set of 61 pages is above the staple limit and costs 61. -/
theorem test_cost_aboveStapleLimit : wholeCost 61 .corner = 61 ∧ wholeCost 12 .corner = 15 := by decide

/-! ### Heights (9.8) -/

/-- Pocket 1 of the example, at 221 after 223, FULL and BLOCKED. -/
def tallPocket : Pocket :=
  { readyPocket with last := some 221, previous := some 223, full := true, blocked := true, empty := false }

/-- Samples 212 and 209 leave BLOCKED set, and 206 clears it; FULL stays set. -/
theorem test_heights :
    ((tallPocket.sampled 212).sampled 209).blocked = true
      ∧ (((tallPocket.sampled 212).sampled 209).sampled 206).blocked = false
      ∧ (((tallPocket.sampled 212).sampled 209).sampled 206).full = true := by decide

/-! ### Small steps -/

/-- R88: a set held by a late claim and by a record taken back is in the backlog once. -/
theorem test_hello_setHeldOnce :
    ∃ t, exec (.hello { cls := 2, origin := 5, body := [5, 16] }) { takenBack with pending := [] } = .next t
      ∧ t.cu.backlog = [set11] ∧ t.cu.waiting = [.yield set11 .late, .helds] := ⟨_, rfl, by decide⟩

/-- 3.7.1: RELEASED of page 1 with page 2 HELD: page 1 is PLACED and the release of page 2 starts. -/
def releasing11 : State :=
  let s := holding (record11 .collecting [.releasing 3, .held 1, .absent])
  { s with hr := { s.hr with
    pockets := [.holding set11 2, .free, .holding set11 1, .free, .free, .free, .free, .free]
    rack := .busy (.release { pocket := 3, id := set11, page := 1, dest := .bin 1 }) } }

theorem test_released_startsNext :
    ∃ t, exec (.released .ok) releasing11 = .next t
      ∧ (t.co.sets.map (fun r => r.map)) = [[.placed, .releasing 1, .absent]]
      ∧ t.hr.rack = .busy (.release { pocket := 1, id := set11, page := 2, dest := .bin 1 }) :=
  ⟨_, rfl, by decide, by decide⟩

/-- 1.6.1: an arrival of the second entry's carrier lapses the older entry, and the PASS completes at once. -/
theorem test_missedArrival :
    ∃ t, exec (.gateArrival 22)
        (queued [⟨21, .bin 1, some (ref11 1)⟩, ⟨22, .pass, none⟩, ⟨23, .reject, none⟩]
          (holding (record11 .collecting [.inboundBin, .absent]))) = .next t
      ∧ t.gc.queue = [⟨23, .reject, none⟩] ∧ t.gc.gate = .idle ∧ t.gc.lapsed = 1
      ∧ t.co.sets.map (fun r => r.map) = [[.absent, .absent]] :=
  ⟨_, rfl, by decide, by decide, by decide, by decide⟩

/-- R18: the tray is emptied. -/
theorem test_rejectEmptied :
    ∃ t, exec .rejectEmptied { base with gc := { base.gc with tray := 13 } } = .next t ∧ t.gc.tray = 0 :=
  ⟨_, rfl, rfl⟩

/-- 7.8.1: at watch 3 with delay 4 a LAP makes a REPRINT due, and its countdown becomes the interval. -/
theorem test_lap_reprints :
    ((holding { record11 .collecting [.placed, .absent] with
        watch := 3, policy := { mode := .repeated, delay := 4, interval := 3, limit := 2 } }).lap).co.sets.map
      (fun r => (r.watch, r.countdown, r.attempts)) = [(4, 3, 1)] := by decide

/-- R1: one differing sample changes no agreed value; the second does, and opens the window. -/
theorem test_twoSamples :
    ((base.sample true false).ri.carrier, ((base.sample true false).sample true false).ri.window.isSome) = (false, true) := by
  decide

/-- 10.10.2: a STATE of a bay ACTIVE (2) with its head EMPTY (3), 5 free bins, 1 stranded set, pocket 1 of job 9 FULL. -/
theorem test_stateBody :
    stateBody (.mk 2 3 5 1 [.mk 9 true false, .mk 0 false false]) = [0x23, 5, 1, 9, 1, 0, 0] := by decide

/-- R154: at another bay's GONE(5) this bay's own GONE(5), on the line, goes out as it stands. -/
theorem test_gone_onLine :
    ∃ t, exec (.gone { cls := 1, origin := 6, body := [5] })
        { base with lc := { base.lc with
          peers := set1 base.lc.peers 5 { Peer.absent with present := true }
          routine := [⟨.gone 5, 1, false, some { cls := 1, origin := 3, body := [5] }⟩, .fresh (.gone 5)] } } = .next t
      ∧ t.lc.routine = [⟨.gone 5, 1, false, some { cls := 1, origin := 3, body := [5] }⟩] :=
  ⟨_, rfl, by decide⟩

/-- R10, R17: in FAULT(CARRIAGE) with the gate FAULTED a late sheet is counted and passed. -/
theorem test_late_faultedGate :
    ∃ t, exec (.readerSample false false)
        (closingWith (stripWindow 5 (stripOf 1 1 2)) { base with
          bs := { base.bs with state := .fault .carriage }
          gc := { base.gc with gate := .faulted }
          jt := { jobs := [{ job1 with doneMap := [1] }], tableFull := 0 } }) = .next t
      ∧ t.gc.late = 1 ∧ t.gc.queue = [Entry.bare 5 .pass] :=
  ⟨_, rfl, by decide, by decide⟩

/-! ### Witnesses of the statements -/

/-- A record half collected, a set that station 5 owns, and REJECT_EMPTIED waiting. -/
def emptying : State :=
  { holding (record11 .collecting [.placed, .absent]) with
    cu := { base.cu with foreign := [{ id := { job := 1, num := 9 }, owner := 5 }] }
    lc := { base.lc with peers := set1 base.lc.peers 5 { Peer.absent with present := true } }
    pending := [.rejectEmptied] }

/-- What follows it. -/
def emptied : State := { emptying with pending := [] }

theorem step_emptying : step emptying = .next emptied := rfl

theorem witness_QueuesStayBounded :
    ∃ s t : State, step s = .next t ∧ s.approachBounded ∧ s.transmitBounded :=
  ⟨emptying, emptied, rfl, by unfold State.approachBounded; decide, by unfold State.transmitBounded; decide⟩

theorem witness_QueuesStayBounded_waiting :
    ∃ s t : State, step s = .next t ∧ s.noNeedlessWait ∧ s.cu.waiting ≠ [] :=
  ⟨{ takenBack with pending := [.rejectEmptied] }, takenBack, rfl, .inr (by decide), by decide⟩

theorem witness_TrayAndFeederStayCovered :
    ∃ s t : State, step s = .next t ∧ s.trayBounded ∧ s.fillsCovered ∧ s.feederBalanced :=
  ⟨emptying, emptied, rfl, by unfold State.trayBounded; decide, by unfold State.fillsCovered; decide,
    by unfold State.feederBalanced; decide⟩

theorem witness_TablesStaySound : ∃ s t : State, step s = .next t ∧ s.setTableSound ∧ s.jobTableSound :=
  ⟨emptying, emptied, rfl, by unfold State.setTableSound; decide, by unfold State.jobTableSound; decide⟩

theorem witness_TablesStaySound_bay :
    ∃ s t : State, step s = .next t ∧ s.setTableSound ∧ s.setsSuitBay ∧ s.bs.state = .service ∧ s.co.sets ≠ [] :=
  ⟨{ holding (record11 .surrendering [.placed, .absent]) with
      bs := { base.bs with state := .service }, pending := [.rejectEmptied] }, _, rfl,
    by unfold State.setTableSound; decide, by unfold State.setsSuitBay; decide, rfl, by decide⟩

theorem witness_WatchStaysSound : ∃ s t : State, step s = .next t ∧ s.watchSound :=
  ⟨emptying, emptied, rfl, by unfold State.watchSound SetRecord.watchSound; decide⟩

theorem witness_DoneListStaysSound : ∃ s t : State, step s = .next t ∧ s.doneListSound :=
  ⟨emptying, emptied, rfl, by decide, fun _ _ h => nomatch h⟩

theorem witness_CountersStaySound : ∃ s t : State, step s = .next t ∧ s.countersSound ∧ s.staplesSound :=
  ⟨emptying, emptied, rfl, by unfold State.countersSound; decide, fun _ h => nomatch h⟩

theorem witness_PocketsAndLampsStaySound :
    ∃ s t : State, step s = .next t ∧ s.pocketsSound ∧ s.bayLampSound :=
  ⟨emptying, emptied, rfl, by unfold State.pocketsSound Pocket.sound; decide, by unfold State.bayLampSound; decide⟩

theorem witness_LoadsStayBalanced :
    ∃ s t : State, step s = .next t ∧ s.setTableSound ∧ s.loadsBalanced :=
  ⟨emptying, emptied, rfl, by unfold State.setTableSound; decide, fun p x h => by
    match p, h with
    | 0, h => exact nomatch h
    | 1, h => cases h; decide
    | 2, h => cases h; decide
    | n + 3, h => exact nomatch h⟩

/-- Its places agree with its one record, which holds bin 1. -/
theorem emptying_places : emptying.placesSound where
  binOfRecord := by decide
  oneHolder := by decide
  holder := by decide
  binOfState := by decide
  requests := by unfold State.requestSound; decide
  oneRequest := by decide
  loading := by decide
  jawOfRecord := by decide
  recordOfJaw := by decide
  oneJaw := by decide

/-- Its rack is empty. -/
theorem emptying_rack : emptying.rackSound where
  wholeMap := by decide
  share := by decide
  pages := by
    intro r hr p hp
    rw [List.mem_singleton.mp hr] at hp ⊢
    have h : p = 1 ∨ p = 2 := by revert p; decide
    obtain rfl | rfl := h <;> trivial
  pockets := by
    intro k hk x hx
    have h : x = .free := by revert x; revert k; decide
    rw [h]
    trivial
  served _ :=
    { entries := fun _ h => nomatch h
      oneEntry := by decide
      places := by decide
      inlet := by decide
      oneSheet := by decide
      store := rfl
      releases := fun _ h => nomatch h
      oneRelease := by decide
      ended := by decide }
  outOfService h := nomatch h

/-- Three CLAIMs waiting for the line and one late claim, with REJECT_EMPTIED waiting. -/
def lateOnce : State :=
  { takenBack with
    cu := { base.cu with late := [{ id := set11, queued := false }] }
    lc := { base.lc with urgent := List.replicate 3 (TxEntry.fresh (.claim { job := 1, num := 2 } 4)) }
    pending := [.rejectEmptied] }

theorem witness_ForeignListStaysSound_1 :
    ∃ s t : State, step s = .next t ∧ s.setTableSound ∧ s.setsSuitBay ∧ s.listsFitted ∧ s.placesSound ∧ s.foreignSound
      ∧ s.cu.foreign ≠ [] :=
  ⟨emptying, emptied, rfl, by unfold State.setTableSound; decide, trivial, by unfold State.listsFitted; decide,
    emptying_places, by unfold State.foreignSound State.foreignEntrySound; decide, by decide⟩

theorem witness_ForeignListStaysSound_2 :
    ∃ s t : State, step s = .next t ∧ s.lateSound ∧ s.cu.late ≠ [] :=
  ⟨lateOnce, _, rfl, by unfold State.lateSound; decide, by decide⟩

theorem witness_PlacesMatchRecords_3 : ∃ s t : State, step s = .next t ∧ s.listsFitted :=
  ⟨emptying, emptied, rfl, by unfold State.listsFitted; decide⟩

theorem witness_PlacesMatchRecords : ∃ s t : State, step s = .next t ∧ s.setTableSound ∧ s.placesSound :=
  ⟨emptying, emptied, rfl, by decide, emptying_places⟩

theorem witness_RackMatchesPages :
    ∃ s t : State, step s = .next t ∧ s.setTableSound ∧ s.placesSound ∧ s.rackSound :=
  ⟨emptying, emptied, rfl, by decide, emptying_places, emptying_rack⟩

theorem witness_StepRunsFrontCommand : ∃ s : State, s.pending = [] := ⟨State.reset, rfl⟩

theorem witness_FrameBitsReadBack :
    ∃ (i : Instr) (x : Straps) (v : Sensors) (l : LineFrame), i.wf = true ∧ frameOfCommand i = some l
      ∧ (∀ f y w, i = .serviceRestart f y w → y = x ∧ w = v) :=
  ⟨.claim { cls := 0, origin := 5, body := [1, 0, 66] }, straps3, { found := [], feeder := 0 },
    lineFrameOfKind .claim { cls := 0, origin := 5, body := [1, 0, 66] }, by decide, rfl, fun _ _ _ h => nomatch h⟩

theorem witness_BodiesReadBack_1 :
    ∃ (f : Frame) (i : SetId) (n : Nat), i.job ≤ 255 ∧ i.num ≤ 1023 ∧ n ≤ 63 ∧ f.body = claimBody i n :=
  ⟨{ cls := 0, origin := 5, body := claimBody { job := 255, num := 1023 } 63 }, { job := 255, num := 1023 }, 63, by
    decide, by decide, by decide, rfl⟩

theorem witness_BodiesReadBack_2 :
    ∃ (f : Frame) (l : List SetId), (∀ i ∈ l, i.job ≤ 255 ∧ i.num ≤ 1023) ∧ f.body = heldBody l :=
  ⟨{ cls := 0, origin := 5, body := heldBody [set11, { job := 255, num := 1023 }] }, [set11, { job := 255,
                                                                                               num := 1023 }], by
    decide, rfl⟩

theorem witness_BodiesReadBack_3 :
    ∃ (f : Frame) (i : SetId) (r : YieldReason), i.job ≤ 255 ∧ i.num ≤ 1023 ∧ f.body = yieldBody i r :=
  ⟨{ cls := 0, origin := 5, body := yieldBody { job := 255, num := 1023 } .late }, { job := 255, num := 1023 }, .late,
    by decide, by decide, rfl⟩

theorem witness_BodiesReadBack_4 :
    ∃ (f : Frame) (d : DoneNotice), d.id.job ≤ 255 ∧ d.id.num ≤ 1023 ∧ d.pages ≤ 63 ∧ f.body = doneBody d :=
  ⟨{ cls := 1, origin := 5, body := doneBody (.mk set11 63 .partialSet 4) }, .mk set11 63 .partialSet 4, by decide, by
    decide, by decide, rfl⟩

theorem witness_BodiesReadBack_5 :
    ∃ (f : Frame) (c : StateContent), 1 ≤ c.bay ∧ c.bay ≤ 9 ∧ c.head ≤ 4 ∧ c.freeBins ≤ 16 ∧ c.stranded ≤ 16 ∧ (∀ p ∈
      c.pockets, p.job ≤ 255) ∧ f.body = stateBody c :=
  ⟨{ cls := 2, origin := 5, body := stateBody (.mk 9 4 16 16 [.mk 255 true true]) }, .mk 9 4 16 16 [.mk 255 true
    true], by decide, by decide, by decide, by decide, by decide, by decide, rfl⟩

theorem witness_BodiesReadBack_6 :
    ∃ (f : Frame) (x b : Nat), x ≤ 255 ∧ b ≤ 255 ∧ f.body = helloBody x b :=
  ⟨{ cls := 2, origin := 5, body := helloBody 8 16 }, 8, 16, by decide, by decide, rfl⟩

theorem witness_BodiesReadBack_7 :
    ∃ (f : Frame) (x : Nat), x ≤ 255 ∧ f.body = goneBody x :=
  ⟨{ cls := 1, origin := 5, body := goneBody 8 }, 8, by decide, rfl⟩

theorem witness_ReaderInputsTaken_1a :
    ∃ (s : State) (a b h : Bool), ¬(a ≠ s.ri.carrier ∧ s.ri.lastSample.map (·.1) = some a) ∧ h = (if b ≠ s.ri.sheet ∧
      s.ri.lastSample.map (·.2) = some b then b else s.ri.sheet) :=
  ⟨base, true, true, false, by decide⟩

theorem witness_ReaderInputsTaken_1b :
    ∃ (s : State) (a b h : Bool), ¬(a ≠ s.ri.carrier ∧ s.ri.lastSample.map (·.1) = some a) ∧ h = (if b ≠ s.ri.sheet ∧
      s.ri.lastSample.map (·.2) = some b then b else s.ri.sheet) :=
  ⟨closingWith (emptyWindow (some 3)) base, true, true, false, by decide⟩

theorem witness_ReaderInputsTaken_2 :
    ∃ (s : State) (b h : Bool), s.ri.carrier = false ∧ s.ri.lastSample.map (·.1) = some true ∧ h = (if b ≠ s.ri.sheet
      ∧ s.ri.lastSample.map (·.2) = some b then b else s.ri.sheet) :=
  ⟨{ base with ri := { base.ri with lastSample := some (true, true) } }, true, true, by decide⟩

theorem witness_ReaderInputsTaken_3 :
    ∃ (s : State) (w : Window), s.ri.window = some w :=
  ⟨closingWith (emptyWindow none) base, emptyWindow none, by decide⟩

theorem witness_ReaderInputsTaken_4 :
    ∃ (s : State) (w : Window), s.ri.window = some w ∧ w.first = none :=
  ⟨closingWith (emptyWindow none) base, emptyWindow none, by decide⟩

theorem witness_ReaderInputsTaken_5 :
    ∃ (s : State) (w : Window), s.ri.window = some w ∧ w.first ≠ none :=
  ⟨closingWith (stripWindow 5 (stripOf 1 1 2)) base, stripWindow 5 (stripOf 1 1 2), by decide⟩

theorem witness_ReaderInputsTaken_6 :
    ∃ (s : State), s.ri.window = none :=
  ⟨base, by decide⟩

theorem witness_MarkStripValidity :
    ∃ (w : Window) (n : Nat) (m : Strip), w.number = some n ∧ n < 240 ∧ w.sensed = true ∧ w.first = some (.strip m) ∧
      w.second = some (.strip m) :=
  ⟨stripWindow 239 (stripOf 1 2 2), 239, stripOf 1 2 2, by decide⟩

theorem witness_ReadClassifiedAtClosing_1a :
    ∃ (s : State) (w : Window) (n : Nat), s.closing w ∧ w.number = some n ∧ (1 ≤ n ∨ s.lapless) ∧ n < 240 ∧ w.sensed =
      false ∧ s.gc.queue.length < 3 :=
  ⟨closingWith (emptyWindow (some 239)) base, emptyWindow (some 239), 239, by decide⟩

theorem witness_ReadClassifiedAtClosing_1b :
    ∃ (s : State) (w : Window) (n : Nat), s.closing w ∧ w.number = some n ∧ (1 ≤ n ∨ s.lapless) ∧ n < 240 ∧ w.sensed =
      false ∧ s.gc.queue.length < 3 :=
  ⟨closingWith (emptyWindow (some 0)) base, emptyWindow (some 0), 0, by decide⟩

theorem witness_ReadClassifiedAtClosing_2 :
    ∃ (s : State) (w : Window) (n : Nat), s.closing w ∧ w.number = some n ∧ (1 ≤ n ∨ s.lapless) ∧ n < 240 ∧ w.sensed =
      true ∧ (∀ m, w.first = some (.strip m) → w.second = some (.strip m) → m.valid = false) ∧ s.gc.queue.length < 3 :=
  ⟨closingWith { emptyWindow (some 0) with sensed := true } base, { emptyWindow (some 0) with sensed := true }, 0, by
    decide, by decide, by decide, by decide, by decide, (fun m h => by simp [emptyWindow] at h), by decide⟩

theorem witness_ReadClassifiedAtClosing_3 :
    ∃ (s : State) (w : Window), s.closing w ∧ (w.number = none ∨ 240 ≤ w.number.getD 0) ∧ s.gc.queue.length < 3 :=
  ⟨closingWith (emptyWindow none) base, emptyWindow none, by decide⟩

theorem witness_ReadClassifiedAtClosing_4 :
    ∃ (s : State) (w : Window) (n : Nat) (e : Entry) (q : List Entry), s.closing w ∧ w.number = some n ∧ (1 ≤ n ∨
      s.lapless) ∧ n < 240 ∧ w.sensed = false ∧ s.gc.queue = e :: q ∧ 3 ≤ s.gc.queue.length ∧ q.length < 3 ∧ e.action
      = .pass ∧ e.target = none :=
  ⟨queued (List.replicate 3 (Entry.bare 1 .pass)) (closingWith (emptyWindow (some 4)) base), emptyWindow (some 4), 4,
    Entry.bare 1 .pass, List.replicate 2 (Entry.bare 1 .pass), by decide⟩

theorem witness_ReadClassifiedAtClosing_5 :
    ∃ (s : State) (w : Window) (e : Entry) (q : List Entry), s.closing w ∧ s.gc.queue = e :: q ∧ 3 ≤ s.gc.queue.length
      ∧ q.length < 3 ∧ (e.action = .pass ∨ e.action = .reject ∨ e.action = .fill) ∧ e.target = none :=
  ⟨queued (Entry.bare 1 .reject :: List.replicate 2 (Entry.bare 1 .pass)) (closingWith (stripWindow 5 (stripOf 1 1 2))
    base), stripWindow 5 (stripOf 1 1 2), Entry.bare 1 .reject, List.replicate 2 (Entry.bare 1 .pass), by decide⟩

theorem witness_ReadClassifiedAtClosing_6 :
    ∃ (s : State) (w : Window) (e : Entry) (q : List Entry) (g : PageRef) (r : SetRecord) (c : Nat), s.closing w ∧
      w.number ≠ some 0 ∧ s.gc.queue = e :: q ∧ 3 ≤ s.gc.queue.length ∧ q.length < 3 ∧ e.action = .bin c ∧ e.target =
      some g ∧ s.recordOf g = some r ∧ (r.state = .claiming ∨ r.state = .collecting) ∧ r.status g.page = .inboundBin ∧
      s.setTableSound :=
  ⟨queued ({ carrier := 9, action := .bin 1, target := some { id := set11, page := 1, record := 0 } } ::
    List.replicate 2 (Entry.bare 1 .pass)) (closingWith (stripWindow 5 (stripOf 1 1 2)) (holding (record11 .collecting
    [.inboundBin, .placed]))), stripWindow 5 (stripOf 1 1 2), { carrier := 9, action := .bin 1,
                                                                target := some { id := set11, page := 1,
                                                                                 record := 0 } }, List.replicate 2
    (Entry.bare 1 .pass), { id := set11, page := 1, record := 0 }, (record11 .collecting [.inboundBin, .placed]), 1,
    by decide⟩

theorem witness_ReadClassifiedAtClosing_7 :
    ∃ (s : State) (w : Window) (e : Entry) (q : List Entry) (g : PageRef) (r : SetRecord) (k : Nat), s.closing w ∧
      w.number ≠ some 0 ∧ s.gc.queue = e :: q ∧ 3 ≤ s.gc.queue.length ∧ q.length < 3 ∧ e.action = .rack k ∧ e.target =
      some g ∧ s.recordOf g = some r ∧ (r.state = .claiming ∨ r.state = .collecting) ∧ r.status g.page = .inboundRack
      k ∧ s.setTableSound ∧ nth1 s.hr.pockets k = some (.reserved g.id g.page) :=
  ⟨queued ({ carrier := 9, action := .rack 1, target := some { id := set11, page := 1, record := 0 } } ::
    List.replicate 2 (Entry.bare 1 .pass)) (closingWith (emptyWindow (some 5))
    { holding (record11 .collecting [.inboundRack 1, .placed]) with hr := { base.hr with pockets := set1 base.hr.pockets 1 (.reserved set11 1),
                                                                                         inletReserved := 1 } }),
    emptyWindow (some 5), { carrier := 9, action := .rack 1, target := some { id := set11, page := 1, record := 0 } },
    List.replicate 2 (Entry.bare 1 .pass), { id := set11, page := 1, record := 0 }, (record11 .collecting
    [.inboundRack 1, .placed]), 1, by decide⟩

theorem witness_ReadClassifiedAtClosing_8 :
    ∃ (s : State) (w : Window) (n : Nat), s.closing w ∧ w.number = some 0 ∧ 1 ≤ n ∧ n < 240 :=
  ⟨closingWith (stripWindow 0 (stripOf 1 1 2)) base, stripWindow 0 (stripOf 1 1 2), 1, by decide⟩

theorem witness_CarrierNumberHandled_1 :
    ∃ (s : State) (w : Window) (n : Nat), s.closing w ∧ w.number = some n ∧ n < 240 :=
  ⟨{ closingWith (emptyWindow (some 0)) base with ri := { (closingWith (emptyWindow (some 0)) base).ri with lastNumber := some 47,
                                                                                                            loopSize := some 96 } },
    emptyWindow (some 0), 0, by decide⟩

theorem witness_CarrierNumberHandled_2 :
    ∃ (s : State) (w : Window), s.closing w ∧ (w.number = none ∨ 240 ≤ w.number.getD 0) :=
  ⟨closingWith (emptyWindow (some 240)) base, emptyWindow (some 240), by decide⟩

theorem witness_CarrierNumberHandled_3 :
    ∃ (s : State) (w : Window), s.closing w :=
  ⟨closingWith (emptyWindow (some 0)) base, emptyWindow (some 0), by decide⟩

theorem witness_CarrierNumberHandled_4 :
    ∃ s t : State, step s = .next t ∧ (∀ l ∈ s.ri.lastNumber, l ≤ 239) ∧ (∀ c ∈ s.ri.loopSize, 48 ≤ c ∧ c ≤ 240)
      ∧ s.ri.lastNumber.isSome = true ∧ s.ri.loopSize.isSome = true :=
  ⟨{ emptying with ri := { emptying.ri with lastNumber := some 239, loopSize := some 240 } }, _, rfl,
    (fun _ h => by cases h; decide), (fun _ h => by cases h; decide), rfl, rfl⟩

theorem witness_CarrierNumberHandled_6 :
    ∃ (s : State) (f : Frame), s.hears .service f ∧ serviceStation f = s.station
      ∧ (s.bs.state = .service ∨ ∃ c, s.bs.state = .fault c) :=
  ⟨{ base with bs := { base.bs with state := .fault .linkLost } }, { cls := 1, origin := 13, body := [0x33] },
    by decide, by decide, .inr ⟨.linkLost, rfl⟩⟩

theorem witness_ClaimMadeAtRead_1 :
    ∃ (s : State) (n : Nat) (m : Mark) (j : JobRecord) (p c : Nat), s.marks n m ∧ s.passesMarked = false ∧ s.findJob
      m.id.job = some j ∧ m.id.num ∉ j.doneMap ∧ s.gc.gate ≠ .faulted ∧ s.standing m.id = false ∧ s.findSet m.id =
      none ∧ j.state = .opened ∧ s.mayClaim j = true ∧ s.pocketFor j m.pages = some p ∧ s.searchBin = some c :=
  ⟨closingWith (stripWindow 5 (stripOf 1 1 3)) (base), 5, mark11 1 3, job1, 1, 1, by decide⟩

theorem witness_ClaimMadeAtRead_2 :
    ∃ (s : State) (n : Nat) (m : Mark) (j : JobRecord) (p c : Nat), s.marks n m ∧ s.passesMarked = false ∧ s.findJob
      m.id.job = some j ∧ m.id.num ∉ j.doneMap ∧ s.gc.gate ≠ .faulted ∧ s.standing m.id = false ∧ s.findSet m.id =
      none ∧ j.state = .opened ∧ s.mayClaim j = true ∧ s.pocketFor j m.pages = some p ∧ s.searchBin = some c ∧ m.page
      = (if j.order = .forward then 1 else m.pages) :=
  ⟨closingWith (stripWindow 5 (stripOf 1 1 63)) (base), 5, mark11 1 63, job1, 1, 1, by decide⟩

theorem witness_ClaimMadeAtRead_3 :
    ∃ (s : State) (n : Nat) (m : Mark) (j : JobRecord) (p c k : Nat), s.marks n m ∧ s.passesMarked = false ∧ s.findJob
      m.id.job = some j ∧ m.id.num ∉ j.doneMap ∧ s.gc.gate ≠ .faulted ∧ s.standing m.id = false ∧ s.findSet m.id =
      none ∧ j.state = .opened ∧ s.mayClaim j = true ∧ s.pocketFor j m.pages = some p ∧ s.searchBin = some c ∧ m.page
      ≠ (if j.order = .forward then 1 else m.pages) ∧ s.rackInService = true ∧ s.lowestFree = some k ∧ 2 ≤
      s.freeRackPockets ∧ s.inletPlaceFree = true :=
  ⟨closingWith (stripWindow 5 (stripOf 1 2 2)) (base), 5, mark11 2 2, job1, 1, 1, 1, by decide⟩

theorem witness_ClaimMadeAtRead_4 :
    ∃ (s : State) (n : Nat) (m : Mark) (j : JobRecord) (p c : Nat), s.marks n m ∧ s.passesMarked = false ∧ s.findJob
      m.id.job = some j ∧ m.id.num ∉ j.doneMap ∧ s.gc.gate ≠ .faulted ∧ s.standing m.id = false ∧ s.findSet m.id =
      none ∧ j.state = .opened ∧ s.mayClaim j = true ∧ s.pocketFor j m.pages = some p ∧ s.searchBin = some c ∧ m.page
      ≠ (if j.order = .forward then 1 else m.pages) ∧ (s.rackInService = false ∨ s.freeRackPockets ≤ 1 ∨
      s.inletPlaceFree = false) :=
  ⟨closingWith (stripWindow 5 (stripOf 1 2 2)) ({ base with hr := { base.hr with inletOccupied := true } }), 5, mark11
    2 2, job1, 1, 1, by decide⟩

theorem witness_ClaimMadeAtRead_6 :
    ∃ (s : State) (j : JobRecord) (p : Nat) (x : Pocket), nth1 s.dc.pockets p = some x ∧ x.binding = some j.job ∧ (∀ q
      y, q < p → nth1 s.dc.pockets q = some y → y.binding ≠ some j.job) :=
  ⟨holding (record11 .collecting [.absent]), job1, 1, { readyPocket with binding := some 1, committed := 1, refs := 1,
                                                                         lamp := .on }, by decide, by decide,
    noneBelow1 _ _⟩

theorem witness_ClaimMadeAtRead_7 :
    ∃ (s : State) (j : JobRecord) (p : Nat) (x : Pocket), (∀ y ∈ s.dc.pockets, y.binding ≠ some j.job) ∧ nth1
      s.dc.pockets p = some x ∧ x.binding = none ∧ x.empty = true ∧ (∀ q y, q < p → nth1 s.dc.pockets q = some y →
      ¬(y.binding = none ∧ y.empty = true)) :=
  ⟨base, job1, 1, readyPocket, by decide, by decide, by decide, by decide, noneBelow1 _ _⟩

theorem witness_ClaimMadeAtRead_8 :
    ∃ (s : State) (i : Nat), i < s.co.bins.length ∧ s.binState ((s.co.searchPtr - 1 + i) % s.co.bins.length + 1) =
      some .available ∧ (∀ k < i, s.binState ((s.co.searchPtr - 1 + k) % s.co.bins.length + 1) ≠ some .available) :=
  ⟨{ base with co := { base.co with searchPtr := 4, bins := [.available, .available, .available, .jammed] } }, 1, by
    decide⟩

theorem witness_ClaimMadeAtRead_9 :
    ∃ (s : State) (j : JobRecord), (∀ y ∈ s.dc.pockets, y.binding ≠ some j.job) ∧ (∀ y ∈ s.dc.pockets, ¬(y.binding =
      none ∧ y.empty = true)) :=
  ⟨{ base with dc := { base.dc with pockets := [Pocket.reset] } }, job1, by decide⟩

theorem witness_MarkedReadCases_1 :
    ∃ (s : State) (n : Nat) (m : Mark), s.marks n m ∧ s.setTableSound ∧ (s.bs.state = .dormant ∨ s.bs.state = .joining
      ∨ s.bs.state = .service ∨ s.bs.state = .fault .gate) :=
  ⟨closingWith (stripWindow 5 (stripOf 1 1 2)) ({ base with bs := { base.bs with state := .service } }), 5, mark11 1
    2, by decide⟩

theorem witness_MarkedReadCases_2 :
    ∃ (s : State) (n : Nat) (m : Mark), s.marks n m ∧ s.setTableSound ∧ s.passesMarked = false ∧ s.findJob m.id.job =
      none :=
  ⟨closingWith (stripWindow 5 (stripOf 1 1 2)) ({ base with jt := { jobs := [], tableFull := 0 } }), 5, mark11 1 2, by
    decide⟩

theorem witness_MarkedReadCases_3 :
    ∃ (s : State) (n : Nat) (m : Mark) (j : JobRecord), s.marks n m ∧ s.setTableSound ∧ s.passesMarked = false ∧
      s.findJob m.id.job = some j ∧ m.id.num ∈ j.doneMap :=
  ⟨closingWith (stripWindow 5 (stripOf 1 1 2)) ({ base with jt := { jobs := [{ job1 with doneMap := [1] }],
                                                                    tableFull := 0 } }), 5, mark11 1 2,
    { job1 with doneMap := [1] }, by decide⟩

theorem witness_MarkedReadCases_4 :
    ∃ (s : State) (n : Nat) (m : Mark) (j : JobRecord), s.marks n m ∧ s.passesMarked = false ∧ s.findJob m.id.job =
      some j ∧ m.id.num ∉ j.doneMap ∧ s.findSet m.id = none ∧ s.standing m.id = true :=
  ⟨closingWith (stripWindow 5 (stripOf 1 1 2)) ({ base with cu := { base.cu with foreign := [{ id := set11,
                                                                                               owner := 5 }] } }), 5,
    mark11 1 2, job1, by decide⟩

theorem witness_MarkedReadCases_5 :
    ∃ (s : State) (n : Nat) (m : Mark) (j : JobRecord), s.marks n m ∧ s.passesMarked = false ∧ s.findJob m.id.job =
      some j ∧ m.id.num ∉ j.doneMap ∧ s.findSet m.id = none ∧ s.standing m.id = false ∧ j.state ≠ .opened :=
  ⟨closingWith (stripWindow 5 (stripOf 1 1 2)) ({ base with jt := { jobs := [{ job1 with state := .closed }],
                                                                    tableFull := 0 } }), 5, mark11 1 2,
    { job1 with state := .closed }, by decide⟩

theorem witness_MarkedReadCases_6 :
    ∃ (s : State) (n : Nat) (m : Mark) (j : JobRecord), s.marks n m ∧ s.passesMarked = false ∧ s.findJob m.id.job =
      some j ∧ m.id.num ∉ j.doneMap ∧ s.findSet m.id = none ∧ s.standing m.id = false ∧ j.state = .opened ∧ (s.gc.gate
      = .faulted ∨ s.mayClaim j = false ∨ s.pocketFor j m.pages = none ∨ s.searchBin = none) :=
  ⟨closingWith (stripWindow 5 (stripOf 1 1 2)) ({ base with bs := { base.bs with state := .draining } }), 5, mark11 1
    2, job1, by decide⟩

theorem witness_MarkedReadCases_7 :
    ∃ (s : State) (n : Nat) (m : Mark) (j : JobRecord), s.marks n m ∧ s.passesMarked = false ∧ s.gc.gate = .faulted ∧
      s.findJob m.id.job = some j ∧ (m.id.num ∈ j.doneMap ∨ s.findSet m.id = none ∧ s.standing m.id = false ∧ j.state
      ≠ .opened) ∧ s.setTableSound :=
  ⟨closingWith (stripWindow 5 (stripOf 1 1 2)) ({ base with jt := { jobs := [{ job1 with doneMap := [1] }],
                                                                    tableFull := 0 },
                                                            gc := { base.gc with gate := .faulted },
                                                            bs := { base.bs with state := .fault .clash } }), 5,
    mark11 1 2, { job1 with doneMap := [1] }, by decide⟩

theorem witness_OwnedSheetRouted_1 :
    ∃ (s : State) (n : Nat) (m : Mark) (j : JobRecord) (r : SetRecord), s.marks n m ∧ s.passesMarked = false ∧
      s.findJob m.id.job = some j ∧ m.id.num ∉ j.doneMap ∧ s.findSet m.id = some r ∧ (r.state = .claiming ∨ r.state =
      .collecting) ∧ m.pages ≠ r.pages ∧ s.setTableSound :=
  ⟨closingWith (stripWindow 5 (stripOf 1 1 3)) (holding (record11 .collecting [.absent, .absent])), 5, mark11 1 3,
    job1, (record11 .collecting [.absent, .absent]), by decide⟩

theorem witness_OwnedSheetRouted_2 :
    ∃ (s : State) (n : Nat) (m : Mark) (j : JobRecord) (r : SetRecord), s.marks n m ∧ s.passesMarked = false ∧
      s.findJob m.id.job = some j ∧ m.id.num ∉ j.doneMap ∧ s.findSet m.id = some r ∧ (r.state = .claiming ∨ r.state =
      .collecting) ∧ m.pages = r.pages ∧ r.status m.page ≠ .absent ∧ s.setTableSound :=
  ⟨closingWith (stripWindow 5 (stripOf 1 1 2)) (holding (record11 .claiming [.placed, .absent])), 5, mark11 1 2, job1,
    (record11 .claiming [.placed, .absent]), by decide⟩

theorem witness_OwnedSheetRouted_3 :
    ∃ (s : State) (n : Nat) (m : Mark) (j : JobRecord) (r : SetRecord) (c : Nat), s.marks n m ∧ s.passesMarked = false
      ∧ s.findJob m.id.job = some j ∧ m.id.num ∉ j.doneMap ∧ s.findSet m.id = some r ∧ (r.state = .claiming ∨ r.state
      = .collecting) ∧ m.pages = r.pages ∧ r.status m.page = .absent ∧ r.bin = some c ∧ r.direct m.page = true ∧
      s.gc.gate ≠ .faulted ∧ s.setTableSound :=
  ⟨closingWith (stripWindow 5 (stripOf 1 2 2)) (holding (record11 .collecting [.placed, .absent])), 5, mark11 2 2,
    job1, (record11 .collecting [.placed, .absent]), 1, by decide⟩

theorem witness_OwnedSheetRouted_4 :
    ∃ (s : State) (n : Nat) (m : Mark) (j : JobRecord) (r : SetRecord) (k : Nat), s.marks n m ∧ s.passesMarked = false
      ∧ s.findJob m.id.job = some j ∧ m.id.num ∉ j.doneMap ∧ s.findSet m.id = some r ∧ (r.state = .claiming ∨ r.state
      = .collecting) ∧ m.pages = r.pages ∧ r.status m.page = .absent ∧ (r.bin = none ∨ r.direct m.page = false) ∧
      s.rackAdmits r m.page = true ∧ s.lowestFree = some k ∧ s.gc.gate ≠ .faulted ∧ s.setTableSound :=
  ⟨closingWith (stripWindow 5 (stripOf 1 2 2)) (holding (record11 .collecting [.absent, .absent])), 5, mark11 2 2,
    job1, (record11 .collecting [.absent, .absent]), 1, by decide⟩

theorem witness_OwnedSheetRouted_5 :
    ∃ (s : State) (n : Nat) (m : Mark) (j : JobRecord) (r : SetRecord), s.marks n m ∧ s.passesMarked = false ∧
      s.findJob m.id.job = some j ∧ m.id.num ∉ j.doneMap ∧ s.findSet m.id = some r ∧ (r.state = .claiming ∨ r.state =
      .collecting) ∧ m.pages = r.pages ∧ r.status m.page = .absent ∧ (r.bin = none ∨ r.direct m.page = false) ∧
      (s.rackAdmits r m.page = false ∨ s.lowestFree = none) ∧ s.gc.gate ≠ .faulted ∧ s.setTableSound :=
  ⟨closingWith (stripWindow 5 (stripOf 1 2 2))
    { (holding (record11 .collecting [.absent, .absent])) with hr := { base.hr with inletOccupied := true } }, 5,
    mark11 2 2, job1, (record11 .collecting [.absent, .absent]), by decide⟩

theorem witness_OwnedSheetRouted_6 :
    ∃ (s : State) (n : Nat) (m : Mark) (j : JobRecord) (r : SetRecord), s.marks n m ∧ s.passesMarked = false ∧
      s.findJob m.id.job = some j ∧ m.id.num ∉ j.doneMap ∧ s.findSet m.id = some r ∧ (r.state = .claiming ∨ r.state =
      .collecting) ∧ m.pages = r.pages ∧ r.status m.page = .absent ∧ s.gc.gate = .faulted ∧ s.setTableSound :=
  ⟨closingWith (stripWindow 5 (stripOf 1 2 2))
    { (holding (record11 .collecting [.placed, .absent])) with gc := { base.gc with gate := .faulted },
                                                               bs := { base.bs with state := .fault .carriage } }, 5,
    mark11 2 2, job1, (record11 .collecting [.placed, .absent]), by decide⟩

theorem witness_OwnedSheetRouted_7 :
    ∃ (s : State) (n : Nat) (m : Mark) (j : JobRecord) (r : SetRecord), s.marks n m ∧ s.passesMarked = false ∧
      s.findJob m.id.job = some j ∧ m.id.num ∉ j.doneMap ∧ s.findSet m.id = some r ∧ (r.state = .finishing ∨ r.state =
      .surrendering) ∧ s.setTableSound :=
  ⟨closingWith (stripWindow 5 (stripOf 1 1 2)) (holding (record11 .finishing [.absent, .placed])), 5, mark11 1 2,
    job1, (record11 .finishing [.absent, .placed]), by decide⟩

theorem witness_OwnedSheetRouted_8 :
    ∃ (s : State) (n : Nat) (m : Mark) (j : JobRecord) (r : SetRecord), s.marks n m ∧ s.passesMarked = false ∧
      s.findJob m.id.job = some j ∧ m.id.num ∉ j.doneMap ∧ s.findSet m.id = some r ∧ (r.state = .complete ∨ r.state =
      .inJaw ∨ r.state = .delivering) ∧ m.pages ≠ r.pages ∧ s.setTableSound :=
  ⟨closingWith (stripWindow 5 (stripOf 1 1 3)) (holding (record11 .complete [.placed, .placed])), 5, mark11 1 3, job1,
    (record11 .complete [.placed, .placed]), by decide⟩

theorem witness_OwnedSheetRouted_9 :
    ∃ (s : State) (n : Nat) (m : Mark) (j : JobRecord) (r : SetRecord), s.marks n m ∧ s.passesMarked = false ∧
      s.findJob m.id.job = some j ∧ m.id.num ∉ j.doneMap ∧ s.findSet m.id = some r ∧ (r.state = .complete ∨ r.state =
      .inJaw ∨ r.state = .delivering) ∧ m.pages = r.pages ∧ r.status m.page = .absent ∧ s.setTableSound :=
  ⟨closingWith (stripWindow 5 (stripOf 1 2 2)) (holding (record11 .inJaw [.placed, .absent])), 5, mark11 2 2, job1,
    (record11 .inJaw [.placed, .absent]), by decide⟩

theorem witness_OwnedSheetRouted_10 :
    ∃ (s : State) (n : Nat) (m : Mark) (j : JobRecord) (r : SetRecord), s.marks n m ∧ s.passesMarked = false ∧
      s.findJob m.id.job = some j ∧ m.id.num ∉ j.doneMap ∧ s.findSet m.id = some r ∧ (r.state = .complete ∨ r.state =
      .inJaw ∨ r.state = .delivering) ∧ m.pages = r.pages ∧ r.status m.page ≠ .absent ∧ s.setTableSound :=
  ⟨closingWith (stripWindow 5 (stripOf 1 1 2)) (holding (record11 .delivering [.placed, .absent])), 5, mark11 1 2,
    job1, (record11 .delivering [.placed, .absent]), by decide⟩

theorem witness_OwnedSheetRouted_14 :
    ∃ (s : State) (k : Nat), nth1 s.hr.pockets k = some .free ∧ (∀ q < k, nth1 s.hr.pockets q ≠ some .free) :=
  ⟨{ base with hr := { base.hr with pockets := set1 base.hr.pockets 1 .occupied } }, 2, by decide⟩

theorem witness_LapCountsWatch_1 :
    ∃ (s : State) (w : Window) (i : SetId) (r : SetRecord), s.closing w ∧ w.number = some 0 ∧ w.sensed = false ∧
      s.gc.queue.length < 3 ∧ s.setTableSound ∧ s.findSet i = some r ∧ r.state = .collecting :=
  ⟨closingWith (emptyWindow (some 0)) (holding { record11 .collecting [.absent] with watch := 15 }), emptyWindow (some
    0), set11, { record11 .collecting [.absent] with watch := 15 }, by decide⟩

/-- Clause 1 for a record whose skip is pending with a POLICY REPRINT waiting, and for one of which no REPRINT is due. -/
theorem witness_LapCountsWatch_1b :
    ∃ (s : State) (w : Window) (r : SetRecord), s.closing w ∧ w.number = some 0 ∧ w.sensed = false
      ∧ s.gc.queue.length < 3 ∧ s.setTableSound ∧ s.findSet set11 = some r ∧ r.state = .collecting
      ∧ r.skipPending = true ∧ r.waiting = .policy :=
  ⟨closingWith (emptyWindow (some 0)) (holding { record11 .collecting [.absent] with
      skipPending := true, waiting := .policy }), emptyWindow (some 0),
    { record11 .collecting [.absent] with skipPending := true, waiting := .policy }, by decide⟩

theorem witness_LapCountsWatch_1c :
    ∃ (s : State) (w : Window) (r : SetRecord), s.closing w ∧ w.number = some 0 ∧ w.sensed = false
      ∧ s.gc.queue.length < 3 ∧ s.setTableSound ∧ s.findSet set11 = some r ∧ r.state = .collecting
      ∧ r.skipPending = false ∧ ¬r.dueAtLap ∧ r.countdown = 2 ∧ r.waiting = .none :=
  ⟨closingWith (emptyWindow (some 0)) (holding { record11 .collecting [.absent] with watch := 14, countdown := 2 }),
    emptyWindow (some 0), { record11 .collecting [.absent] with watch := 14, countdown := 2 }, by decide⟩

theorem witness_LapCountsWatch_2 :
    ∃ (s : State) (w : Window) (i : SetId) (r : SetRecord), s.closing w ∧ w.number = some 0 ∧ w.sensed = false ∧
      s.gc.queue.length < 3 ∧ s.setTableSound ∧ s.findSet i = some r ∧ r.state ≠ .collecting :=
  ⟨closingWith (emptyWindow (some 0)) (holding (record11 .claiming [.absent])), emptyWindow (some 0), set11, record11
    .claiming [.absent], by decide⟩

theorem witness_ReprintAtLap_1 :
    ∃ (s : State) (w : Window) (r : SetRecord), s.closing w ∧ w.number = some 0 ∧ w.sensed = false ∧ s.gc.queue.length
      < 3 ∧ s.co.sets = [r] ∧ r.state = .collecting ∧ r.skipPending = false ∧ r.policy.inRange ∧ r.waiting = .none ∧
      r.countdown ≤ 1 ∧ .absent ∈ r.map ∧ r.attempts < r.policy.maximum ∧ r.policy.delay ≤ (if r.watch < 15 then
      r.watch + 1 else r.watch) ∧ s.lc.routine.length < 12 :=
  ⟨closingWith (emptyWindow (some 0)) (holding { record11 .collecting [.absent, .placed] with watch := 1,
                                                                                              countdown := 1 }),
    emptyWindow (some 0), { record11 .collecting [.absent, .placed] with watch := 1, countdown := 1 }, by decide⟩

theorem witness_ReprintAtLap_2 :
    ∃ (s : State) (w : Window) (r : SetRecord), s.closing w ∧ w.number = some 0 ∧ w.sensed = false ∧ s.gc.queue.length
      < 3 ∧ s.co.sets = [r] ∧ r.state = .collecting ∧ r.skipPending = false ∧ r.policy.inRange ∧ r.waiting = .none ∧
      r.countdown ≤ 1 ∧ .absent ∈ r.map ∧ r.attempts < r.policy.maximum ∧ r.policy.delay ≤ (if r.watch < 15 then
      r.watch + 1 else r.watch) ∧ 12 ≤ s.lc.routine.length :=
  ⟨{ closingWith (emptyWindow (some 0)) (holding { record11 .collecting [.absent, .placed] with watch := 5 }) with lc := { base.lc with routine := List.replicate 12 (TxEntry.fresh .state) } },
    emptyWindow (some 0), { record11 .collecting [.absent, .placed] with watch := 5 }, by decide⟩

theorem witness_ReprintAtLap_3 :
    ∃ (s : State) (w : Window) (r : SetRecord), s.closing w ∧ w.number = some 0 ∧ w.sensed = false ∧ s.gc.queue.length
      < 3 ∧ s.co.sets = [r] ∧ r.state = .collecting ∧ r.skipPending = false ∧ r.policy.inRange ∧ r.waiting = .none ∧
      r.countdown ≤ 1 ∧ .absent ∈ r.map ∧ r.stranded = false ∧ r.attempts = r.policy.maximum ∧ (r.watch = 14 ∨ r.watch
      = 15) :=
  ⟨closingWith (emptyWindow (some 0)) (holding { record11 .collecting [.absent, .placed] with watch := 14,
                                                                                              attempts := 3 }),
    emptyWindow (some 0), { record11 .collecting [.absent, .placed] with watch := 14, attempts := 3 }, by decide⟩

/-- Four sets at a LAP with two places left in the routine queue: a RETRY REPRINT waiting with the skip pending, a REPRINT newly
due, a POLICY REPRINT waiting, and a set whose attempts are spent. -/
def lapping : State :=
  let r := fun (n : Nat) => { record11 .collecting [.absent, .placed] with id := { job := 1, num := n }, watch := 14 }
  closingWith (emptyWindow (some 0)) { base with
    co := { base.co with sets := [{ r 1 with skipPending := true, waiting := .retry }, r 2, { r 3 with waiting := .policy },
      { r 4 with attempts := 3 }] }
    lc := { base.lc with routine := List.replicate 10 (TxEntry.fresh .hello) } }

theorem witness_ReprintAtLap_4 :
    ∃ (s u : State) (w : Window), s.closing w ∧ w.number = some 0 ∧ w.sensed = false ∧ s.gc.queue.length < 3
      ∧ s.setTableSound ∧ (∀ r ∈ s.co.sets, r.state = .collecting → r.policy.inRange)
      ∧ u = { s with lc := { s.lc with
          routine := s.lc.routine ++ s.lapQueued.map (fun r => TxEntry.fresh r.reprintNotice) } }
      ∧ s.lapQueued.map (fun r => r.id.num) = [1, 3] ∧ s.lapDeferred.map (fun r => r.id.num) = [2]
      ∧ s.lapStranded.map (fun r => r.id.num) = [4] :=
  ⟨lapping, _, emptyWindow (some 0), by decide, rfl, rfl, by decide, by decide, by decide, rfl, by decide, by decide,
    by decide⟩

theorem witness_GateArrivalTakesEntry_1a :
    ∃ (s : State) (n : Byte), (240 ≤ n.toNat ∨ ∀ e ∈ s.gc.queue, e.carrier ≠ n.toNat) :=
  ⟨queued [Entry.bare 240 .reject] base, 240, by decide⟩

theorem witness_GateArrivalTakesEntry_1b :
    ∃ (s : State) (n : Byte), (240 ≤ n.toNat ∨ ∀ e ∈ s.gc.queue, e.carrier ≠ n.toNat) :=
  ⟨queued [Entry.bare 238 .reject] base, 239, by decide⟩

theorem witness_GateArrivalTakesEntry_2 :
    ∃ (s : State) (n : Byte) (e : Entry) (q : List Entry), n.toNat < 240 ∧ s.gc.queue = e :: q ∧ e.carrier = n.toNat ∧
      e.action = .pass :=
  ⟨queued [Entry.bare 239 .pass] base, 239, Entry.bare 239 .pass, [], by decide⟩

theorem witness_GateArrivalTakesEntry_3 :
    ∃ (s : State) (n : Byte) (e : Entry) (q : List Entry), n.toNat < 240 ∧ s.gc.queue = e :: q ∧ e.carrier = n.toNat ∧
      e.action ≠ .pass ∧ s.gc.gate = .idle :=
  ⟨queued [Entry.bare 0 .fill] base, 0, Entry.bare 0 .fill, [], by decide⟩

theorem witness_GateArrivalTakesEntry_4 :
    ∃ (s : State) (n : Byte) (e d : Entry) (q : List Entry), n.toNat < 240 ∧ s.gc.queue = e :: q ∧ e.carrier = n.toNat
      ∧ (e.action = .reject ∨ e.action = .fill) ∧ e.target = none ∧ s.gc.gate = .busy d :=
  ⟨gateBusy .reject none (queued [Entry.bare 7 .fill] base), 7, Entry.bare 7 .fill, Entry.bare 5 .reject, [], by
    decide⟩

theorem witness_GateArrivalTakesEntry_5 :
    ∃ (s : State) (n : Byte) (e e2 : Entry) (q2 : List Entry), n.toNat < 240 ∧ s.gc.queue = e :: e2 :: q2 ∧ e.carrier
      ≠ n.toNat ∧ e2.carrier = n.toNat ∧ e2.action = .pass ∧ (e.action = .pass ∨ e.action = .reject ∨ e.action =
      .fill) ∧ e.target = none :=
  ⟨queued [Entry.bare 6 .pass, Entry.bare 7 .pass] base, 7, Entry.bare 6 .pass, Entry.bare 7 .pass, [], by decide⟩

theorem witness_GateArrivalTakesEntry_6 :
    ∃ (s : State) (n : Byte) (e e2 : Entry) (q2 : List Entry) (g : PageRef) (r : SetRecord) (c : Nat), n.toNat < 240 ∧
      s.gc.queue = e :: e2 :: q2 ∧ e.carrier ≠ n.toNat ∧ e2.carrier = n.toNat ∧ e2.action = .pass ∧ e.action = .bin c
      ∧ e.target = some g ∧ s.recordOf g = some r ∧ (r.state = .claiming ∨ r.state = .collecting) ∧ r.status g.page =
      .inboundBin ∧ s.setTableSound :=
  ⟨queued [{ carrier := 6, action := .bin 1, target := some (ref11 1) }, Entry.bare 7 .pass] (holding (record11
    .collecting [.inboundBin, .placed])), 7, { carrier := 6, action := .bin 1, target := some (ref11 1) }, Entry.bare
    7 .pass, [], ref11 1, (record11 .collecting [.inboundBin, .placed]), 1, by decide⟩

theorem witness_GateArrivalTakesEntry_7 :
    ∃ (s : State) (n : Byte) (e e2 : Entry) (q2 : List Entry) (g : PageRef) (r : SetRecord) (k : Nat), n.toNat < 240 ∧
      s.gc.queue = e :: e2 :: q2 ∧ e.carrier ≠ n.toNat ∧ e2.carrier = n.toNat ∧ e2.action = .pass ∧ e.action = .rack k
      ∧ e.target = some g ∧ s.recordOf g = some r ∧ (r.state = .claiming ∨ r.state = .collecting) ∧ r.status g.page =
      .inboundRack k ∧ nth1 s.hr.pockets k = some (.reserved g.id g.page) ∧ s.setTableSound :=
  ⟨queued [{ carrier := 6, action := .rack 1, target := some (ref11 1) }, Entry.bare 7 .pass]
    { (holding (record11 .collecting [.inboundRack 1, .placed])) with hr := { base.hr with pockets := set1 base.hr.pockets 1 (.reserved set11 1),
                                                                                           inletReserved := 1 } }, 7,
    { carrier := 6, action := .rack 1, target := some (ref11 1) }, Entry.bare 7 .pass, [], ref11 1, (record11
    .collecting [.inboundRack 1, .placed]), 1, by decide⟩

theorem witness_DiversionsUndone_1 :
    ∃ (s : State) (n : Byte) (e d : Entry) (q : List Entry) (g : PageRef) (r : SetRecord) (c : Nat), n.toNat < 240 ∧
      s.gc.queue = e :: q ∧ e.carrier = n.toNat ∧ e.action = .bin c ∧ e.target = some g ∧ s.gc.gate = .busy d ∧
      s.recordOf g = some r ∧ (r.state = .claiming ∨ r.state = .collecting) ∧ r.status g.page = .inboundBin ∧
      s.setTableSound :=
  ⟨gateBusy .reject none (queued [{ carrier := 5, action := .bin 1, target := some (ref11 1) }] (holding (record11
    .collecting [.inboundBin, .placed]))), 5, { carrier := 5, action := .bin 1, target := some (ref11 1) }, Entry.bare
    5 .reject, [], ref11 1, (record11 .collecting [.inboundBin, .placed]), 1, by decide⟩

theorem witness_DiversionsUndone_2 :
    ∃ (s : State) (n : Byte) (e d : Entry) (q : List Entry) (g : PageRef) (r : SetRecord) (k : Nat), n.toNat < 240 ∧
      s.gc.queue = e :: q ∧ e.carrier = n.toNat ∧ e.action = .rack k ∧ e.target = some g ∧ s.gc.gate = .busy d ∧
      s.recordOf g = some r ∧ (r.state = .claiming ∨ r.state = .collecting) ∧ r.status g.page = .inboundRack k ∧ nth1
      s.hr.pockets k = some (.reserved g.id g.page) ∧ s.setTableSound :=
  ⟨gateBusy .reject none (queued [{ carrier := 5, action := .rack 1, target := some (ref11 1) }]
    ({ (holding (record11 .collecting [.inboundRack 1, .placed])) with hr := { base.hr with pockets := set1 base.hr.pockets 1 (.reserved set11 1),
                                                                                            inletReserved := 1 } })),
    5, { carrier := 5, action := .rack 1, target := some (ref11 1) }, Entry.bare 5 .reject, [], ref11 1, (record11
    .collecting [.inboundRack 1, .placed]), 1, by decide⟩

theorem witness_DiversionsUndone_3 :
    ∃ (s : State) (e : Entry) (g : PageRef) (r : SetRecord) (c : Nat), s.gc.gate = .busy e ∧ e.action = .bin c ∧
      e.target = some g ∧ s.recordOf g = some r ∧ (r.state = .claiming ∨ r.state = .collecting) ∧ r.status g.page =
      .inboundBin ∧ s.setTableSound :=
  ⟨gateBusy (.bin 1) (some (ref11 1)) (holding (record11 .collecting [.inboundBin, .placed])), { carrier := 5,
                                                                                                 action := .bin 1,
                                                                                                 target := some (ref11 1) },
    ref11 1, (record11 .collecting [.inboundBin, .placed]), 1, by decide⟩

theorem witness_DiversionsUndone_4 :
    ∃ (s : State) (e : Entry) (g : PageRef) (r : SetRecord) (k : Nat), s.gc.gate = .busy e ∧ e.action = .rack k ∧
      e.target = some g ∧ s.recordOf g = some r ∧ (r.state = .claiming ∨ r.state = .collecting) ∧ r.status g.page =
      .inboundRack k ∧ nth1 s.hr.pockets k = some (.reserved g.id g.page) ∧ s.setTableSound :=
  ⟨gateBusy (.rack 1) (some (ref11 1))
    { (holding (record11 .collecting [.inboundRack 1, .placed])) with hr := { base.hr with pockets := set1 base.hr.pockets 1 (.reserved set11 1),
                                                                                           inletReserved := 1 } },
    { carrier := 5, action := .rack 1, target := some (ref11 1) }, ref11 1, (record11 .collecting [.inboundRack 1,
    .placed]), 1, by decide⟩

theorem witness_DiversionsUndone_5 :
    ∃ (s : State) (e : Entry) (g : PageRef) (r : SetRecord) (c : Nat), s.gc.gate = .busy e ∧ e.action = .bin c ∧
      e.target = some g ∧ s.recordOf g = some r ∧ (r.state = .finishing ∨ r.state = .surrendering) ∧ r.status g.page =
      .inboundBin ∧ s.setTableSound :=
  ⟨gateBusy (.bin 1) (some (ref11 1)) (holding (record11 .surrendering [.inboundBin, .placed])), { carrier := 5,
                                                                                                   action := .bin 1,
                                                                                                   target := some (ref11 1) },
    ref11 1, (record11 .surrendering [.inboundBin, .placed]), 1, by decide⟩

theorem witness_DiversionsUndone_6 :
    ∃ (s : State) (e : Entry) (g : PageRef) (r : SetRecord) (k : Nat), s.gc.gate = .busy e ∧ e.action = .rack k ∧
      e.target = some g ∧ s.recordOf g = some r ∧ (r.state = .finishing ∨ r.state = .surrendering) ∧ r.status g.page =
      .inboundRack k ∧ nth1 s.hr.pockets k = some (.reserved g.id g.page) ∧ s.setTableSound :=
  ⟨gateBusy (.rack 1) (some (ref11 1))
    { (holding (record11 .finishing [.inboundRack 1, .placed])) with hr := { base.hr with pockets := set1 base.hr.pockets 1 (.reserved set11 1),
                                                                                          inletReserved := 1 } },
    { carrier := 5, action := .rack 1, target := some (ref11 1) }, ref11 1, (record11 .finishing [.inboundRack 1,
    .placed]), 1, by decide⟩

theorem witness_DiversionsUndone_7 :
    ∃ (s : State) (e : Entry), s.gc.gate = .busy e ∧ e.action = .reject ∧ e.target = none :=
  ⟨gateBusy .reject none base, Entry.bare 5 .reject, by decide⟩

theorem witness_DivertedEnds_1 :
    ∃ (s : State) (e : Entry), s.gc.gate = .busy e ∧ e.action = .reject :=
  ⟨gateBusy .reject none base, Entry.bare 5 .reject, by decide⟩

theorem witness_DivertedEnds_2 :
    ∃ (s : State) (e : Entry) (g : PageRef) (r : SetRecord) (c : Nat), s.gc.gate = .busy e ∧ e.action = .bin c ∧
      e.target = some g ∧ s.recordOf g = some r ∧ (r.state = .claiming ∨ r.state = .collecting ∨ r.state = .finishing)
      ∧ r.bin = some c ∧ r.status g.page = .inboundBin ∧ s.setTableSound :=
  ⟨gateBusy (.bin 1) (some (ref11 1)) (holding (record11 .collecting [.inboundBin, .placed])), { carrier := 5,
                                                                                                 action := .bin 1,
                                                                                                 target := some (ref11 1) },
    ref11 1, (record11 .collecting [.inboundBin, .placed]), 1, by decide⟩

theorem witness_DivertedEnds_3 :
    ∃ (s : State) (e : Entry) (g : PageRef) (r : SetRecord) (c : Nat), s.gc.gate = .busy e ∧ e.action = .bin c ∧
      e.target = some g ∧ s.recordOf g = some r ∧ (r.state = .claiming ∨ r.state = .collecting) ∧ r.bin ≠ some c ∧
      r.status g.page = .inboundBin ∧ s.setTableSound :=
  ⟨gateBusy (.bin 2) (some (ref11 1)) (holding (record11 .collecting [.inboundBin, .placed])), { carrier := 5,
                                                                                                 action := .bin 2,
                                                                                                 target := some (ref11 1) },
    ref11 1, (record11 .collecting [.inboundBin, .placed]), 2, by decide⟩

theorem witness_DivertedEnds_4 :
    ∃ (s : State) (e : Entry) (g : PageRef) (r : SetRecord) (c : Nat), s.gc.gate = .busy e ∧ e.action = .bin c ∧
      e.target = some g ∧ s.recordOf g = some r ∧ r.state = .surrendering ∧ r.bin = some c ∧ r.status g.page =
      .inboundBin ∧ s.setTableSound :=
  ⟨gateBusy (.bin 1) (some (ref11 1)) (holding (record11 .surrendering [.inboundBin, .placed])), { carrier := 5,
                                                                                                   action := .bin 1,
                                                                                                   target := some (ref11 1) },
    ref11 1, (record11 .surrendering [.inboundBin, .placed]), 1, by decide⟩

theorem witness_DivertedEnds_5 :
    ∃ (s : State) (e : Entry) (g : PageRef) (r : SetRecord) (c : Nat), s.gc.gate = .busy e ∧ e.action = .bin c ∧
      e.target = some g ∧ s.recordOf g = some r ∧ r.state = .surrendering ∧ r.bin ≠ some c ∧ r.status g.page =
      .inboundBin ∧ s.setTableSound :=
  ⟨gateBusy (.bin 1) (some (ref11 1)) (holding { record11 .surrendering [.inboundBin, .absent] with bin := none }),
    { carrier := 5, action := .bin 1, target := some (ref11 1) }, ref11 1,
    { record11 .surrendering [.inboundBin, .absent] with bin := none }, 1, by decide⟩

theorem witness_DivertedEnds_6 :
    ∃ (s : State) (e : Entry) (g : PageRef) (r : SetRecord) (c : Nat), s.gc.gate = .busy e ∧ e.action = .bin c ∧
      e.target = some g ∧ s.recordOf g = some r ∧ r.state = .collecting ∧ r.bin = some c ∧ r.status g.page =
      .inboundBin ∧ (∀ p ∈ numbers r.map.length, p ≠ g.page → r.status p = .placed) ∧ s.sc.carriage ≠ .idle ∧
      s.setTableSound :=
  ⟨gateBusy (.bin 1) (some (ref11 1))
    { (holding (record11 .collecting [.inboundBin, .placed])) with sc := { base.sc with carriage := .busy (.unload set11 2 1) none } },
    { carrier := 5, action := .bin 1, target := some (ref11 1) }, ref11 1, (record11 .collecting [.inboundBin,
    .placed]), 1, by decide⟩

theorem witness_DivertedEnds_7 :
    ∃ (s : State) (e : Entry) (k : Nat) (i : SetId) (p : Nat), s.gc.gate = .busy e ∧ e.action = .rack k ∧ s.hr.rack ≠
      .outOfService ∧ s.hr.rack ≠ .idle ∧ nth1 s.hr.pockets k = some (.reserved i p) :=
  ⟨gateBusy (.rack 1) (some (ref11 1))
    { base with hr := { base.hr with pockets := set1 base.hr.pockets 1 (.reserved set11 1), inletReserved := 1,
                                     rack := .busy (.store { pocket := 2, id := set11, page := 2 }) } },
    { carrier := 5, action := .rack 1, target := some (ref11 1) }, 1, set11, 1, by decide⟩

theorem witness_DivertedEnds_8 :
    ∃ (s : State) (e : Entry) (k : Nat) (i : SetId) (p : Nat), s.gc.gate = .busy e ∧ e.action = .rack k ∧ s.hr.rack =
      .idle ∧ s.hr.inlet = [] ∧ nth1 s.hr.pockets k = some (.reserved i p) :=
  ⟨gateBusy (.rack 1) (some (ref11 1))
    { base with hr := { base.hr with pockets := set1 base.hr.pockets 1 (.reserved set11 1), inletReserved := 1 } },
    { carrier := 5, action := .rack 1, target := some (ref11 1) }, 1, set11, 1, by decide⟩

theorem witness_DivertedEnds_9 :
    ∃ (s : State) (e : Entry) (k : Nat), s.gc.gate = .busy e ∧ e.action = .rack k ∧ s.hr.rack = .outOfService :=
  ⟨gateBusy (.rack 1) (some (ref11 1)) { base with hr := { base.hr with rack := .outOfService } }, { carrier := 5,
                                                                                                     action := .rack 1,
                                                                                                     target := some (ref11 1) },
    1, by decide⟩

theorem witness_FillEnds_1 :
    ∃ (s : State) (e : Entry), s.gc.gate = .busy e ∧ e.action = .fill :=
  ⟨gateBusy .fill none base, Entry.bare 5 .fill, by decide⟩

theorem witness_FillEnds_2 :
    ∃ (s : State) (e : Entry), s.gc.gate = .busy e ∧ e.action = .fill ∧ s.hr.rack ≠ .idle ∧ s.sc.carriage ≠ .idle :=
  ⟨gateBusy .fill none { base with hr := { base.hr with rack := .outOfService },
                                   sc := { base.sc with carriage := .busy (.unload set11 1 1) none } }, Entry.bare 5
    .fill, by decide⟩

theorem witness_FillEnds_3 :
    ∃ (s : State) (e : Entry), s.gc.gate = .busy e ∧ e.action = .fill :=
  ⟨gateBusy .fill none base, Entry.bare 5 .fill, by decide⟩

theorem witness_FillEnds_4 :
    ∃ (s : State) (e : Entry), s.gc.gate = .busy e ∧ e.action = .fill :=
  ⟨gateBusy .fill none base, Entry.bare 5 .fill, by decide⟩

theorem witness_FillEnds_5 :
    ∃ (s : State) (e : Entry), s.gc.gate = .busy e ∧ e.action ≠ .fill :=
  ⟨gateBusy .reject none base, Entry.bare 5 .reject, by decide⟩

theorem witness_FillEnds_6 :
    ∃ (s : State), (s.gc.gate = .idle ∨ s.gc.gate = .faulted) :=
  ⟨base, by decide⟩

theorem witness_GateLimitFaults_1 :
    ∃ (s : State) (e : Entry), s.gc.gate = .busy e ∧ s.setTableSound :=
  ⟨gateBusy .reject none (queued [Entry.bare 6 .reject] (holding (record11 .collecting [.absent]))), Entry.bare 5
    .reject, by decide⟩

/-- Sets 1 to 4 of job 1, CLAIMING, COLLECTING, FINISHING and COMPLETE in bins 1 to 4, with no jaw FREE and the carriage as
given. -/
def crowded (c : CarriageState) (q : List CarriageRequest) : State :=
  let r := fun (n : Nat) (x : SetState) (m : List PageStatus) =>
    { record11 x m with id := { job := 1, num := n }, bin := some n }
  { base with
    co := { base.co with
      sets := [r 1 .claiming [.absent], r 2 .collecting [.absent, .placed], r 3 .finishing [.held 1, .placed],
        r 4 .complete [.placed]]
      made := 4
      bins := List.replicate 4 .assigned }
    sc := { base.sc with carriage := c, carriageQueue := q, jawA := .occupied, jawB := .occupied } }

/-- A set of each state that STOP and a fault surrender, the last COMPLETE with its transfer queued or in flight. -/
abbrev hasOneOfEach (s : State) (flight : Bool) : Prop :=
  s.setTableSound ∧ (∃ r ∈ s.co.sets, r.state = .claiming)
    ∧ (∃ r ∈ s.co.sets, r.state = .collecting ∧ ∃ x ∈ r.map, x ≠ .placed)
    ∧ (∃ r ∈ s.co.sets, r.state = .finishing ∧ ∀ x ∈ s.gateEntries, ∀ g ∈ x.target, g.id ≠ r.id)
    ∧ ∃ r ∈ s.co.sets, r.state = .complete ∧ s.transferInFlight r.id = flight

/-- The transfer of set 4. -/
def transfer4 : CarriageRequest := .transfer { job := 1, num := 4 } 4

/-- An unload of set 5. -/
def unload5 : CarriageRequest := .unload { job := 1, num := 5 } 3 2

theorem witness_GateLimitFaults_1b :
    ∃ (s : State) (e : Entry), s.gc.gate = .busy e ∧ hasOneOfEach s false ∧ s.transfersWait
      ∧ s.bs.state.faultEnters .gate = true :=
  ⟨gateBusy .reject none (crowded .idle [transfer4]), Entry.bare 5 .reject, rfl, by decide, .inr (.inl (by decide)), rfl⟩

theorem witness_GateLimitFaults_1c :
    ∃ (s : State) (e : Entry), s.gc.gate = .busy e ∧ hasOneOfEach s true ∧ s.bs.state.faultEnters .gate = true :=
  ⟨gateBusy .reject none (crowded (.busy transfer4 (some .a)) []), Entry.bare 5 .reject, rfl, by decide, rfl⟩

theorem witness_GateLimitFaults_2 :
    ∃ (s : State), (s.gc.gate = .idle ∨ s.gc.gate = .faulted) :=
  ⟨base, by decide⟩

theorem witness_StoreCompletes_1 :
    ∃ (s : State) (e : InletSheet) (r : SetRecord) (f : Nat), s.hr.rack = .busy (.store e) ∧ s.findSet e.id = some r ∧
      r.status e.page = .inboundRack e.pocket ∧ 1 ≤ e.pocket ∧ e.pocket ≤ s.hr.pockets.length ∧ (r.state = .claiming ∨
      r.state = .collecting) ∧ r.frontier = some f ∧ f ≠ e.page ∧ s.setTableSound :=
  ⟨{ holding { record11 .collecting [.inboundRack 1, .absent] with order := .reverse } with hr := { base.hr with pockets := set1 base.hr.pockets 1 (.reserved set11 1),
                                                                                                                 inlet := [{ pocket := 1,
                                                                                                                             id := set11,
                                                                                                                             page := 1 }],
                                                                                                                 rack := .busy (.store { pocket := 1,
                                                                                                                                         id := set11,
                                                                                                                                         page := 1 }) } },
    { pocket := 1, id := set11, page := 1 },
    { record11 .collecting [.inboundRack 1, .absent] with order := .reverse }, 2, by decide⟩

theorem witness_StoreCompletes_2 :
    ∃ (s : State) (e : InletSheet) (r : SetRecord) (c : Nat), s.hr.rack = .busy (.store e) ∧ s.findSet e.id = some r ∧
      r.status e.page = .inboundRack e.pocket ∧ 1 ≤ e.pocket ∧ e.pocket ≤ s.hr.pockets.length ∧ (r.state = .claiming ∨
      r.state = .collecting) ∧ r.frontier = some e.page ∧ r.bin = some c ∧ (∀ y ∈ r.map, y.inboundBinP = false ∧
      y.releasingP = false) ∧ s.setTableSound :=
  ⟨{ holding (record11 .collecting [.inboundRack 1, .absent]) with hr := { base.hr with pockets := set1 base.hr.pockets 1 (.reserved set11 1),
                                                                                        inlet := [{ pocket := 1,
                                                                                                    id := set11,
                                                                                                    page := 1 }],
                                                                                        rack := .busy (.store { pocket := 1,
                                                                                                                id := set11,
                                                                                                                page := 1 }) } },
    { pocket := 1, id := set11, page := 1 }, (record11 .collecting [.inboundRack 1, .absent]), 1, by decide⟩

theorem witness_StoreCompletes_3 :
    ∃ (s : State) (e : InletSheet) (r : SetRecord), s.hr.rack = .busy (.store e) ∧ s.findSet e.id = some r ∧ r.status
      e.page = .inboundRack e.pocket ∧ 1 ≤ e.pocket ∧ e.pocket ≤ s.hr.pockets.length ∧ r.state = .surrendering ∧
      s.setTableSound :=
  ⟨{ holding (record11 .surrendering [.inboundRack 1, .absent]) with hr := { base.hr with pockets := set1 base.hr.pockets 1 (.reserved set11 1),
                                                                                          inlet := [{ pocket := 1,
                                                                                                      id := set11,
                                                                                                      page := 1 }],
                                                                                          rack := .busy (.store { pocket := 1,
                                                                                                                  id := set11,
                                                                                                                  page := 1 }) } },
    { pocket := 1, id := set11, page := 1 }, (record11 .surrendering [.inboundRack 1, .absent]), by decide⟩

theorem witness_StoreCompletes_4 :
    ∃ (s : State), (s.hr.rack = .idle ∨ s.hr.rack = .outOfService) :=
  ⟨base, by decide⟩

theorem witness_ReleaseCompletes_1 :
    ∃ (s : State) (x : Release) (r : SetRecord) (c : Nat), s.hr.rack = .busy (.release x) ∧ s.findSet x.id = some r ∧
      r.status x.page = .releasing x.pocket ∧ 1 ≤ x.pocket ∧ x.pocket ≤ s.hr.pockets.length ∧ x.dest = .bin c ∧ r.bin
      = some c ∧ (r.state = .claiming ∨ r.state = .collecting ∨ r.state = .finishing) ∧ s.setTableSound :=
  ⟨{ holding { record11 .collecting [.releasing 1, .absent] with bin := some 1 } with hr := { base.hr with pockets := set1 base.hr.pockets 1 (.holding set11 1),
                                                                                                           rack := .busy (.release { pocket := 1,
                                                                                                                                     id := set11,
                                                                                                                                     page := 1,
                                                                                                                                     dest := .bin 1 }) },
                                                                                      rf := { base.rf with onWay := 1 } },
    { pocket := 1, id := set11, page := 1, dest := .bin 1 },
    { record11 .collecting [.releasing 1, .absent] with bin := some 1 }, 1, by decide⟩

theorem witness_ReleaseCompletes_2 :
    ∃ (s : State) (x : Release) (r : SetRecord) (c : Nat), s.hr.rack = .busy (.release x) ∧ s.findSet x.id = some r ∧
      r.status x.page = .releasing x.pocket ∧ 1 ≤ x.pocket ∧ x.pocket ≤ s.hr.pockets.length ∧ x.dest = .bin c ∧ r.bin
      ≠ some c ∧ (r.state = .claiming ∨ r.state = .collecting) ∧ s.setTableSound :=
  ⟨{ holding { record11 .collecting [.releasing 1, .absent] with bin := some 1 } with hr := { base.hr with pockets := set1 base.hr.pockets 1 (.holding set11 1),
                                                                                                           rack := .busy (.release { pocket := 1,
                                                                                                                                     id := set11,
                                                                                                                                     page := 1,
                                                                                                                                     dest := .bin 2 }) },
                                                                                      rf := { base.rf with onWay := 1 } },
    { pocket := 1, id := set11, page := 1, dest := .bin 2 },
    { record11 .collecting [.releasing 1, .absent] with bin := some 1 }, 2, by decide⟩

theorem witness_ReleaseCompletes_3 :
    ∃ (s : State) (x : Release) (r : SetRecord) (c : Nat), s.hr.rack = .busy (.release x) ∧ s.findSet x.id = some r ∧
      r.status x.page = .releasing x.pocket ∧ 1 ≤ x.pocket ∧ x.pocket ≤ s.hr.pockets.length ∧ x.dest = .bin c ∧ r.bin
      = some c ∧ r.state = .surrendering ∧ s.setTableSound :=
  ⟨{ holding { record11 .surrendering [.releasing 1, .absent] with bin := some 1 } with hr := { base.hr with pockets := set1 base.hr.pockets 1 (.holding set11 1),
                                                                                                             rack := .busy (.release { pocket := 1,
                                                                                                                                       id := set11,
                                                                                                                                       page := 1,
                                                                                                                                       dest := .bin 1 }) },
                                                                                        rf := { base.rf with onWay := 1 } },
    { pocket := 1, id := set11, page := 1, dest := .bin 1 },
    { record11 .surrendering [.releasing 1, .absent] with bin := some 1 }, 1, by decide⟩

theorem witness_ReleaseCompletes_4 :
    ∃ (s : State) (x : Release) (r : SetRecord) (c : Nat), s.hr.rack = .busy (.release x) ∧ s.findSet x.id = some r ∧
      r.status x.page = .releasing x.pocket ∧ 1 ≤ x.pocket ∧ x.pocket ≤ s.hr.pockets.length ∧ x.dest = .bin c ∧ r.bin
      ≠ some c ∧ r.state = .surrendering ∧ s.setTableSound :=
  ⟨{ holding { record11 .surrendering [.releasing 1, .held 2] with bin := some 1 } with hr := { base.hr with pockets := set1 base.hr.pockets 1 (.holding set11 1),
                                                                                                             rack := .busy (.release { pocket := 1,
                                                                                                                                       id := set11,
                                                                                                                                       page := 1,
                                                                                                                                       dest := .bin 2 }) },
                                                                                        rf := { base.rf with onWay := 1 } },
    { pocket := 1, id := set11, page := 1, dest := .bin 2 },
    { record11 .surrendering [.releasing 1, .held 2] with bin := some 1 }, 2, by decide⟩

theorem witness_ReleaseCompletes_5 :
    ∃ (s : State) (x : Release) (r : SetRecord), s.hr.rack = .busy (.release x) ∧ s.findSet x.id = some r ∧ r.status
      x.page = .releasing x.pocket ∧ 1 ≤ x.pocket ∧ x.pocket ≤ s.hr.pockets.length ∧ x.dest = .feeder ∧ r.state =
      .surrendering ∧ s.setTableSound :=
  ⟨{ holding { record11 .surrendering [.releasing 1, .placed] with bin := some 1 } with hr := { base.hr with pockets := set1 base.hr.pockets 1 (.holding set11 1),
                                                                                                             rack := .busy (.release { pocket := 1,
                                                                                                                                       id := set11,
                                                                                                                                       page := 1,
                                                                                                                                       dest := .feeder }) },
                                                                                        rf := { base.rf with onWay := 1 } },
    { pocket := 1, id := set11, page := 1, dest := .feeder },
    { record11 .surrendering [.releasing 1, .placed] with bin := some 1 }, by decide⟩

theorem witness_RackFaults_1 :
    ∃ (s : State) (y : RackRequest), s.hr.rack = .busy y :=
  ⟨{ holding (record11 .collecting [.inboundRack 1, .absent]) with hr := { base.hr with pockets := set1 base.hr.pockets 1 (.reserved set11 1),
                                                                                        inlet := [{ pocket := 1,
                                                                                                    id := set11,
                                                                                                    page := 1 }],
                                                                                        rack := .busy (.store { pocket := 1,
                                                                                                                id := set11,
                                                                                                                page := 1 }) } },
    .store { pocket := 1, id := set11, page := 1 }, by decide⟩

theorem witness_RackFaults_2 :
    ∃ (s : State) (e : InletSheet), s.hr.rack = .busy (.store e) :=
  ⟨{ holding (record11 .collecting [.inboundRack 1, .absent]) with hr := { base.hr with pockets := set1 base.hr.pockets 1 (.reserved set11 1),
                                                                                        inlet := [{ pocket := 1,
                                                                                                    id := set11,
                                                                                                    page := 1 }],
                                                                                        rack := .busy (.store { pocket := 1,
                                                                                                                id := set11,
                                                                                                                page := 1 }) } },
    { pocket := 1, id := set11, page := 1 }, by decide⟩

theorem witness_RackFaults_3 :
    ∃ (s : State) (x : Release), s.hr.rack = .busy (.release x) :=
  ⟨{ holding { record11 .collecting [.releasing 1, .absent] with bin := some 1 } with hr := { base.hr with pockets := set1 base.hr.pockets 1 (.holding set11 1),
                                                                                                           rack := .busy (.release { pocket := 1,
                                                                                                                                     id := set11,
                                                                                                                                     page := 1,
                                                                                                                                     dest := .bin 1 }) },
                                                                                      rf := { base.rf with onWay := 1 } },
    { pocket := 1, id := set11, page := 1, dest := .bin 1 }, by decide⟩

theorem witness_RackFaults_4 :
    ∃ (s : State), (s.hr.rack = .idle ∨ s.hr.rack = .outOfService) :=
  ⟨base, by decide⟩

theorem witness_BinJams_1 :
    ∃ (s : State) (c : Nat), (s.binState c = some .available ∨ s.binState c = some .occupied ∨ s.binState c = some
      .assigned ∧ s.carriageOnBin c = true) :=
  ⟨base, 4, by decide⟩

theorem witness_BinJams_2 :
    ∃ (s : State) (c : Nat), (s.binState c = some .jammed ∨ s.binState c = none) :=
  ⟨base, 5, by decide⟩

theorem witness_BinJams_3 :
    ∃ (s : State) (c : Nat) (r : SetRecord), s.binState c = some .assigned ∧ s.carriageOnBin c = false ∧ s.holderOf c
      = some r ∧ s.findSet r.id = some r ∧ (r.state = .claiming ∨ r.state = .collecting ∨ r.state = .finishing) ∧
      s.setTableSound :=
  ⟨(holding (record11 .collecting [.placed, .absent])), 1, record11 .collecting [.placed, .absent], by decide⟩

theorem witness_BinJams_4 :
    ∃ (s : State) (c : Nat) (r : SetRecord), s.binState c = some .assigned ∧ s.carriageOnBin c = false ∧ s.holderOf c
      = some r ∧ s.findSet r.id = some r ∧ r.state = .complete ∧ s.setTableSound :=
  ⟨{ holding (record11 .complete [.placed, .placed]) with sc := { base.sc with jawA := .occupied, jawB := .occupied,
                                                                               carriageQueue := [.transfer set11 1] } },
    1, record11 .complete [.placed, .placed], by decide⟩

theorem witness_BinJams_5 :
    ∃ (s : State) (c : Nat) (r : SetRecord), s.binState c = some .assigned ∧ s.carriageOnBin c = false ∧ s.holderOf c
      = some r ∧ s.findSet r.id = some r ∧ r.state = .surrendering ∧ s.setTableSound :=
  ⟨{ holding (record11 .surrendering [.placed, .held 1]) with sc := { base.sc with carriageQueue := [.unload set11 1 1] },
                                                              rf := { base.rf with count := 64 } }, 1, record11
    .surrendering [.placed, .held 1], by decide⟩

theorem witness_PlacesCleared_1 :
    ∃ (s : State) (c : Nat), (s.binState c = some .occupied ∨ s.binState c = some .jammed ∧ ∀ r ∈ s.co.sets, r.bin ≠
      some c) :=
  ⟨{ base with co := { base.co with bins := [.jammed, .available, .available, .available] } }, 1, by decide⟩

theorem witness_PlacesCleared_2 :
    ∃ (s : State) (c : Nat), (s.binState c = some .available ∨ s.binState c = some .assigned ∨ s.binState c = none ∨
      s.binState c = some .jammed ∧ ∃ r ∈ s.co.sets, r.bin = some c) :=
  ⟨base, 4, by decide⟩

theorem witness_PlacesCleared_3 :
    ∃ (s : State) (k : Nat), nth1 s.hr.pockets k = some .occupied :=
  ⟨{ base with hr := { base.hr with pockets := List.replicate 8 .occupied } }, 8, by decide⟩

theorem witness_PlacesCleared_4 :
    ∃ (s : State) (k : Nat), nth1 s.hr.pockets k ≠ some .occupied :=
  ⟨base, 1, by decide⟩

theorem witness_PlacesCleared_6 :
    ∃ (s : State) (j : JawName), s.jaw j = .occupied ∧ (s.sc.carriage ≠ .idle ∨ s.sc.carriageQueue = []) :=
  ⟨{ base with sc := { base.sc with jawA := .occupied } }, .a, by decide⟩

theorem witness_PlacesCleared_7 :
    ∃ (s : State) (j : JawName), s.jaw j ≠ .occupied :=
  ⟨base, .b, by decide⟩

theorem witness_CarriageStarts_1 :
    ∃ (s : State) (j : JawName) (i : SetId) (c : Nat) (rest : List CarriageRequest), s.sc.carriage = .idle ∧
      s.sc.carriageQueue = .transfer i c :: rest ∧ s.jaw j = .free ∧ (j = s.sc.lastJaw.other ∨ s.jaw
      s.sc.lastJaw.other ≠ .free) ∧ s.sc.doneList.length + s.jawsInUse < 8 :=
  ⟨{ base with sc := { base.sc with carriageQueue := [.transfer set11 1], jawA := .occupied, lastJaw := .b,
                                    doneList := List.replicate 7 { notice := { id := set11, pages := 1,
                                                                               outcome := .unstapled, pocket := 1 },
                                                                   since := 0 } } }, .b, set11, 1, [], by decide⟩

theorem witness_CarriageStarts_2 :
    ∃ (s : State) (i : SetId) (c m : Nat) (rest : List CarriageRequest), s.sc.carriage = .idle ∧ s.sc.carriageQueue =
      .unload i c m :: rest ∧ s.rf.count + s.rf.onWay + m ≤ 64 ∧ (s.hr.rack ≠ .idle ∨ s.hr.inlet = [] ∧ s.hr.releases
      = []) :=
  ⟨{ { base with sc := { base.sc with carriageQueue := [.unload set11 1 3] } } with rf := { base.rf with count := 61 } },
    set11, 1, 3, [], by decide⟩

theorem witness_CarriageStarts_3 :
    ∃ (s : State), (s.sc.carriage ≠ .idle ∨ s.sc.carriageQueue = []) :=
  ⟨base, by decide⟩

theorem witness_CarriageStarts_4 :
    ∃ (s : State) (i : SetId) (c : Nat), s.sc.carriageQueue.head? = some (.transfer i c) ∧ (s.jaw .a ≠ .free ∧ s.jaw
      .b ≠ .free ∨ 8 ≤ s.sc.doneList.length + s.jawsInUse) :=
  ⟨{ base with sc := { base.sc with carriageQueue := [.transfer set11 1], jawA := .occupied, jawB := .occupied } },
    set11, 1, by decide⟩

theorem witness_CarriageStarts_5 :
    ∃ (s : State) (i : SetId) (c m : Nat), s.sc.carriageQueue.head? = some (.unload i c m) ∧ 64 < s.rf.count +
      s.rf.onWay + m :=
  ⟨{ { base with sc := { base.sc with carriageQueue := [.unload set11 1 3] } } with rf := { base.rf with count := 62 } },
    set11, 1, 3, by decide⟩

theorem witness_TransferCompletes_1 :
    ∃ (s : State) (i : SetId) (c : Nat) (j : JawName) (r : SetRecord), s.sc.carriage = .busy (.transfer i c) (some j)
      ∧ s.findSet i = some r ∧ (r.isPartial = true ∨ r.pages = 1 ∨ 50 < r.pages ∨ r.staple = .none) ∧ s.setTableSound :=
  ⟨{ holding { record11 .complete [.placed, .placed] with staple := .none } with sc := { base.sc with carriage := .busy (.transfer set11 1) (some .a),
                                                                                                      jawA := .loading set11 } },
    set11, 1, .a, { record11 .complete [.placed, .placed] with staple := .none }, by decide⟩

theorem witness_TransferCompletes_2 :
    ∃ (s : State) (i : SetId) (c : Nat) (j : JawName) (r : SetRecord), s.sc.carriage = .busy (.transfer i c) (some j)
      ∧ s.findSet i = some r ∧ r.isPartial = false ∧ 2 ≤ r.pages ∧ r.pages ≤ 50 ∧ r.staple ≠ .none ∧ s.setTableSound :=
  ⟨{ holding { record11 .complete [.placed, .placed] with staple := .edge } with sc := { base.sc with carriage := .busy (.transfer set11 1) (some .a),
                                                                                                      jawA := .loading set11 } },
    set11, 1, .a, { record11 .complete [.placed, .placed] with staple := .edge }, by decide⟩

theorem witness_UnloadCompletes :
    ∃ (s : State) (i : SetId) (c m : Nat) (jo : Option JawName), s.sc.carriage = .busy (.unload i c m) jo :=
  ⟨{ { holding (record11 .surrendering [.placed, .absent]) with sc := { base.sc with carriage := .busy (.unload set11 1 1) none } } with rf := { base.rf with onWay := 1 } },
    set11, 1, 1, none, by decide⟩

theorem witness_CarriageFaults_1 :
    ∃ (s : State) (x : CarriageRequest) (jo : Option JawName), s.sc.carriage = .busy x jo ∧ s.setTableSound :=
  ⟨{ base with sc := { base.sc with carriage := .busy (.transfer set11 1) (some .a) } }, .transfer set11 1, some .a,
    by decide⟩

theorem witness_CarriageFaults_1b :
    ∃ (s : State) (x : CarriageRequest) (jo : Option JawName), s.sc.carriage = .busy x jo ∧ hasOneOfEach s false
      ∧ s.transfersWait ∧ s.bs.state.faultEnters .carriage = true :=
  ⟨crowded (.busy unload5 none) [transfer4], unload5, none, rfl, by decide, .inl (by decide), rfl⟩

theorem witness_CarriageFaults_1c :
    ∃ (s : State) (x : CarriageRequest) (jo : Option JawName), s.sc.carriage = .busy x jo ∧ hasOneOfEach s true
      ∧ s.bs.state.faultEnters .carriage = true :=
  ⟨crowded (.busy transfer4 (some .a)) [], transfer4, some .a, rfl, by decide, rfl⟩

theorem witness_CarriageFaults_2 :
    ∃ (s : State) (i : SetId) (c : Nat) (jo : Option JawName), s.sc.carriage = .busy (.transfer i c) jo :=
  ⟨{ base with sc := { base.sc with carriage := .busy (.transfer set11 1) (some .a) } }, set11, 1, some .a, by decide⟩

theorem witness_CarriageFaults_3 :
    ∃ (s : State) (i : SetId) (c m : Nat) (jo : Option JawName), s.sc.carriage = .busy (.unload i c m) jo :=
  ⟨{ base with sc := { base.sc with carriage := .busy (.unload set11 1 1) none } }, set11, 1, 1, none, by decide⟩

theorem witness_CarriageFaults_4 :
    ∃ (s : State) (x : CarriageRequest) (jo : Option JawName), (s.sc.carriage = .idle ∨ s.sc.carriage = .faulted x jo) :=
  ⟨base, .transfer set11 1, none, by decide⟩

theorem witness_HeadIssuesAndReports_1 :
    ∃ (s : State) (j : JawName) (js : List JawName) (i : SetId) (st : Stapling), s.sc.head = .idle ∧ s.sc.headQueue =
      j :: js ∧ s.jaw j = .holding i st ∧ s.sc.faultedMark = false ∧ s.sc.emptyMark = false :=
  ⟨{ base with sc := { base.sc with headQueue := [.a], jawA := .holding set11 { outcome := none, owed := 2,
                                                                                retryUsed := false } } }, .a, [],
    set11, { outcome := none, owed := 2, retryUsed := false }, by decide⟩

theorem witness_HeadIssuesAndReports_2 :
    ∃ (s : State), (s.sc.head ≠ .idle ∨ s.sc.headQueue = [] ∨ s.sc.faultedMark = true ∨ s.sc.emptyMark = true) :=
  ⟨base, by decide⟩

theorem witness_HeadIssuesAndReports_3 :
    ∃ (s : State), s.sc.faultedMark = true ∧ (s.sc.head ≠ .idle ∨ s.sc.headQueue = [] ∨ s.sc.emptyMark = true) :=
  ⟨{ base with sc := { base.sc with faultedMark := true } }, by decide⟩

theorem witness_HeadIssuesAndReports_4 :
    ∃ (s : State) (j : JawName) (js : List JawName) (i : SetId) (st : Stapling), s.sc.head = .idle ∧ s.sc.headQueue =
      j :: js ∧ s.jaw j = .holding i st ∧ s.sc.faultedMark = true ∧ s.sc.emptyMark = false :=
  ⟨{ base with sc := { base.sc with headQueue := [.a], jawA := .holding set11 { outcome := none, owed := 2,
                                                                                retryUsed := false },
                                    faultedMark := true } }, .a, [], set11, { outcome := none, owed := 2,
                                                                              retryUsed := false }, by decide⟩

theorem witness_HeadIssuesAndReports_5 :
    ∃ (s : State), s.sc.faultedMark = false :=
  ⟨base, by decide⟩

theorem witness_HeadIssuesAndReports_6 :
    ∃ (s : State), (s.sc.head ≠ .idle ∨ s.sc.headQueue = [] ∨ s.sc.faultedMark = true) :=
  ⟨base, by decide⟩

theorem witness_HeadIssuesAndReports_7 :
    ∃ (s : State) (j : JawName) (js : List JawName) (i : SetId) (st : Stapling), s.sc.head = .idle ∧ s.sc.headQueue =
      j :: js ∧ s.jaw j = .holding i st ∧ s.sc.faultedMark = false :=
  ⟨{ base with sc := { base.sc with headQueue := [.a], jawA := .holding set11 { outcome := none, owed := 2,
                                                                                retryUsed := false },
                                    emptyMark := true } }, .a, [], set11, { outcome := none, owed := 2,
                                                                            retryUsed := false }, by decide⟩

theorem witness_StapleEnds_1 :
    ∃ (s : State) (j : JawName) (k : Nat) (i : SetId) (st : Stapling) (r : SetRecord), s.sc.head = .busy j k ∧ s.jaw j
      = .holding i st ∧ s.findSet i = some r ∧ s.setTableSound :=
  ⟨{ { holding (record11 .inJaw [.placed, .placed]) with pending := [] } with sc := { base.sc with head := .busy .a 2,
                                                                                                   staples := some 101,
                                                                                                   headQueue := [.a],
                                                                                                   jawA := .holding set11 { outcome := none,
                                                                                                                            owed := 2,
                                                                                                                            retryUsed := false } } },
    .a, 2, set11, { outcome := none, owed := 2, retryUsed := false }, record11 .inJaw [.placed, .placed], by decide⟩

theorem witness_StapleEnds_2 :
    ∃ (s : State) (j : JawName) (k : Nat) (i : SetId) (st : Stapling) (f : Nat), s.sc.head = .busy j k ∧ s.jaw j =
      .holding i st ∧ f < k ∧ st.retryUsed = false :=
  ⟨{ { holding (record11 .inJaw [.placed, .placed]) with pending := [] } with sc := { base.sc with head := .busy .a 2,
                                                                                                   staples := some 101,
                                                                                                   headQueue := [.a],
                                                                                                   jawA := .holding set11 { outcome := none,
                                                                                                                            owed := 2,
                                                                                                                            retryUsed := false } } },
    .a, 2, set11, { outcome := none, owed := 2, retryUsed := false }, 1, by decide⟩

theorem witness_StapleEnds_3 :
    ∃ (s : State) (j : JawName) (k : Nat) (i : SetId) (st : Stapling) (f : Nat) (r : SetRecord), s.sc.head = .busy j k
      ∧ s.jaw j = .holding i st ∧ f < k ∧ st.retryUsed = true ∧ s.findSet i = some r ∧ s.setTableSound :=
  ⟨{ { holding (record11 .inJaw [.placed, .placed]) with pending := [] } with sc := { base.sc with head := .busy .a 2,
                                                                                                   staples := some 101,
                                                                                                   headQueue := [.a],
                                                                                                   jawA := .holding set11 { outcome := none,
                                                                                                                            owed := 2,
                                                                                                                            retryUsed := true } } },
    .a, 2, set11, { outcome := none, owed := 2, retryUsed := true }, 0, record11 .inJaw [.placed, .placed], by decide⟩

theorem witness_StapleEnds_4 :
    ∃ (s : State) (j : JawName) (k f : Nat), s.sc.head = .busy j k ∧ k ≤ f :=
  ⟨{ { holding (record11 .inJaw [.placed, .placed]) with pending := [] } with sc := { base.sc with head := .busy .a 2,
                                                                                                   staples := some 101,
                                                                                                   headQueue := [.a],
                                                                                                   jawA := .holding set11 { outcome := none,
                                                                                                                            owed := 2,
                                                                                                                            retryUsed := false } } },
    .a, 2, 2, by decide⟩

theorem witness_StapleEnds_5 :
    ∃ (s : State), s.sc.head = .idle :=
  ⟨base, by decide⟩

theorem witness_HeadFaults_1 :
    ∃ (s : State) (j : JawName) (k : Nat), s.sc.head = .busy j k :=
  ⟨{ { holding (record11 .inJaw [.placed, .placed]) with pending := [] } with sc := { base.sc with head := .busy .a 2,
                                                                                                   staples := some 101,
                                                                                                   headQueue := [.a],
                                                                                                   jawA := .holding set11 { outcome := none,
                                                                                                                            owed := 2,
                                                                                                                            retryUsed := false } } },
    .a, 2, by decide⟩

theorem witness_HeadFaults_2 :
    ∃ (s : State) (j : JawName) (k : Nat), s.sc.head = .busy j k :=
  ⟨{ { holding (record11 .inJaw [.placed, .placed]) with pending := [] } with sc := { base.sc with head := .busy .a 2,
                                                                                                   staples := some 101,
                                                                                                   headQueue := [.a],
                                                                                                   jawA := .holding set11 { outcome := none,
                                                                                                                            owed := 2,
                                                                                                                            retryUsed := false } } },
    .a, 2, by decide⟩

theorem witness_HeadFaults_3 :
    ∃ (s : State) (j : JawName) (k : Nat) (i : SetId) (st : Stapling), s.sc.head = .busy j k ∧ s.jaw j = .holding i st
      ∧ 1 ≤ k :=
  ⟨{ { holding (record11 .inJaw [.placed, .placed]) with pending := [] } with sc := { base.sc with head := .busy .a 2,
                                                                                                   staples := some 101,
                                                                                                   headQueue := [.a],
                                                                                                   jawA := .holding set11 { outcome := none,
                                                                                                                            owed := 2,
                                                                                                                            retryUsed := false } } },
    .a, 2, set11, { outcome := none, owed := 2, retryUsed := false }, by decide⟩

theorem witness_RequestsIssued_1 :
    ∃ (s : State) (e1 : InletSheet) (es : List InletSheet), s.hr.rack = .idle ∧ s.hr.inlet = e1 :: es :=
  ⟨{ base with hr := { base.hr with inlet := [{ pocket := 1, id := set11, page := 1 }] } }, { pocket := 1,
                                                                                              id := set11,
                                                                                              page := 1 }, [], by
    decide⟩

theorem witness_RequestsIssued_2 :
    ∃ (s : State) (z : Release) (rest : List Release) (c : Nat), s.hr.rack = .idle ∧ s.hr.inlet = [] ∧ s.hr.releases =
      z :: rest ∧ z.dest = .bin c :=
  ⟨{ base with hr := { base.hr with releases := [.mk 1 set11 1 (.bin 1)] } }, .mk 1 set11 1 (.bin 1), [], 1, by
    decide⟩

theorem witness_RequestsIssued_3 :
    ∃ (s : State) (z : Release) (rest : List Release), s.hr.rack = .idle ∧ s.hr.inlet = [] ∧ s.hr.releases = z :: rest
      ∧ z.dest = .feeder ∧ s.rf.count + s.rf.onWay + 1 ≤ 64 ∧ (s.sc.carriage ≠ .idle ∨ s.sc.carriageQueue = []) :=
  ⟨{ base with hr := { base.hr with releases := [.mk 1 set11 1 .feeder] }, rf := { base.rf with count := 63 } }, .mk 1
    set11 1 .feeder, [], by decide⟩

theorem witness_RequestsIssued_4 :
    ∃ (s : State) (z : Release) (rest : List Release), s.hr.rack = .idle ∧ s.hr.inlet = [] ∧ s.hr.releases = z :: rest
      ∧ z.dest = .feeder ∧ 64 < s.rf.count + s.rf.onWay + 1 :=
  ⟨{ base with hr := { base.hr with releases := [.mk 1 set11 1 .feeder] }, rf := { base.rf with count := 64 } }, .mk 1
    set11 1 .feeder, [], by decide⟩

theorem witness_RequestsIssued_5 :
    ∃ (s : State), (s.hr.rack ≠ .idle ∨ s.hr.inlet = [] ∧ s.hr.releases = []) :=
  ⟨base, by decide⟩

theorem witness_RequestsIssued_6 :
    ∃ (s : State) (p : Nat) (x : Pocket) (e : DeliveryEntry), nth1 s.dc.pockets p = some x ∧ x.blocked = false ∧
      x.inFlight = none ∧ s.dc.list.find? (fun d => d.pocket == p) = some e :=
  ⟨{ base with dc := { base.dc with list := [{ jaw := .a, id := set11, pocket := 1, outcome := .stapled }] } }, 1,
    readyPocket, { jaw := .a, id := set11, pocket := 1, outcome := .stapled }, by decide⟩

theorem witness_RequestsIssued_7 :
    ∃ (s : State) (p : Nat) (x : Pocket), nth1 s.dc.pockets p = some x ∧ (x.blocked = true ∨ x.inFlight ≠ none ∨ ∀ d ∈
      s.dc.list, d.pocket ≠ p) :=
  ⟨base, 2, readyPocket, by decide⟩

theorem witness_RequestsIssued_8 :
    ∃ (s : State) (p : Nat), nth1 s.dc.pockets p = none :=
  ⟨base, 3, by decide⟩

theorem witness_SetDelivered_1 :
    ∃ (s : State) (j : JawName) (p : Nat) (i : SetId) (st : Stapling) (o : SetOutcome) (r : SetRecord),
      s.deliveringInto j = some p ∧ s.jaw j = .holding i st ∧ s.findSet i = some r ∧ st.outcome = some o ∧
      s.setTableSound :=
  ⟨{ holding (record11 .delivering [.placed, .placed]) with sc := { base.sc with jawA := .holding set11 { outcome := some .unstapled,
                                                                                                          owed := 0,
                                                                                                          retryUsed := false } },
                                                            dc := { (holding (record11 .delivering [.placed, .placed])).dc with pockets := modify1 (holding (record11 .delivering [.placed, .placed])).dc.pockets 1 (fun x => { x with inFlight := some .a }) } },
    .a, 1, set11, { outcome := some .unstapled, owed := 0, retryUsed := false }, .unstapled, (record11 .delivering
    [.placed, .placed]), by decide⟩

theorem witness_SetDelivered_2 :
    ∃ (s : State) (j : JawName), s.deliveringInto j = none :=
  ⟨base, .a, by decide⟩

theorem witness_DeliveryFaults_1 :
    ∃ (s : State) (j : JawName) (p : Nat) (i : SetId) (st : Stapling) (r : SetRecord), s.deliveringInto j = some p ∧
      s.jaw j = .holding i st ∧ s.findSet i = some r ∧ s.setTableSound :=
  ⟨{ holding (record11 .delivering [.placed, .placed]) with sc := { base.sc with jawA := .holding set11 { outcome := some .unstapled,
                                                                                                          owed := 0,
                                                                                                          retryUsed := false } },
                                                            dc := { (holding (record11 .delivering [.placed, .placed])).dc with pockets := modify1 (holding (record11 .delivering [.placed, .placed])).dc.pockets 1 (fun x => { x with inFlight := some .a }) } },
    .a, 1, set11, { outcome := some .unstapled, owed := 0, retryUsed := false }, (record11 .delivering [.placed,
    .placed]), by decide⟩

theorem witness_DeliveryFaults_2 :
    ∃ (s : State) (j : JawName) (u : Status) (p v : Nat), s.deliveringInto j = some p ∧ (u = .fault ∨ v ≠ p) :=
  ⟨{ holding (record11 .delivering [.placed, .placed]) with sc := { base.sc with jawA := .holding set11 { outcome := some .unstapled,
                                                                                                          owed := 0,
                                                                                                          retryUsed := false } },
                                                            dc := { (holding (record11 .delivering [.placed, .placed])).dc with pockets := modify1 (holding (record11 .delivering [.placed, .placed])).dc.pockets 1 (fun x => { x with inFlight := some .a }) } },
    .a, .ok, 1, 2, by decide⟩

theorem witness_DeliveryFaults_3 :
    ∃ (s : State) (j : JawName), s.deliveringInto j = none :=
  ⟨base, .b, by decide⟩

theorem witness_HeightSampled_1a :
    ∃ (s : State) (p : Nat) (x : Pocket), nth1 s.dc.pockets p = some x :=
  ⟨base, 2, readyPocket, by decide⟩

theorem witness_HeightSampled_1b :
    ∃ (s : State) (p : Nat) (x : Pocket), nth1 s.dc.pockets p = some x :=
  ⟨base, 1, readyPocket, by decide⟩

theorem witness_HeightSampled_2 :
    ∃ (s : State) (p : Nat), nth1 s.dc.pockets p = none :=
  ⟨base, 4, by decide⟩

theorem witness_PeerClaimHeard_1 :
    ∃ (s : State) (f : Frame) (r : SetRecord), s.hears .claim f ∧ s.findSet (f.setAt 0) = some r ∧ r.state = .claiming
      ∧ (f.setAt 0).job ≠ 0 ∧ (f.setAt 0).num ≠ 0 ∧ f.low6 ≠ 0 ∧ s.setTableSound :=
  ⟨holding (record11 .claiming [.absent, .inboundBin]), { cls := 0, origin := 5, body := [1, 0, 67] }, record11
    .claiming [.absent, .inboundBin], by decide⟩

theorem witness_PeerClaimHeard_2 :
    ∃ (s : State) (f : Frame), s.hears .claim f ∧ (∀ r, s.findSet (f.setAt 0) = some r → r.state ≠ .claiming) ∧
      s.standing (f.setAt 0) = true ∧ (f.setAt 0).job ≠ 0 ∧ (f.setAt 0).num ≠ 0 ∧ f.low6 ≠ 0 :=
  ⟨{ base with cu := { base.cu with foreign := [{ id := set11, owner := 5 }] } }, { cls := 0, origin := 6,
                                                                                    body := [1, 0, 67] }, by decide,
    (fun r h => by simp [base, State.findSet, State.reset] at h), by decide, by decide, by decide, by decide⟩

theorem witness_PeerClaimHeard_3 :
    ∃ (s : State) (f : Frame), s.hears .claim f ∧ (∀ r, s.findSet (f.setAt 0) = some r → r.state ≠ .claiming) ∧
      s.standing (f.setAt 0) = false ∧ s.cu.foreign.length < 128 ∧ (f.setAt 0).job ≠ 0 ∧ (f.setAt 0).num ≠ 0 ∧ f.low6
      ≠ 0 :=
  ⟨base, { cls := 0, origin := 8, body := [1, 255, 255] }, by decide, (fun r h => by simp [base, State.findSet,
    State.reset] at h), by decide, by decide, by decide, by decide, by decide⟩

theorem witness_PeerClaimHeard_4 :
    ∃ (s : State) (f : Frame), s.hears .claim f ∧ (∀ r, s.findSet (f.setAt 0) = some r → r.state ≠ .claiming) ∧
      s.standing (f.setAt 0) = false ∧ 128 ≤ s.cu.foreign.length ∧ (f.setAt 0).job ≠ 0 ∧ (f.setAt 0).num ≠ 0 ∧ f.low6
      ≠ 0 :=
  ⟨{ base with cu := { base.cu with foreign := (List.range 128).map (fun n => { id := { job := 2, num := n + 1 },
                                                                                owner := 5 }) } }, { cls := 0,
                                                                                                     origin := 8,
                                                                                                     body := [1, 0, 67] },
    by decide, (fun r h => by simp [base, State.findSet, State.reset] at h), by decide, by decide, by decide, by
    decide, by decide⟩

theorem witness_PeerClaimHeard_5a :
    ∃ (s : State) (f : Frame), s.hears .claim f ∧ ((f.setAt 0).job = 0 ∨ (f.setAt 0).num = 0 ∨ f.low6 = 0) :=
  ⟨base, { cls := 0, origin := 5, body := [0, 0, 65] }, by decide⟩

theorem witness_PeerClaimHeard_5b :
    ∃ (s : State) (f : Frame), s.hears .claim f ∧ ((f.setAt 0).job = 0 ∨ (f.setAt 0).num = 0 ∨ f.low6 = 0) :=
  ⟨base, { cls := 0, origin := 5, body := [1, 0, 64] }, by decide⟩

theorem witness_OwnClaimHeard_1 :
    ∃ (s : State) (f : Frame) (r : SetRecord), s.hearsEcho .claim f ∧ s.findSet (f.setAt 0) = some r ∧ r.state =
      .claiming ∧ (f.setAt 0).job ≠ 0 ∧ (f.setAt 0).num ≠ 0 ∧ f.low6 ≠ 0 ∧ s.setTableSound :=
  ⟨{ holding (record11 .claiming [.absent, .inboundBin]) with lc := { base.lc with urgent := [{ notice := .claim set11 3,
                                                                                                attempts := 1,
                                                                                                withdrawn := false,
                                                                                                onLine := some ({ cls := 0,
                                                                                                                  origin := 3,
                                                                                                                  body := [1, 0, 67] }) }] } },
    { cls := 0, origin := 3, body := [1, 0, 67] }, record11 .claiming [.absent, .inboundBin], by decide⟩

theorem witness_OwnClaimHeard_2 :
    ∃ (s : State) (f : Frame), s.hearsEcho .claim f ∧ (∀ r, s.findSet (f.setAt 0) = some r → r.state ≠ .claiming) ∧
      s.standing (f.setAt 0) = true ∧ (f.setAt 0).job ≠ 0 ∧ (f.setAt 0).num ≠ 0 ∧ f.low6 ≠ 0 :=
  ⟨{ { base with lc := { base.lc with urgent := [{ notice := .claim set11 3, attempts := 1, withdrawn := false,
                                                   onLine := some ({ cls := 0, origin := 3,
                                                                     body := [1, 0, 67] }) }] } } with cu := { base.cu with foreign := [{ id := set11,
                                                                                                                                          owner := 5 }] } },
    { cls := 0, origin := 3, body := [1, 0, 67] }, by decide, (fun r h => by simp [base, State.findSet, State.reset]
    at h), by decide, by decide, by decide, by decide⟩

theorem witness_OwnClaimHeard_3 :
    ∃ (s : State) (f : Frame), s.hearsEcho .claim f ∧ (∀ r, s.findSet (f.setAt 0) = some r → r.state ≠ .claiming) ∧
      s.standing (f.setAt 0) = false ∧ s.bs.state.silencedFault = false ∧ (f.setAt 0).job ≠ 0 ∧ (f.setAt 0).num ≠ 0 ∧
      f.low6 ≠ 0 :=
  ⟨{ base with lc := { base.lc with urgent := [{ notice := .claim set11 3, attempts := 1, withdrawn := false,
                                                 onLine := some ({ cls := 0, origin := 3,
                                                                   body := [1, 0, 67] }) }] } }, { cls := 0,
                                                                                                   origin := 3,
                                                                                                   body := [1, 0, 67] },
    by decide, (fun r h => by simp [base, State.findSet, State.reset] at h), by decide, by decide, by decide, by
    decide, by decide⟩

theorem witness_OwnClaimHeard_4 :
    ∃ (s : State) (f : Frame), s.hearsEcho .claim f ∧ (∀ r, s.findSet (f.setAt 0) = some r → r.state ≠ .claiming) ∧
      s.standing (f.setAt 0) = false ∧ (s.bs.state = .fault .linkLost ∨ s.bs.state = .fault .expelled ∨ s.bs.state =
      .fault .clash) ∧ (f.setAt 0).job ≠ 0 ∧ (f.setAt 0).num ≠ 0 ∧ f.low6 ≠ 0 :=
  ⟨{ { base with lc := { base.lc with urgent := [{ notice := .claim set11 3, attempts := 1, withdrawn := false,
                                                   onLine := some ({ cls := 0, origin := 3,
                                                                     body := [1, 0, 67] }) }] } } with bs := { base.bs with state := .fault .linkLost } },
    { cls := 0, origin := 3, body := [1, 0, 67] }, by decide, (fun r h => by simp [base, State.findSet, State.reset]
    at h), by decide, by decide, by decide, by decide, by decide⟩

theorem witness_OwnClaimHeard_6 :
    ∃ (s : State) (i : SetId) (r : SetRecord), s.setTableSound ∧ s.findSet i = some r ∧ r.state = .claiming ∧
      r.deadline = true :=
  ⟨holding (record11 .claiming [.absent, .inboundBin]), set11, record11 .claiming [.absent, .inboundBin], by decide⟩

theorem witness_OwnClaimHeard_7 :
    ∃ (s : State) (i : SetId), (∀ r, s.findSet i = some r → r.state ≠ .claiming ∨ r.deadline = false) :=
  ⟨base, set11, by simp [base, State.findSet, State.reset]⟩

/-- This bay's CLAIM for set 1 of job 1, on the line and marked withdrawn. -/
def lateTx : TxEntry :=
  { notice := .claim set11 3, attempts := 1, withdrawn := true, onLine := some { cls := 0, origin := 3, body := [1, 0, 67] } }

/-- Its frame. -/
def lateFrame : Frame := { cls := 0, origin := 3, body := [1, 0, 67] }

/-- No record of set 1, its CLAIM on the line, and `n` urgent notices behind it with `w` waiting in CU. -/
def claimedLate (n : Nat) (w : List Waiting) : State :=
  { base with
    lc := { base.lc with urgent := lateTx :: List.replicate n (TxEntry.fresh (.yield { job := 1, num := 2 } .staff)) }
    cu := { base.cu with waiting := w } }

theorem witness_OwnClaimHeard_8 :
    ∃ (s u : State) (f : Frame), s.hearsEcho .claim f ∧ (∀ r, s.findSet (f.setAt 0) = some r → r.state ≠ .claiming)
      ∧ s.standing (f.setAt 0) = false ∧ s.bs.state.silencedFault = false ∧ (f.setAt 0).job ≠ 0
      ∧ (f.setAt 0).num ≠ 0 ∧ f.low6 ≠ 0 ∧ u = s.heardSteps NoticeKind.claim.code f ∧ u.cu.waiting = []
      ∧ u.lc.urgent.length < 4 :=
  ⟨claimedLate 3 [], _, lateFrame, by decide, (fun r h => by simp [claimedLate, base, State.findSet, State.reset] at h),
    by decide, by decide, by decide, by decide, by decide, rfl, by decide, by decide⟩

theorem witness_OwnClaimHeard_9 :
    ∃ (s u : State) (f : Frame), s.hearsEcho .claim f ∧ (∀ r, s.findSet (f.setAt 0) = some r → r.state ≠ .claiming)
      ∧ s.standing (f.setAt 0) = false ∧ s.bs.state.silencedFault = false ∧ (f.setAt 0).job ≠ 0
      ∧ (f.setAt 0).num ≠ 0 ∧ f.low6 ≠ 0 ∧ u = s.heardSteps NoticeKind.claim.code f ∧ 4 ≤ u.lc.urgent.length :=
  ⟨claimedLate 3 [.yield { job := 1, num := 2 } .jam], _, lateFrame, by decide,
    (fun r h => by simp [claimedLate, base, State.findSet, State.reset] at h),
    by decide, by decide, by decide, by decide, by decide, rfl, by decide⟩

theorem witness_HeldHeard_1 :
    ∃ (s : State) (f : Frame) (r : SetRecord), s.hears .held f ∧ f.body.length = 3 ∧ s.findSet (f.setAt 0) = some r ∧
      r.state = .claiming ∧ (f.setAt 0).job ≠ 0 ∧ (f.setAt 0).num ≠ 0 ∧ s.setTableSound :=
  ⟨holding (record11 .claiming [.absent, .inboundBin]), { cls := 0, origin := 5, body := [1, 0, 64] }, record11
    .claiming [.absent, .inboundBin], by decide⟩

theorem witness_HeldHeard_2 :
    ∃ (s : State) (f : Frame), s.hears .held f ∧ f.body.length = 3 ∧ (∀ r, s.findSet (f.setAt 0) = some r → r.state ≠
      .claiming) ∧ s.standing (f.setAt 0) = true ∧ (f.setAt 0).job ≠ 0 ∧ (f.setAt 0).num ≠ 0 :=
  ⟨{ base with cu := { base.cu with foreign := [{ id := set11, owner := 5 }] } }, { cls := 0, origin := 6,
                                                                                    body := [1, 0, 64] }, by decide,
    by decide, (fun r h => by simp [base, State.findSet, State.reset] at h), by decide, by decide, by decide⟩

theorem witness_HeldHeard_3 :
    ∃ (s : State) (f : Frame), s.hears .held f ∧ (∀ i ∈ heldSets f, i.job ≠ 0 ∧ i.num ≠ 0 ∧ s.standing i = false) ∧
      (heldSets f).Nodup ∧ (heldSets f).all (fun i => (s.findSet i).all (fun r => r.state != .claiming)) = true ∧
      s.cu.foreign.length + (heldSets f).length ≤ 128 :=
  ⟨base, { cls := 0, origin := 5, body := [1, 0, 64, 1, 0, 128, 1, 0, 192, 1, 255, 192] }, by decide⟩

theorem witness_HeldHeard_4 :
    ∃ (s : State) (f : Frame), s.hears .held f ∧ (∃ i ∈ heldSets f, i.job = 0 ∨ i.num = 0) :=
  ⟨base, { cls := 0, origin := 5, body := [1, 0, 64, 1, 0, 0] }, by decide⟩

theorem witness_HeldHeard_5 :
    ∃ (s : State) (f : Frame), s.hearsEcho .held f ∧ (∀ i ∈ heldSets f, i.job ≠ 0 ∧ i.num ≠ 0) :=
  ⟨{ base with lc := { base.lc with urgent := [{ notice := .held [set11], attempts := 1, withdrawn := false,
                                                 onLine := some ({ cls := 0, origin := 3,
                                                                   body := [1, 0, 64] }) }] } }, { cls := 0,
                                                                                                   origin := 3,
                                                                                                   body := [1, 0, 64] },
    by decide⟩

theorem witness_YieldHeard_1 :
    ∃ (s : State) (f : Frame), s.hears .yield f ∧ (f.setAt 0).job ≠ 0 ∧ (f.setAt 0).num ≠ 0 ∧ f.low6 / 8 ≤ 4 ∧
      s.cu.foreign.any (fun e => e.id == f.setAt 0 && e.owner == f.origin.toNat) = true :=
  ⟨{ base with cu := { base.cu with foreign := [{ id := set11, owner := 5 }] } }, { cls := 0, origin := 5,
                                                                                    body := [1, 0, 96] }, by decide⟩

theorem witness_YieldHeard_2 :
    ∃ (s : State) (f : Frame), s.hears .yield f ∧ (f.setAt 0).job ≠ 0 ∧ (f.setAt 0).num ≠ 0 ∧ f.low6 / 8 ≤ 4 ∧
      s.cu.foreign.any (fun e => e.id == f.setAt 0 && e.owner == f.origin.toNat) = false ∧ s.standing (f.setAt 0) =
      true :=
  ⟨holding (record11 .inJaw [.placed]), { cls := 0, origin := 5, body := [1, 0, 64] }, by decide⟩

theorem witness_YieldHeard_3 :
    ∃ (s : State) (f : Frame), s.hears .yield f ∧ (f.setAt 0).job ≠ 0 ∧ (f.setAt 0).num ≠ 0 ∧ f.low6 / 8 ≤ 4 ∧
      s.cu.foreign.any (fun e => e.id == f.setAt 0 && e.owner == f.origin.toNat) = false ∧ s.standing (f.setAt 0) =
      false :=
  ⟨base, { cls := 0, origin := 5, body := [1, 255, 192] }, by decide⟩

theorem witness_YieldHeard_4 :
    ∃ (s : State) (f : Frame), s.hearsEcho .yield f ∧ (f.setAt 0).job ≠ 0 ∧ (f.setAt 0).num ≠ 0 ∧ f.low6 / 8 ≤ 4 :=
  ⟨{ base with lc := { base.lc with urgent := [{ notice := .yield set11 .staff, attempts := 1, withdrawn := false,
                                                 onLine := some ({ cls := 0, origin := 3,
                                                                   body := [1, 0, 64] }) }] } }, { cls := 0,
                                                                                                   origin := 3,
                                                                                                   body := [1, 0, 64] },
    by decide⟩

theorem witness_YieldHeard_5a :
    ∃ (s : State) (f : Frame), (s.hears .yield f ∨ s.hearsEcho .yield f) ∧ ((f.setAt 0).job = 0 ∨ (f.setAt 0).num = 0
      ∨ 4 < f.low6 / 8) :=
  ⟨base, { cls := 0, origin := 5, body := [1, 0, 104] }, by decide⟩

theorem witness_YieldHeard_5b :
    ∃ (s : State) (f : Frame), (s.hears .yield f ∨ s.hearsEcho .yield f) ∧ ((f.setAt 0).job = 0 ∨ (f.setAt 0).num = 0
      ∨ 4 < f.low6 / 8) :=
  ⟨base, { cls := 0, origin := 5, body := [0, 0, 64] }, by decide⟩

theorem witness_DoneHeard_1 :
    ∃ (s : State) (f : Frame), s.hears .done f ∧ (∀ r, s.findSet (f.setAt 0) = some r → r.state = .surrendering) ∧
      (f.setAt 0).job ≠ 0 ∧ (f.setAt 0).num ≠ 0 ∧ f.low6 ≠ 0 ∧ f.byteAt 3 / 32 ≤ 4 :=
  ⟨base, { cls := 1, origin := 5, body := [1, 0, 65, 128] }, by decide, (fun r h => by simp [base, State.findSet,
    State.reset] at h), by decide, by decide, by decide, by decide⟩

theorem witness_DoneHeard_2 :
    ∃ (s : State) (f : Frame) (r : SetRecord), s.hears .done f ∧ s.findSet (f.setAt 0) = some r ∧ (r.state = .claiming
      ∨ r.state = .collecting ∨ r.state = .finishing) ∧ (f.setAt 0).job ≠ 0 ∧ (f.setAt 0).num ≠ 0 ∧ f.low6 ≠ 0 ∧
      f.byteAt 3 / 32 ≤ 4 ∧ s.setTableSound :=
  ⟨holding (record11 .collecting [.absent, .placed]), { cls := 1, origin := 5, body := [1, 0, 66, 0] }, record11
    .collecting [.absent, .placed], by decide⟩

theorem witness_DoneHeard_3 :
    ∃ (s : State) (f : Frame) (r : SetRecord), s.hears .done f ∧ s.findSet (f.setAt 0) = some r ∧ (r.state = .inJaw ∨
      r.state = .delivering) ∧ (f.setAt 0).job ≠ 0 ∧ (f.setAt 0).num ≠ 0 ∧ f.low6 ≠ 0 ∧ f.byteAt 3 / 32 ≤ 4 ∧
      s.setTableSound :=
  ⟨holding (record11 .inJaw [.placed, .placed]), { cls := 1, origin := 5, body := [1, 0, 66, 0] }, record11 .inJaw
    [.placed, .placed], by decide⟩

theorem witness_DoneHeard_4 :
    ∃ (s : State) (f : Frame), s.hearsEcho .done f ∧ (f.setAt 0).job ≠ 0 ∧ (f.setAt 0).num ≠ 0 ∧ f.low6 ≠ 0 ∧ f.byteAt
      3 / 32 ≤ 4 :=
  ⟨{ base with lc := { base.lc with routine := [{ notice := .done (.mk set11 2 .stapled 1), attempts := 1,
                                                  withdrawn := false, onLine := some ({ cls := 1, origin := 3,
                                                                                        body := [1, 0, 66, 0] }) }] } },
    { cls := 1, origin := 3, body := [1, 0, 66, 0] }, by decide⟩

theorem witness_DoneHeard_5a :
    ∃ (s : State) (f : Frame), s.hears .done f ∧ ((f.setAt 0).job = 0 ∨ (f.setAt 0).num = 0 ∨ f.low6 = 0 ∨ 4 <
      f.byteAt 3 / 32) :=
  ⟨base, { cls := 1, origin := 5, body := [1, 0, 64, 0] }, by decide⟩

theorem witness_DoneHeard_5b :
    ∃ (s : State) (f : Frame), s.hears .done f ∧ ((f.setAt 0).job = 0 ∨ (f.setAt 0).num = 0 ∨ f.low6 = 0 ∨ 4 <
      f.byteAt 3 / 32) :=
  ⟨base, { cls := 1, origin := 5, body := [1, 0, 66, 160] }, by decide⟩

/-- Clause 1 with a YIELD(LATE) of the set waiting. -/
theorem witness_DoneHeard_1b :
    ∃ (s : State) (f : Frame), s.hears .done f ∧ (∀ r, s.findSet (f.setAt 0) = some r → r.state = .surrendering)
      ∧ (f.setAt 0).job ≠ 0 ∧ (f.setAt 0).num ≠ 0 ∧ f.low6 ≠ 0 ∧ f.byteAt 3 / 32 ≤ 4
      ∧ .yield (f.setAt 0) .late ∈ s.cu.waiting ∧ 4 ≤ s.lc.urgent.length :=
  ⟨{ takenBack with co := base.co }, { cls := 1, origin := 5, body := [1, 0, 65, 128] }, by decide,
    (fun r h => by simp [base, State.findSet, State.reset] at h), by decide, by decide, by decide, by decide,
    by decide, by decide⟩

theorem witness_DoneHeard_6 :
    ∃ (s : State) (f : Frame) (r : SetRecord), s.hears .done f ∧ s.findSet (f.setAt 0) = some r ∧ r.state = .complete
      ∧ (s.heardSteps NoticeKind.done.code f).transferInFlight (f.setAt 0) = false ∧ (f.setAt 0).job ≠ 0
      ∧ (f.setAt 0).num ≠ 0 ∧ f.low6 ≠ 0 ∧ f.byteAt 3 / 32 ≤ 4 ∧ s.setTableSound
      ∧ .transfer (f.setAt 0) 1 ∈ s.sc.carriageQueue :=
  ⟨{ holding (record11 .complete [.placed, .placed]) with
      sc := { base.sc with carriage := .busy unload5 none, carriageQueue := [.transfer set11 1] } },
    { cls := 1, origin := 5, body := [1, 0, 66, 0] }, record11 .complete [.placed, .placed], by decide⟩

theorem witness_DoneHeard_7 :
    ∃ (s : State) (f : Frame) (r : SetRecord), s.hears .done f ∧ s.findSet (f.setAt 0) = some r ∧ r.state = .complete
      ∧ (s.heardSteps NoticeKind.done.code f).transferInFlight (f.setAt 0) = true ∧ (f.setAt 0).job ≠ 0
      ∧ (f.setAt 0).num ≠ 0 ∧ f.low6 ≠ 0 ∧ f.byteAt 3 / 32 ≤ 4 ∧ s.setTableSound :=
  ⟨{ holding (record11 .complete [.placed, .placed]) with
      sc := { base.sc with carriage := .busy (.transfer set11 1) (some .a), jawA := .loading set11 } },
    { cls := 1, origin := 5, body := [1, 0, 66, 0] }, record11 .complete [.placed, .placed], by decide⟩

theorem witness_JobsAnnounced_1 :
    ∃ (s : State) (f : Frame) (x : JobFields), s.hears .job f ∧ jobFields f = some x ∧ s.findJob x.job = none ∧
      s.jt.jobs.length < 32 :=
  ⟨{ base with jt := { jobs := [], tableFull := 0 } }, { cls := 1, origin := 0,
                                                         body := (1#8 :: List.replicate 8 65#8 ++ [0, 0, 136, 152]) },
    { job := 1, label := List.replicate 8 65, setCount := none, staple := .none, order := .forward,
      policy := { mode := .repeated, delay := 2, interval := 2, limit := 3 }, repeatFlag := false }, by decide⟩

theorem witness_JobsAnnounced_2 :
    ∃ (s : State) (f : Frame) (x : JobFields) (old : JobRecord), s.hears .job f ∧ jobFields f = some x ∧ s.findJob
      x.job = none ∧ 32 ≤ s.jt.jobs.length ∧ s.jt.jobs.find? (fun q => q.state != .opened && !s.jobInUse q.job) = some
      old :=
  ⟨{ base with jt := { jobs := (List.range 32).map (fun n => { job1 with job := n + 2, state := .closed }),
                       tableFull := 0 } }, { cls := 1, origin := 0,
                                             body := (1#8 :: List.replicate 8 65#8 ++ [0, 0, 136, 152]) }, { job := 1,
                                                                                                             label := List.replicate 8 65,
                                                                                                             setCount := none,
                                                                                                             staple := .none,
                                                                                                             order := .forward,
                                                                                                             policy := { mode := .repeated,
                                                                                                                         delay := 2,
                                                                                                                         interval := 2,
                                                                                                                         limit := 3 },
                                                                                                             repeatFlag := false },
    { job1 with job := 2, state := .closed }, by decide, by decide, by decide, by decide, by decide⟩

theorem witness_JobsAnnounced_3 :
    ∃ (s : State) (f : Frame) (x : JobFields), s.hears .job f ∧ jobFields f = some x ∧ s.findJob x.job = none ∧ 32 ≤
      s.jt.jobs.length ∧ (∀ q ∈ s.jt.jobs, q.state = .opened ∨ s.jobInUse q.job = true) :=
  ⟨{ base with jt := { jobs := (List.range 32).map (fun n => { job1 with job := n + 2 }), tableFull := 0 } },
    { cls := 1, origin := 0, body := (1#8 :: List.replicate 8 65#8 ++ [0, 0, 136, 152]) }, { job := 1,
                                                                                             label := List.replicate 8 65,
                                                                                             setCount := none,
                                                                                             staple := .none,
                                                                                             order := .forward,
                                                                                             policy := { mode := .repeated,
                                                                                                         delay := 2,
                                                                                                         interval := 2,
                                                                                                         limit := 3 },
                                                                                             repeatFlag := false }, by
    decide, by decide, by decide, by decide, by decide⟩

theorem witness_JobsAnnounced_4 :
    ∃ (s : State) (f : Frame) (x : JobFields) (r : JobRecord), s.hears .job f ∧ jobFields f = some x ∧ s.findJob x.job
      = some r ∧ r.state = .opened ∧ (∀ n, x.setCount = some n → r.doneMap.length < n) :=
  ⟨base, { cls := 1, origin := 0, body := (1#8 :: List.replicate 8 65#8 ++ [0, 0, 136, 152]) }, { job := 1,
                                                                                                  label := List.replicate 8 65,
                                                                                                  setCount := none,
                                                                                                  staple := .none,
                                                                                                  order := .forward,
                                                                                                  policy := { mode := .repeated,
                                                                                                              delay := 2,
                                                                                                              interval := 2,
                                                                                                              limit := 3 },
                                                                                                  repeatFlag := false },
    job1, by decide, by decide, by decide, by decide, (fun n h => nomatch h)⟩

theorem witness_JobsAnnounced_5 :
    ∃ (s : State) (f : Frame) (x : JobFields) (r : JobRecord) (n : Nat), s.hears .job f ∧ jobFields f = some x ∧
      s.findJob x.job = some r ∧ r.state = .opened ∧ x.setCount = some n ∧ n ≤ r.doneMap.length :=
  ⟨{ base with jt := { jobs := [{ job1 with doneMap := [4] }], tableFull := 0 } }, { cls := 1, origin := 0,
                                                                                     body := (1#8 :: List.replicate 8 65#8 ++ [0, 32, 136, 152]) },
    { job := 1, label := List.replicate 8 65, setCount := some 1, staple := .none, order := .forward,
      policy := { mode := .repeated, delay := 2, interval := 2, limit := 3 }, repeatFlag := false },
    { job1 with doneMap := [4] }, 1, by decide⟩

theorem witness_JobsAnnounced_6 :
    ∃ (s : State) (f : Frame) (x : JobFields) (r : JobRecord), s.hears .job f ∧ jobFields f = some x ∧ s.findJob x.job
      = some r ∧ r.state ≠ .opened ∧ x.repeatFlag = false ∧ s.jobInUse x.job = false :=
  ⟨{ base with jt := { jobs := [{ job1 with state := .complete }], tableFull := 0 } }, { cls := 1, origin := 0,
                                                                                         body := (1#8 :: List.replicate 8 65#8 ++ [0, 0, 136, 152]) },
    { job := 1, label := List.replicate 8 65, setCount := none, staple := .none, order := .forward,
      policy := { mode := .repeated, delay := 2, interval := 2, limit := 3 }, repeatFlag := false },
    { job1 with state := .complete }, by decide⟩

theorem witness_JobsAnnounced_7 :
    ∃ (s : State) (f : Frame) (x : JobFields) (r : JobRecord), s.hears .job f ∧ jobFields f = some x ∧ s.findJob x.job
      = some r ∧ r.state ≠ .opened ∧ x.repeatFlag = false ∧ s.jobInUse x.job = true ∧ (∀ n, x.setCount = some n →
      r.doneMap.length < n) :=
  ⟨{ holding (record11 .inJaw [.placed]) with jt := { jobs := [{ job1 with state := .closed }], tableFull := 0 } },
    { cls := 1, origin := 0, body := (1#8 :: List.replicate 8 65#8 ++ [0, 0, 136, 152]) }, { job := 1,
                                                                                             label := List.replicate 8 65,
                                                                                             setCount := none,
                                                                                             staple := .none,
                                                                                             order := .forward,
                                                                                             policy := { mode := .repeated,
                                                                                                         delay := 2,
                                                                                                         interval := 2,
                                                                                                         limit := 3 },
                                                                                             repeatFlag := false },
    { job1 with state := .closed }, by decide, by decide, by decide, by decide, by decide, by decide, (fun n h =>
    nomatch h)⟩

theorem witness_JobsAnnounced_8 :
    ∃ (s : State) (f : Frame) (x : JobFields) (r : JobRecord), s.hears .job f ∧ jobFields f = some x ∧ s.findJob x.job
      = some r ∧ r.state ≠ .opened ∧ x.repeatFlag = true :=
  ⟨{ base with jt := { jobs := [{ job1 with state := .closed }], tableFull := 0 } }, { cls := 1, origin := 0,
                                                                                       body := (1#8 :: List.replicate 8 65#8 ++ [0, 1, 136, 152]) },
    { job := 1, label := List.replicate 8 65, setCount := none, staple := .none, order := .forward,
      policy := { mode := .repeated, delay := 2, interval := 2, limit := 3 }, repeatFlag := true },
    { job1 with state := .closed }, by decide⟩

theorem witness_JobsAnnounced_9 :
    ∃ (s : State) (f : Frame), s.hears .job f ∧ jobFields f = none :=
  ⟨base, { cls := 1, origin := 0, body := (0#8 :: List.replicate 8 65#8 ++ [0, 0, 136, 152]) }, by decide⟩

theorem witness_JobsAnnounced_10 :
    ∃ (f : Frame) (label : List Byte) (j c st o rp m d i l : Nat), f.body = byte j :: label ++ word2 (c * 32 + st * 8
      + o * 2 + rp) ++ word2 (m * 16384 + d * 1024 + i * 64 + l * 8) ∧ label.length = 8 ∧ j ≤ 255 ∧ c ≤ 2047 ∧ st ≤ 3
      ∧ o ≤ 3 ∧ rp ≤ 1 ∧ m ≤ 3 ∧ d ≤ 15 ∧ i ≤ 15 ∧ l ≤ 7 :=
  ⟨job40, [65, 82, 84, 32, 55, 67, 32, 32], 40, 3, 1, 0, 0, 2, 4, 3, 0, by decide⟩

theorem witness_JobsAnnounced_11 :
    ∃ (s : State) (f : Frame) (r : JobRecord), s.hears .jobclose f ∧ f.byteAt 0 ≠ 0 ∧ s.findJob (f.byteAt 0) = some r
      ∧ r.state = .opened :=
  ⟨base, { cls := 1, origin := 0, body := [1] }, job1, by decide⟩

theorem witness_JobsAnnounced_12 :
    ∃ (s : State) (f : Frame), s.hears .jobclose f ∧ f.byteAt 0 ≠ 0 ∧ (∀ r, s.findJob (f.byteAt 0) = some r → r.state
      ≠ .opened) :=
  ⟨{ base with jt := { jobs := [], tableFull := 0 } }, { cls := 1, origin := 0, body := [255] }, by decide, by decide,
    (fun r h => nomatch h)⟩

theorem witness_JobsAnnounced_13 :
    ∃ (s : State) (f : Frame), s.hears .jobclose f ∧ f.byteAt 0 = 0 :=
  ⟨base, { cls := 1, origin := 0, body := [0] }, by decide⟩

theorem witness_PeerNoticesHeard_1 :
    ∃ (s : State) (f : Frame), s.hears .hello f ∧ f.byteAt 0 = f.origin.toNat ∧ f.byteAt 1 ∈ [4, 8, 12, 16] :=
  ⟨base, { cls := 2, origin := 5, body := [5, 16] }, by decide⟩

theorem witness_PeerNoticesHeard_2 :
    ∃ (s : State) (f : Frame), s.hears .hello f ∧ f.byteAt 0 = f.origin.toNat ∧ f.byteAt 1 ∈ [4, 8, 12, 16] ∧
      s.bs.state.answersHello = true ∧ s.cu.waiting = [] ∧ s.lc.urgent.length < 4 ∧ 1 ≤ s.heldNow.length ∧
      s.heldNow.length ≤ 4 :=
  ⟨{ holding (record11 .inJaw [.placed]) with pending := [] }, { cls := 2, origin := 5, body := [5, 16] }, by decide⟩

theorem witness_PeerNoticesHeard_4 :
    ∃ (s : State), s.setTableSound :=
  ⟨takenBack, by decide⟩

theorem witness_PeerNoticesHeard_5 :
    ∃ (s : State) (f : Frame), s.hears .hello f ∧ (f.byteAt 0 ≠ f.origin.toNat ∨ f.byteAt 1 ∉ [4, 8, 12, 16]) :=
  ⟨base, { cls := 2, origin := 5, body := [5, 17] }, by decide⟩

theorem witness_PeerNoticesHeard_6 :
    ∃ (s : State) (f : Frame), s.hearsEcho .hello f ∧ f.byteAt 0 = f.origin.toNat ∧ f.byteAt 1 ∈ [4, 8, 12, 16] :=
  ⟨{ base with lc := { base.lc with routine := [{ notice := .hello, attempts := 1, withdrawn := false,
                                                  onLine := some ({ cls := 2, origin := 3, body := [3, 4] }) }] } },
    { cls := 2, origin := 3, body := [3, 4] }, by decide⟩

theorem witness_PeerNoticesHeard_7 :
    ∃ (s : State) (f : Frame) (x : Nat), s.hears .gone f ∧ f.byteAt 0 = x ∧ 1 ≤ x ∧ x ≤ 8 ∧ x ≠ s.station ∧
      s.lc.peers.length = 8 ∧ ((s.peer x).present = true ∨ x = f.origin.toNat) :=
  ⟨{ base with lc := { base.lc with peers := set1 base.lc.peers 8 { Peer.absent with present := true,
                                                                                     timer := true } } }, { cls := 1,
                                                                                                            origin := 5,
                                                                                                            body := [8] },
    8, by decide⟩

theorem witness_PeerNoticesHeard_8 :
    ∃ (s : State) (f : Frame), s.hears .gone f ∧ 1 ≤ f.byteAt 0 ∧ f.byteAt 0 ≤ 8 ∧ f.byteAt 0 ≠ s.station ∧ f.byteAt 0
      ≠ f.origin.toNat ∧ s.lc.peers.length = 8 ∧ (s.peer (f.byteAt 0)).present = false :=
  ⟨base, { cls := 1, origin := 5, body := [1] }, by decide⟩

theorem witness_PeerNoticesHeard_9 :
    ∃ (s : State) (f : Frame), s.hears .gone f ∧ f.byteAt 0 = s.station ∧ 1 ≤ s.station ∧ s.station ≤ 8 ∧
      s.bs.state.faultEnters .expelled = true ∧ s.setTableSound :=
  ⟨holding (record11 .collecting [.absent, .placed]), { cls := 1, origin := 5, body := [3] }, by decide⟩

theorem witness_PeerNoticesHeard_10 :
    ∃ (s : State) (f : Frame), s.hears .gone f ∧ f.byteAt 0 = s.station ∧ 1 ≤ s.station ∧ s.station ≤ 8 ∧
      s.bs.state.faultEnters .expelled = false :=
  ⟨{ base with bs := { base.bs with state := .fault .linkLost } }, { cls := 1, origin := 5, body := [3] }, by decide⟩

theorem witness_PeerNoticesHeard_11a :
    ∃ (s : State) (f : Frame), s.hears .gone f ∧ (f.byteAt 0 = 0 ∨ 8 < f.byteAt 0) :=
  ⟨base, { cls := 1, origin := 5, body := [9] }, by decide⟩

theorem witness_PeerNoticesHeard_11b :
    ∃ (s : State) (f : Frame), s.hears .gone f ∧ (f.byteAt 0 = 0 ∨ 8 < f.byteAt 0) :=
  ⟨base, { cls := 1, origin := 5, body := [0] }, by decide⟩

theorem witness_PeerNoticesHeard_12 :
    ∃ (s : State) (f : Frame) (c : StateContent), s.hears .state f ∧ stateFields f = some c :=
  ⟨base, { cls := 2, origin := 5, body := [0x24, 16, 16, 7, 1, 0, 2] }, { bay := 2, head := 4, freeBins := 16,
                                                                          stranded := 16, pockets := [{ job := 7,
                                                                                                        full := true,
                                                                                                        blocked := false }, { job := 0,
                                                                                                                              full := false,
                                                                                                                              blocked := true }] },
    by decide⟩

theorem witness_PeerNoticesHeard_13 :
    ∃ (s : State) (f : Frame), s.hears .state f ∧ stateFields f = none :=
  ⟨base, { cls := 2, origin := 5, body := [0x25, 0, 0, 0, 0, 0, 0] }, by decide⟩

theorem witness_PeerNoticesHeard_14 :
    ∃ (s : State) (f : Frame) (c : StateContent), s.hearsEcho .state f ∧ stateFields f = some c :=
  ⟨{ base with lc := { base.lc with routine := [{ notice := .state, attempts := 1, withdrawn := false,
                                                  onLine := some ({ cls := 2, origin := 3,
                                                                    body := [0x20, 4, 0, 0, 0, 0, 0] }) }] } },
    { cls := 2, origin := 3, body := [0x20, 4, 0, 0, 0, 0, 0] }, { bay := 2, head := 0, freeBins := 4, stranded := 0,
                                                                   pockets := [{ job := 0, full := false,
                                                                                 blocked := false }, { job := 0,
                                                                                                       full := false,
                                                                                                       blocked := false }] },
    by decide⟩

theorem witness_NoticesHeardOnly_1 :
    ∃ (s : State) (f : Frame), s.hears .reprint f :=
  ⟨base, { cls := 2, origin := 5, body := [1, 0, 68, 1] }, by decide⟩

theorem witness_NoticesHeardOnly_2 :
    ∃ (s : State) (f : Frame), s.hears .report f :=
  ⟨base, { cls := 2, origin := 8, body := [12, 0] }, by decide⟩

theorem witness_NoticesHeardOnly_3 :
    ∃ (s : State) (f : Frame) (kind : BitVec 6), s.bs.state ≠ .dormant ∧ s.clashes kind f = false :=
  ⟨base, { cls := 3, origin := 9, body := [] }, 15, by decide⟩

theorem witness_NoticesHeardOnly_4 :
    ∃ (s : State), s.bs.state ≠ .dormant :=
  ⟨base, by decide⟩

theorem witness_NoticesHeardOnly_5 :
    ∃ (s : State), s.bs.state = .dormant :=
  ⟨State.reset, by decide⟩

theorem witness_NoticesHeardOnly_6 :
    ∃ (s : State), s.bs.state ≠ .dormant ∧ s.bs.state ≠ .fault .clash ∧ s.setTableSound :=
  ⟨base, by decide⟩

theorem witness_NoticesHeardOnly_7 :
    ∃ (s : State), s.bs.state = .fault .clash :=
  ⟨{ base with bs := { base.bs with state := .fault .clash } }, by decide⟩

theorem witness_SetactsTaken_1 :
    ∃ (s : State) (f : Frame) (r : SetRecord), s.hears .setact f ∧ setactStation f = s.station ∧ (s.bs.state = .active
      ∨ s.bs.state = .draining) ∧ s.findSet (f.setAt 0) = some r ∧ r.state = .collecting ∧ s.setTableSound :=
  ⟨holding (record11 .collecting [.absent, .placed]), { cls := 1, origin := 13, body := [1, 0, 76] }, record11
    .collecting [.absent, .placed], by decide⟩

theorem witness_SetactsTaken_2 :
    ∃ (s : State) (f : Frame) (r : SetRecord), s.hears .setact f ∧ setactStation f = s.station ∧ s.bs.state = .service
      ∧ s.findSet (f.setAt 0) = some r ∧ s.recoverable r = true ∧ s.setTableSound :=
  ⟨{ holding (record11 .surrendering [.absent, .placed]) with bs := { base.bs with state := .service },
                                                              sc := { base.sc with carriageQueue := [.unload set11 1 1] },
                                                              rf := { base.rf with count := 64 } }, { cls := 1,
                                                                                                      origin := 13,
                                                                                                      body := [1, 0, 76] },
    record11 .surrendering [.absent, .placed], by decide⟩

theorem witness_SetactsTaken_3 :
    ∃ (s : State) (f : Frame), s.hears .setact f ∧ setactStation f = s.station ∧ (∀ r, s.findSet (f.setAt 0) = some r
      → ¬((s.bs.state = .active ∨ s.bs.state = .draining) ∧ r.state = .collecting) ∧ ¬(s.bs.state = .service ∧
      s.recoverable r = true)) :=
  ⟨base, { cls := 1, origin := 13, body := [1, 2, 76] }, by decide, by decide, (fun r h => nomatch h)⟩

theorem witness_SetactsTaken_4 :
    ∃ (s : State) (f : Frame) (r : SetRecord), s.hears .setact f ∧ setactStation f = s.station ∧ s.findSet (f.setAt 0)
      = some r ∧ (r.state = .claiming ∨ r.state = .collecting ∨ r.state = .finishing ∨ r.state = .complete ∧
      s.transferInFlight r.id = false) ∧ s.setTableSound :=
  ⟨holding (record11 .complete [.placed]), { cls := 1, origin := 13, body := [1, 0, 76] }, record11 .complete
    [.placed], by decide⟩

theorem witness_SetactsTaken_5 :
    ∃ (s : State) (f : Frame), s.hears .setact f ∧ setactStation f = s.station ∧ (∀ r, s.findSet (f.setAt 0) = some r
      → r.state = .inJaw ∨ r.state = .delivering ∨ r.state = .surrendering ∨ r.state = .complete ∧ s.transferInFlight
      r.id = true) :=
  ⟨base, { cls := 1, origin := 13, body := [1, 2, 76] }, by decide, by decide, (fun r h => nomatch h)⟩

theorem witness_SetactsTaken_6 :
    ∃ (s : State) (f : Frame) (r : SetRecord), s.hears .setact f ∧ setactStation f = s.station ∧ s.findSet (f.setAt 0)
      = some r ∧ r.state = .collecting ∧ r.stranded = false ∧ .absent ∈ r.map ∧ s.lc.routine.length < 12 ∧
      s.setTableSound :=
  ⟨holding (record11 .collecting [.absent, .placed]), { cls := 1, origin := 13, body := [1, 0, 76] }, record11
    .collecting [.absent, .placed], by decide⟩

theorem witness_SetactsTaken_7 :
    ∃ (s : State) (f : Frame) (r : SetRecord), s.hears .setact f ∧ setactStation f = s.station ∧ s.findSet (f.setAt 0)
      = some r ∧ r.state = .collecting ∧ r.stranded = true ∧ .absent ∈ r.map ∧ s.wantState.lc.routine.length < 12 ∧
      s.setTableSound :=
  ⟨holding { record11 .collecting [.absent, .placed] with stranded := true }, { cls := 1, origin := 13,
                                                                                body := [1, 0, 76] },
    { record11 .collecting [.absent, .placed] with stranded := true }, by decide⟩

theorem witness_SetactsTaken_8 :
    ∃ (s : State) (f : Frame) (r : SetRecord), s.hears .setact f ∧ setactStation f = s.station ∧ s.findSet (f.setAt 0)
      = some r ∧ r.state = .collecting ∧ r.stranded = true ∧ .absent ∈ r.map ∧ s.lc.routine.length < 12 ∧ 12 ≤
      s.wantState.lc.routine.length ∧ s.setTableSound :=
  ⟨{ holding { record11 .collecting [.absent] with stranded := true } with lc := { base.lc with routine := List.replicate 11 (TxEntry.fresh .hello) } },
    { cls := 1, origin := 13, body := [1, 0, 76] }, { record11 .collecting [.absent] with stranded := true }, by
    decide⟩

theorem witness_SetactsTaken_9 :
    ∃ (s : State) (f : Frame) (r : SetRecord), s.hears .setact f ∧ setactStation f = s.station ∧ s.findSet (f.setAt 0)
      = some r ∧ r.state = .collecting ∧ .absent ∈ r.map ∧ 12 ≤ s.lc.routine.length ∧ s.setTableSound :=
  ⟨{ holding { record11 .collecting [.absent] with stranded := true } with lc := { base.lc with routine := List.replicate 12 (TxEntry.fresh .hello) } },
    { cls := 1, origin := 13, body := [1, 0, 76] }, { record11 .collecting [.absent] with stranded := true }, by
    decide⟩

theorem witness_SetactsTaken_10 :
    ∃ (s : State) (f : Frame) (r : SetRecord), s.hears .setact f ∧ setactStation f = s.station ∧ s.findSet (f.setAt 0)
      = some r ∧ r.state = .collecting ∧ .absent ∉ r.map ∧ s.setTableSound :=
  ⟨holding (record11 .collecting [.placed, .inboundBin]), { cls := 1, origin := 13, body := [1, 0, 76] }, record11
    .collecting [.placed, .inboundBin], by decide⟩

theorem witness_SetactsTaken_11 :
    ∃ (s : State) (f : Frame), s.hears .setact f ∧ setactStation f = s.station ∧ (∀ r, s.findSet (f.setAt 0) = some r
      → r.state ≠ .collecting) :=
  ⟨base, { cls := 1, origin := 13, body := [1, 2, 76] }, by decide, by decide, (fun r h => nomatch h)⟩

theorem witness_SetactsTaken_12 :
    ∃ (s : State) (f : Frame), s.hears .setact f ∧ setactStation f ≠ s.station :=
  ⟨base, { cls := 1, origin := 13, body := [1, 0, 80] }, by decide⟩

theorem witness_SetactsTaken_14 :
    ∃ (s : State) (f : Frame), s.hears .setact f ∧ setactStation f = s.station :=
  ⟨base, { cls := 1, origin := 13, body := [1, 0, 76] }, by decide⟩

theorem witness_ServiceTaken_1 :
    ∃ (s : State) (f : Frame), s.hears .service f ∧ serviceStation f = s.station ∧ s.bs.state = .active :=
  ⟨base, { cls := 1, origin := 0, body := [48] }, by decide⟩

theorem witness_ServiceTaken_2 :
    ∃ (s : State) (f : Frame), s.hears .service f ∧ serviceStation f = s.station ∧ (s.bs.state = .active ∨ s.bs.state
      = .draining) ∧ s.setTableSound :=
  ⟨holding (record11 .collecting [.absent, .placed]), { cls := 1, origin := 0, body := [49] }, by decide⟩

theorem witness_ServiceTaken_2b :
    ∃ (s : State) (f : Frame), s.hears .service f ∧ serviceStation f = s.station ∧ s.bs.state = .active
      ∧ hasOneOfEach s false ∧ s.transfersWait :=
  ⟨crowded .idle [transfer4], { cls := 1, origin := 0, body := [49] }, by decide, rfl, rfl, by decide,
    .inr (.inl (by decide))⟩

theorem witness_ServiceTaken_2c :
    ∃ (s : State) (f : Frame), s.hears .service f ∧ serviceStation f = s.station ∧ s.bs.state = .draining
      ∧ hasOneOfEach s true :=
  ⟨{ crowded (.busy transfer4 (some .a)) [] with bs := { base.bs with state := .draining } },
    { cls := 1, origin := 0, body := [49] }, by decide, rfl, rfl, by decide⟩

theorem witness_ServiceTaken_3 :
    ∃ (s : State) (f : Frame), s.hears .service f ∧ serviceStation f = s.station ∧ (s.bs.state = .draining ∨
      s.bs.state = .service) :=
  ⟨{ base with bs := { base.bs with state := .service } }, { cls := 1, origin := 0, body := [50] }, by decide⟩

theorem witness_ServiceTaken_4 :
    ∃ (s : State) (f : Frame), acceptable .service f = true ∧ f.origin.toNat ≠ s.station ∧ serviceStation f =
      s.station ∧ (s.bs.state = .service ∨ s.bs.state = .fault .gate ∨ s.bs.state = .fault .carriage ∨ s.bs.state =
      .fault .linkLost ∨ s.bs.state = .fault .expelled ∨ s.bs.state = .fault .clash) :=
  ⟨{ base with bs := { base.bs with state := .fault .linkLost } }, { cls := 1, origin := 0, body := [51] }, by decide⟩

theorem witness_ServiceTaken_5 :
    ∃ (s : State) (f : Frame), s.hears .service f ∧ serviceStation f = s.station ∧ s.bs.state ≠ .active :=
  ⟨{ base with bs := { base.bs with state := .joining, refused := 255 } }, { cls := 1, origin := 0, body := [48] }, by
    decide⟩

theorem witness_ServiceTaken_6 :
    ∃ (s : State) (f : Frame), s.hears .service f ∧ serviceStation f = s.station ∧ s.bs.state ≠ .active ∧ s.bs.state ≠
      .draining :=
  ⟨{ base with bs := { base.bs with state := .service } }, { cls := 1, origin := 0, body := [49] }, by decide⟩

theorem witness_ServiceTaken_7 :
    ∃ (s : State) (f : Frame), s.hears .service f ∧ serviceStation f = s.station ∧ s.bs.state ≠ .draining ∧ s.bs.state
      ≠ .service :=
  ⟨base, { cls := 1, origin := 0, body := [50] }, by decide⟩

theorem witness_ServiceTaken_8 :
    ∃ (s : State) (f : Frame), s.hears .service f ∧ serviceStation f = s.station ∧ (s.bs.state = .joining ∨ s.bs.state
      = .active ∨ s.bs.state = .draining) :=
  ⟨base, { cls := 1, origin := 0, body := [51] }, by decide⟩

theorem witness_ServiceTaken_9 :
    ∃ (s : State) (f : Frame), s.hears .service f ∧ serviceStation f ≠ s.station :=
  ⟨base, { cls := 1, origin := 0, body := [128] }, by decide⟩

theorem witness_ServiceTaken_10 :
    ∃ (s : State) (f : Frame), s.hears .service f ∧ serviceStation f = s.station :=
  ⟨base, { cls := 1, origin := 0, body := [52] }, by decide⟩

theorem witness_ResetReadsStraps_1 :
    ∃ (x : Straps), x.good = false :=
  ⟨{ straps3 with parity := 0 }, by decide⟩

theorem witness_ResetReadsStraps_3 :
    ∃ (x : Straps), x.good = true :=
  ⟨straps3, by decide⟩

theorem witness_ProbeAnswered_1 :
    ∃ (s : State) (f : Frame), s.hears .probe f ∧ f.byteAt 0 / 16 = s.station ∧ f.byteAt 0 % 16 ≤ 12 ∧
      s.lc.routine.length < 12 :=
  ⟨base, { cls := 2, origin := 14, body := [60, 0] }, by decide⟩

theorem witness_ProbeAnswered_2 :
    ∃ (s : State) (f : Frame), s.hears .probe f ∧ f.byteAt 0 / 16 = s.station ∧ f.byteAt 0 % 16 ≤ 12 ∧ 12 ≤
      s.lc.routine.length :=
  ⟨{ base with lc := { base.lc with routine := List.replicate 12 (TxEntry.fresh .hello) } }, { cls := 2, origin := 14,
                                                                                               body := [48, 0] }, by
    decide⟩

theorem witness_ProbeAnswered_3 :
    ∃ (s : State) (f : Frame), s.hears .probe f ∧ f.byteAt 0 / 16 = s.station ∧ 13 ≤ f.byteAt 0 % 16 :=
  ⟨base, { cls := 2, origin := 14, body := [61, 0] }, by decide⟩

theorem witness_ProbeAnswered_4 :
    ∃ (s : State) (f : Frame), s.hears .probe f ∧ f.byteAt 0 / 16 ≠ s.station :=
  ⟨base, { cls := 2, origin := 14, body := [64, 0] }, by decide⟩

theorem witness_ProbeAnswered_5 :
    ∃ (n i : Nat), 1 ≤ i ∧ n ∈ [0, 1, 2, 3, 4, 5, 6, 9] :=
  ⟨9, 1, by decide⟩

theorem witness_ProbeAnswered_7 : ∃ n : Nat, n ≤ 65535 := ⟨65535, by decide⟩

theorem witness_ProbeAnswered_9 : ∃ s : State, s.hr.inlet.length ≤ 3 ∧ s.hr.inlet ≠ [] :=
  ⟨{ base with hr := { base.hr with inlet := [{ pocket := 1, id := set11, page := 1 }] } }, by decide⟩

theorem witness_ProbeAnswered_11 :
    ∃ (s : State) (i : Nat) (x : JawState), (i = 0 ∧ x = s.sc.jawA ∨ i = 1 ∧ x = s.sc.jawB) ∧ x ≠ .free :=
  ⟨{ base with sc := { base.sc with jawB := .outOfService set11 } }, 1, .outOfService set11, by decide⟩

theorem witness_ProbeAnswered_12 :
    ∃ (s : State) (p : Nat) (x : Pocket), nth1 s.dc.pockets p = some x ∧ p = 2 :=
  ⟨base, 2, readyPocket, by decide⟩

theorem witness_ProbeAnswered_13 :
    ∃ (s : State) (p : Nat) (x : Peer), nth1 s.lc.peers p = some x ∧ p ≠ s.station ∧ x.present = true :=
  ⟨emptying, 5, { Peer.absent with present := true }, by decide⟩

theorem witness_ProbeAnswered_14 :
    ∃ (s : State) (i : Nat) (r : JobRecord), s.jt.jobs[i]? = some r :=
  ⟨base, 0, job1, by decide⟩

theorem witness_ProbeAnswered_15 :
    ∃ (s : State) (i : Nat) (r : SetRecord), s.co.sets[i]? = some r :=
  ⟨crowded .idle [transfer4], 3, { record11 .complete [.placed] with id := { job := 1, num := 4 }, bin := some 4 }, by decide⟩

theorem witness_FramesOnTheLine_1 :
    ∃ (s : State) (e : TxEntry) (rest : List TxEntry) (c : Option (BitVec 2 × BitVec 4)), s.bs.state ≠ .dormant ∧
      s.onLine = false ∧ s.lc.urgent = e :: rest ∧ (¬(∃ d, c = some d ∧ (d.1.toNat < e.notice.kind.cls.toNat ∨ d.1 =
      e.notice.kind.cls ∧ d.2.toNat < s.bs.straps.station.toNat))) :=
  ⟨{ base with lc := { base.lc with urgent := [TxEntry.fresh (.claim set11 3)] } }, TxEntry.fresh (.claim set11 3),
    [], none, by decide, by decide, by decide, by simp⟩

theorem witness_FramesOnTheLine_2 :
    ∃ (s : State) (e : TxEntry) (rest : List TxEntry) (c : Option (BitVec 2 × BitVec 4)), s.bs.state ≠ .dormant ∧
      s.onLine = false ∧ s.lc.urgent = [] ∧ s.lc.routine = e :: rest ∧ (¬(∃ d, c = some d ∧ (d.1.toNat <
      e.notice.kind.cls.toNat ∨ d.1 = e.notice.kind.cls ∧ d.2.toNat < s.bs.straps.station.toNat))) :=
  ⟨{ base with lc := { base.lc with routine := [TxEntry.fresh .state] } }, TxEntry.fresh .state, [], some (2, 4), by
    decide, by decide, by decide, by decide, by simp [TxEntry.fresh, Notice.kind, NoticeKind.cls, base, straps3]⟩

theorem witness_FramesOnTheLine_3 :
    ∃ (s : State) (e : TxEntry) (c : Option (BitVec 2 × BitVec 4)), (s.lc.urgent.head? = some e ∨ s.lc.urgent = [] ∧
      s.lc.routine.head? = some e) ∧ ((∃ d, c = some d ∧ (d.1.toNat < e.notice.kind.cls.toNat ∨ d.1 =
      e.notice.kind.cls ∧ d.2.toNat < s.bs.straps.station.toNat))) :=
  ⟨{ base with lc := { base.lc with routine := [TxEntry.fresh .state] } }, TxEntry.fresh .state, some (2, 2), by
    decide, ⟨(2, 2), rfl, by decide⟩⟩

theorem witness_FramesOnTheLine_4 :
    ∃ (s : State), (s.bs.state = .dormant ∨ s.onLine = true ∨ s.lc.urgent = [] ∧ s.lc.routine = []) :=
  ⟨base, by decide⟩

theorem witness_FramesOnTheLine_5 :
    ∃ (s : State) (e : TxEntry) (rest : List TxEntry), s.lc.urgent = e :: rest ∧ e.onLine.isSome = true ∧ e.withdrawn
      = false ∧ e.attempts ≤ 7 ∧ (∀ x ∈ rest ++ s.lc.routine, x.onLine = none) :=
  ⟨{ base with lc := { base.lc with urgent := [{ notice := .claim set11 3, attempts := 7, withdrawn := false,
                                                 onLine := some { cls := 0, origin := 3, body := [1, 0, 67] } }] } },
    { notice := .claim set11 3, attempts := 7, withdrawn := false, onLine := some { cls := 0, origin := 3,
                                                                                    body := [1, 0, 67] } }, [], by
    decide⟩

theorem witness_FramesOnTheLine_6 :
    ∃ (s : State) (e : TxEntry) (rest : List TxEntry), s.lc.urgent = e :: rest ∧ e.onLine.isSome = true ∧ (e.withdrawn
      = true ∨ 8 ≤ e.attempts) ∧ s.cu.waiting = [] ∧ s.cu.backlog = [] ∧ (∀ x ∈ rest ++ s.lc.routine, x.onLine = none)
      ∧ e.notice.kind ≠ .gone :=
  ⟨{ base with lc := { base.lc with urgent := [{ notice := .claim set11 3, attempts := 8, withdrawn := false,
                                                 onLine := some { cls := 0, origin := 3, body := [1, 0, 67] } }] } },
    { notice := .claim set11 3, attempts := 8, withdrawn := false, onLine := some { cls := 0, origin := 3,
                                                                                    body := [1, 0, 67] } }, [], by
    decide⟩

theorem witness_FramesOnTheLine_7 :
    ∃ (s : State) (e : TxEntry) (rest : List TxEntry), s.lc.routine = e :: rest ∧ e.onLine.isSome = true ∧ e.withdrawn
      = false ∧ e.attempts ≤ 7 ∧ (∀ x ∈ s.lc.urgent ++ rest, x.onLine = none) :=
  ⟨{ base with lc := { base.lc with urgent := [TxEntry.fresh (.claim set11 3)], routine := [{ notice := .state,
                                                                                              attempts := 7,
                                                                                              withdrawn := false,
                                                                                              onLine := some { cls := 2,
                                                                                                               origin := 3,
                                                                                                               body := [0x20, 4, 0, 0, 0, 0, 0] } }] } },
    { notice := .state, attempts := 7, withdrawn := false, onLine := some { cls := 2, origin := 3,
                                                                            body := [0x20, 4, 0, 0, 0, 0, 0] } }, [],
    by decide⟩

theorem witness_FramesOnTheLine_8 :
    ∃ (s : State) (e : TxEntry) (rest : List TxEntry), s.lc.routine = e :: rest ∧ e.onLine.isSome = true ∧
      (e.withdrawn = true ∨ 8 ≤ e.attempts ∧ e.notice.kind ≠ .gone) ∧ s.sc.doneList = [] ∧ s.lc.due = [] ∧ (∀ x ∈
      s.lc.urgent ++ rest, x.onLine = none) :=
  ⟨{ base with lc := { base.lc with routine := [{ notice := .state, attempts := 1, withdrawn := true,
                                                  onLine := some { cls := 2, origin := 3,
                                                                   body := [0x20, 4, 0, 0, 0, 0, 0] } }] } },
    { notice := .state, attempts := 1, withdrawn := true, onLine := some { cls := 2, origin := 3,
                                                                           body := [0x20, 4, 0, 0, 0, 0, 0] } }, [],
    by decide⟩

theorem witness_FramesOnTheLine_9 :
    ∃ (s : State) (e : TxEntry) (rest : List TxEntry) (x : Nat), s.lc.routine = e :: rest ∧ e.onLine.isSome = true ∧
      e.withdrawn = false ∧ 8 ≤ e.attempts ∧ e.notice = .gone x ∧ s.sc.doneList = [] ∧ s.lc.due = [] ∧ (∀ x ∈
      s.lc.urgent ++ rest, x.onLine = none) :=
  ⟨{ base with lc := { base.lc with routine := [{ notice := .gone 5, attempts := 8, withdrawn := false,
                                                  onLine := some { cls := 1, origin := 3, body := [5] } }],
                                    peers := set1 base.lc.peers 5 { Peer.absent with present := true } } },
    { notice := .gone 5, attempts := 8, withdrawn := false, onLine := some { cls := 1, origin := 3, body := [5] } },
    [], 5, by decide⟩

theorem witness_FramesOnTheLine_10 :
    ∃ (s : State), (∀ x ∈ s.lc.urgent ++ s.lc.routine, x.onLine = none) :=
  ⟨base, by decide⟩

theorem witness_FramesOnTheLine_11 :
    ∃ (s : State), s.bs.state ≠ .dormant :=
  ⟨base, by decide⟩

theorem witness_FramesOnTheLine_12 :
    ∃ (s : State), s.bs.state = .dormant :=
  ⟨State.reset, by decide⟩

theorem witness_FramesOnTheLine_13 :
    ∃ (s : State) (kind : BitVec 6) (f : Frame) (x : Nat), x = f.origin.toNat ∧ 1 ≤ x ∧ x ≤ 8 ∧ x ≠ s.station ∧
      s.ownAttempt kind f = false ∧ s.lc.peers.length = 8 :=
  ⟨base, 1, { cls := 0, origin := 8, body := [1, 0, 66] }, 8, by decide⟩

theorem witness_FramesOnTheLine_14 :
    ∃ (s : State) (kind : BitVec 6) (f : Frame), (f.origin.toNat = 0 ∨ 9 ≤ f.origin.toNat) ∧ s.ownAttempt kind f =
      false :=
  ⟨base, 4, { cls := 1, origin := 15, body := [] }, by decide⟩

theorem witness_FramesOnTheLine_15 :
    ∃ (s : State) (kind : BitVec 6) (f : Frame), (s.bs.state = .fault .linkLost ∨ s.bs.state = .fault .expelled) ∧
      s.clashes kind f = false :=
  ⟨{ base with bs := { base.bs with state := .fault .linkLost } }, 15, { cls := 0, origin := 9, body := [] }, by
    decide⟩

theorem witness_FramesOnTheLine_16 :
    ∃ (s t : State), (s.bs.state ≠ .fault .linkLost ∧ s.bs.state ≠ .fault .expelled ∨ t.bs.state ≠ .fault .linkLost ∧
      t.bs.state ≠ .fault .expelled) :=
  ⟨base, base, by decide⟩

theorem witness_FramesOnTheLine_17 :
    ∃ (s t : State), (s.bs.state = .fault .linkLost ∨ s.bs.state = .fault .expelled) ∧ (t.bs.state = .fault .linkLost
      ∨ t.bs.state = .fault .expelled) ∧ t.co.sets ≠ [] :=
  ⟨{ base with bs := { base.bs with state := .fault .linkLost } },
    { holding (record11 .surrendering [.placed]) with bs := { base.bs with state := .fault .linkLost } }, by decide⟩

theorem witness_FramesOnTheLine_18 :
    ∃ (s t : State), (s.bs.state = .fault .linkLost ∨ s.bs.state = .fault .expelled) ∧ (t.bs.state = .fault .linkLost
      ∨ t.bs.state = .fault .expelled) ∧ t.co.sets = [] :=
  ⟨{ base with bs := { base.bs with state := .fault .linkLost } },
    { base with bs := { base.bs with state := .fault .linkLost } }, by decide⟩

theorem witness_FramesOnTheLine_19 :
    ∃ (s : State) (kind : BitVec 6) (f : Frame) (e : TxEntry) (rest : List TxEntry), s.lc.urgent = e :: rest
      ∧ (∀ x ∈ rest ++ s.lc.routine, x.onLine = none) ∧ f.origin.toNat = s.station ∧ e.notice.kind.code = kind
      ∧ e.onLine = some f ∧ s.cu.waiting = [] :=
  ⟨claimedLate 3 [], 1, lateFrame, lateTx, List.replicate 3 (TxEntry.fresh (.yield { job := 1, num := 2 } .staff)),
    by decide⟩

theorem witness_FramesOnTheLine_20 :
    ∃ (s : State) (kind : BitVec 6) (f : Frame) (e : TxEntry) (rest : List TxEntry) (i : SetId) (y : YieldReason)
      (ws : List Waiting), s.lc.urgent = e :: rest ∧ (∀ x ∈ rest ++ s.lc.routine, x.onLine = none)
      ∧ f.origin.toNat = s.station ∧ e.notice.kind.code = kind ∧ e.onLine = some f ∧ rest.length = 3
      ∧ s.cu.waiting = .yield i y :: ws :=
  ⟨claimedLate 3 [.yield { job := 1, num := 3 } .jam], 1, lateFrame, lateTx,
    List.replicate 3 (TxEntry.fresh (.yield { job := 1, num := 2 } .staff)), { job := 1, num := 3 }, .jam, [], by decide⟩

/-- The same with the HELDs of a backlog waiting. -/
def owing (b : List SetId) : State :=
  { crowded .idle [transfer4] with
    lc := (claimedLate 3 []).lc
    cu := { base.cu with backlog := b, waiting := [.helds] } }

theorem witness_FramesOnTheLine_21a :
    ∃ (s : State) (kind : BitVec 6) (f : Frame) (e : TxEntry) (rest : List TxEntry) (ws : List Waiting)
      (live : List SetId), s.lc.urgent = e :: rest ∧ (∀ x ∈ rest ++ s.lc.routine, x.onLine = none)
      ∧ f.origin.toNat = s.station ∧ e.notice.kind.code = kind ∧ e.onLine = some f ∧ rest.length = 3
      ∧ s.cu.waiting = .helds :: ws ∧ live = s.cu.backlog.filter (fun i => i ∈ s.heldNow) ∧ live ≠ [] :=
  ⟨owing [{ job := 1, num := 2 }], 1, lateFrame, lateTx,
    List.replicate 3 (TxEntry.fresh (.yield { job := 1, num := 2 } .staff)), [], [{ job := 1, num := 2 }], by decide⟩

theorem witness_FramesOnTheLine_21b :
    ∃ (s : State) (kind : BitVec 6) (f : Frame) (e : TxEntry) (rest : List TxEntry) (ws : List Waiting)
      (live : List SetId), s.lc.urgent = e :: rest ∧ (∀ x ∈ rest ++ s.lc.routine, x.onLine = none)
      ∧ f.origin.toNat = s.station ∧ e.notice.kind.code = kind ∧ e.onLine = some f ∧ rest.length = 3
      ∧ s.cu.waiting = .helds :: ws ∧ live = s.cu.backlog.filter (fun i => i ∈ s.heldNow) ∧ live = [] :=
  ⟨owing [{ job := 1, num := 1 }], 1, lateFrame, lateTx,
    List.replicate 3 (TxEntry.fresh (.yield { job := 1, num := 2 } .staff)), [], [], by decide⟩

/-- A STATE of this bay on the line. -/
def stateTx : TxEntry :=
  { notice := .state, attempts := 1, withdrawn := false, onLine := some { cls := 2, origin := 3, body := [0x20, 4, 0, 0, 0, 0, 0] } }

/-- Its frame. -/
def stateFrame : Frame := { cls := 2, origin := 3, body := [0x20, 4, 0, 0, 0, 0, 0] }

/-- That STATE with `n` notices behind it, and what is due and done as given. -/
def stateOut (n : Nat) (k : List Due) (d : List DoneWaiting) : State :=
  { base with
    lc := { base.lc with routine := stateTx :: List.replicate n (TxEntry.fresh .hello), due := k }
    sc := { base.sc with doneList := d } }

theorem witness_FramesOnTheLine_22 :
    ∃ (s : State) (kind : BitVec 6) (f : Frame) (e : TxEntry) (rest : List TxEntry), s.lc.routine = e :: rest
      ∧ (∀ x ∈ s.lc.urgent ++ rest, x.onLine = none) ∧ f.origin.toNat = s.station ∧ e.notice.kind.code = kind
      ∧ e.onLine = some f ∧ s.lc.due = [] ∧ s.sc.doneList = [] :=
  ⟨stateOut 11 [] [], 10, stateFrame, stateTx, List.replicate 11 (TxEntry.fresh .hello), by decide⟩

theorem witness_FramesOnTheLine_23 :
    ∃ (s : State) (kind : BitVec 6) (f : Frame) (e : TxEntry) (rest : List TxEntry) (k : Due) (ks : List Due),
      s.lc.routine = e :: rest ∧ (∀ x ∈ s.lc.urgent ++ rest, x.onLine = none) ∧ f.origin.toNat = s.station
      ∧ e.notice.kind.code = kind ∧ e.onLine = some f ∧ rest.length = 11 ∧ s.lc.due = k :: ks
      ∧ (∀ d ∈ s.sc.doneList.head?, k.since < d.since) ∧ s.sc.doneList ≠ [] :=
  ⟨stateOut 11 [⟨.state, 1⟩] [⟨⟨set11, 1, .stapled, 1⟩, 2⟩], 10, stateFrame, stateTx,
    List.replicate 11 (TxEntry.fresh .hello), ⟨.state, 1⟩, [], rfl, by decide, rfl, rfl, rfl, rfl, rfl,
    (fun _ h => by cases h; decide), by decide⟩

theorem witness_FramesOnTheLine_24 :
    ∃ (s : State) (kind : BitVec 6) (f : Frame) (e : TxEntry) (rest : List TxEntry) (d : DoneWaiting)
      (ds : List DoneWaiting), s.lc.routine = e :: rest ∧ (∀ x ∈ s.lc.urgent ++ rest, x.onLine = none)
      ∧ f.origin.toNat = s.station ∧ e.notice.kind.code = kind ∧ e.onLine = some f ∧ rest.length = 11
      ∧ s.sc.doneList = d :: ds ∧ (∀ k ∈ s.lc.due.head?, d.since ≤ k.since) ∧ s.lc.due ≠ [] :=
  ⟨stateOut 11 [⟨.state, 2⟩] [⟨⟨set11, 1, .stapled, 1⟩, 1⟩], 10, stateFrame, stateTx,
    List.replicate 11 (TxEntry.fresh .hello), ⟨⟨set11, 1, .stapled, 1⟩, 1⟩, [], rfl, by decide, rfl, rfl, rfl, rfl, rfl,
    (fun _ h => by cases h; decide), by decide⟩

theorem witness_TimersAndRefills_1 :
    ∃ (s : State) (x : Nat), (s.peer x).timer = true ∧ s.lc.routine.length < 12 :=
  ⟨{ base with lc := { base.lc with peers := set1 base.lc.peers 8 { Peer.absent with present := true,
                                                                                     timer := true } } }, 8, by
    decide⟩

theorem witness_TimersAndRefills_2 :
    ∃ (s : State) (x : Nat), (s.peer x).timer = true ∧ 12 ≤ s.lc.routine.length :=
  ⟨{ base with lc := { base.lc with peers := set1 base.lc.peers 1 { Peer.absent with present := true, timer := true },
                                    routine := List.replicate 12 (TxEntry.fresh .hello) } }, 1, by decide⟩

theorem witness_TimersAndRefills_3 :
    ∃ (s : State) (x : Nat), (s.peer x).timer = false :=
  ⟨base, 1, by decide⟩

theorem witness_TimersAndRefills_4 :
    ∃ (s : State), s.lc.silence = true ∧ s.bs.state.faultEnters .linkLost = true ∧ s.setTableSound :=
  ⟨holding (record11 .collecting [.absent, .placed]), by decide⟩

theorem witness_TimersAndRefills_4b :
    ∃ (s : State), s.lc.silence = true ∧ s.bs.state.faultEnters .linkLost = true ∧ hasOneOfEach s false
      ∧ s.transfersWait :=
  ⟨crowded .idle [transfer4], rfl, rfl, by decide, .inr (.inl (by decide))⟩

theorem witness_TimersAndRefills_4c :
    ∃ (s : State), s.lc.silence = true ∧ s.bs.state.faultEnters .linkLost = true ∧ hasOneOfEach s true :=
  ⟨crowded (.busy transfer4 (some .a)) [], rfl, rfl, by decide⟩

theorem witness_TimersAndRefills_5 :
    ∃ (s : State), s.lc.silence = true ∧ (s.bs.state = .fault .gate ∨ s.bs.state = .fault .carriage) :=
  ⟨{ base with bs := { base.bs with state := .fault .carriage } }, by decide⟩

theorem witness_TimersAndRefills_6 :
    ∃ (s : State), s.lc.silence = false :=
  ⟨State.reset, by decide⟩

theorem witness_TimersAndRefills_7 :
    ∃ (s : State), s.lc.cadence = true ∧ s.bs.state ≠ .dormant ∧ (∀ e ∈ s.lc.routine, e.notice = .state →
      e.onLine.isSome = true) ∧ s.lc.routine.length < 12 :=
  ⟨base, by decide⟩

theorem witness_TimersAndRefills_8 :
    ∃ (s : State), s.lc.cadence = true ∧ (∃ e ∈ s.lc.routine, e.notice = .state ∧ e.onLine = none) :=
  ⟨{ base with lc := { base.lc with routine := [TxEntry.fresh .state] } }, by decide⟩

theorem witness_TimersAndRefills_9 :
    ∃ (s : State), s.lc.cadence = false :=
  ⟨State.reset, by decide⟩

theorem witness_TimersAndRefills_10 :
    ∃ (s : State), s.bs.join = .listening :=
  ⟨{ base with bs := { base.bs with state := .joining, join := .listening } }, by decide⟩

theorem witness_TimersAndRefills_11 :
    ∃ (s : State), s.bs.join = .awaitingEcho :=
  ⟨{ base with bs := { base.bs with state := .joining, join := .awaitingEcho } }, by decide⟩

theorem witness_TimersAndRefills_12 :
    ∃ (s : State), s.bs.join = .stopped :=
  ⟨base, by decide⟩

theorem witness_TimersAndRefills_13 :
    ∃ (s : State) (id : SetId) (y : YieldReason), s.cu.waiting = [.yield id y] ∧ s.lc.urgent.length < 4 :=
  ⟨{ base with cu := { base.cu with waiting := [.yield set11 .late] } }, set11, .late, by decide⟩

theorem witness_TimersAndRefills_14 :
    ∃ (s : State), (s.cu.waiting = [] ∨ 4 ≤ s.lc.urgent.length) :=
  ⟨base, by decide⟩

theorem witness_TimersAndRefills_15 :
    ∃ (s : State) (d : DoneWaiting) (ds : List DoneWaiting), s.lc.routine.length < 12 ∧ s.sc.doneList = d :: ds ∧ (∀ k
      ∈ s.lc.due, d.since ≤ k.since) ∧ (s.sc.carriage ≠ .idle ∨ s.sc.carriageQueue = []) :=
  ⟨{ base with sc := { base.sc with doneList := [{ notice := .mk set11 1 .stapled 1, since := 3 }] } },
    { notice := .mk set11 1 .stapled 1, since := 3 }, [], by decide⟩

theorem witness_TimersAndRefills_16 :
    ∃ (s : State) (k : Due) (ks : List Due), s.lc.routine.length < 12 ∧ s.lc.due = k :: ks ∧ (∀ d ∈ s.sc.doneList,
      k.since < d.since) :=
  ⟨{ base with lc := { base.lc with due := [{ kind := .gone 5, since := 0 }] } }, { kind := .gone 5, since := 0 }, [],
    by decide⟩

theorem witness_TimersAndRefills_17 :
    ∃ (s : State), (12 ≤ s.lc.routine.length ∨ s.sc.doneList = [] ∧ s.lc.due = []) :=
  ⟨base, by decide⟩

theorem witness_TimersAndRefills_18 :
    ∃ (s : State), s.lc.cadence = true ∧ s.bs.state ≠ .dormant ∧ (∀ e ∈ s.lc.routine, e.notice = .state →
      e.onLine.isSome = true) ∧ 12 ≤ s.lc.routine.length :=
  ⟨{ base with lc := { base.lc with routine := List.replicate 12 (TxEntry.fresh .hello) } }, by decide⟩

end Sys2Proof.Tests
end

section
/-! ## The laws of the queues and of the sheets

What every shared operation does to the laws of R8, R11, R82, R88, R94, R101 and R151: `State.steady` says it once for an
operation on sets, units and notices, which takes no sheet past the gate; the commands of the gate and of the reader, which do,
are treated by themselves. Operations are taken in the order of the model's files. -/

namespace Sys2Proof.Machine

/-- R14: an approach entry stays, or is rewritten to PASS. -/
def Entry.eases (e x : Entry) : Prop := x = e ∨ x = e.asPass

/-- What an operation on sets may do to the gate: rewrite approach entries to PASS (R14). -/
def Gate.eases (g h : Gate) : Prop := h = { g with queue := h.queue } ∧ List.Forall₂ Entry.eases g.queue h.queue

/-- What an operation that takes no sheet past the gate keeps: the Reader Interface, the gate but for entries rewritten to PASS,
the feeder count, and the laws of the feeder's balance and of the Link Controller's and the Claim Unit's queues. -/
structure State.steady (s t : State) : Prop where
  reader : t.ri = s.ri
  gate : s.gc.eases t.gc
  count : t.rf.count = s.rf.count
  feeder : s.feederBalanced → t.feederBalanced
  transmit : s.transmitBounded → t.transmitBounded
  waiting : s.noNeedlessWait → t.noNeedlessWait

/-! ### What a frame keeps, block by block -/

section
variable {l : List Block} {s t : State}

theorem State.sameBut.ri (h : s.sameBut l t) (n : Block.ri ∉ l) : t.ri = s.ri := h.1 n
theorem State.sameBut.gc (h : s.sameBut l t) (n : Block.gc ∉ l) : t.gc = s.gc := h.2.1 n
theorem State.sameBut.jt (h : s.sameBut l t) (n : Block.jt ∉ l) : t.jt = s.jt := h.2.2.1 n
theorem State.sameBut.cu (h : s.sameBut l t) (n : Block.cu ∉ l) : t.cu = s.cu := h.2.2.2.1 n
theorem State.sameBut.co (h : s.sameBut l t) (n : Block.co ∉ l) : t.co = s.co := h.2.2.2.2.1 n
theorem State.sameBut.hr (h : s.sameBut l t) (n : Block.hr ∉ l) : t.hr = s.hr := h.2.2.2.2.2.1 n
theorem State.sameBut.rf (h : s.sameBut l t) (n : Block.rf ∉ l) : t.rf = s.rf := h.2.2.2.2.2.2.1 n
theorem State.sameBut.pw (h : s.sameBut l t) (n : Block.pw ∉ l) : t.pw = s.pw := h.2.2.2.2.2.2.2.1 n
theorem State.sameBut.sc (h : s.sameBut l t) (n : Block.sc ∉ l) : t.sc = s.sc := h.2.2.2.2.2.2.2.2.1 n
theorem State.sameBut.dc (h : s.sameBut l t) (n : Block.dc ∉ l) : t.dc = s.dc := h.2.2.2.2.2.2.2.2.2.1 n
theorem State.sameBut.lc (h : s.sameBut l t) (n : Block.lc ∉ l) : t.lc = s.lc := h.2.2.2.2.2.2.2.2.2.2.1 n
theorem State.sameBut.bs (h : s.sameBut l t) (n : Block.bs ∉ l) : t.bs = s.bs := h.2.2.2.2.2.2.2.2.2.2.2.1 n

end

/-! ### The gate -/

theorem Entry.eases.refl (e : Entry) : e.eases e := .inl rfl

theorem Entry.eases.trans {a b c : Entry} (h : a.eases b) (k : b.eases c) : a.eases c := by
  obtain rfl | rfl := h
  · exact k
  · obtain rfl | rfl := k
    · exact .inr rfl
    · exact .inr rfl

theorem Entry.eases.pass {a b : Entry} (h : a.eases b) (p : a.action = .pass) : b.action = .pass := by
  obtain rfl | rfl := h
  · exact p
  · rfl

theorem forall₂_eases_refl (q : List Entry) : List.Forall₂ Entry.eases q q := by
  induction q with
  | nil => exact .nil
  | cons e q ih => exact .cons (.refl e) ih

theorem forall₂_eases_trans {a b c : List Entry} (h : List.Forall₂ Entry.eases a b) (k : List.Forall₂ Entry.eases b c) :
    List.Forall₂ Entry.eases a c := by
  induction h generalizing c with
  | nil => exact k
  | cons hx _ ih =>
    obtain _ | ⟨kx, kr⟩ := k
    exact .cons (hx.trans kx) (ih kr)

theorem Gate.eases.refl (g : Gate) : g.eases g := ⟨rfl, forall₂_eases_refl _⟩

theorem Gate.eases.of_eq {g h : Gate} (e : h = g) : g.eases h := e ▸ .refl g

theorem Gate.eases.trans {a b c : Gate} (h : a.eases b) (k : b.eases c) : a.eases c := by
  obtain ⟨hb, hq⟩ := h
  obtain ⟨kc, kq⟩ := k
  refine ⟨?_, forall₂_eases_trans hq kq⟩
  rw [kc, hb]

theorem Gate.eases.length {g h : Gate} (e : g.eases h) : h.queue.length = g.queue.length := e.2.length_eq.symm

theorem Gate.eases.gate {g h : Gate} (e : g.eases h) : h.gate = g.gate := by rw [e.1]

theorem Gate.eases.tray {g h : Gate} (e : g.eases h) : h.tray = g.tray := by rw [e.1]

/-- R8: a rewritten queue commits the gate to no more than before. -/
theorem filter_action_le {a : Action} (ha : a ≠ .pass) {p q : List Entry} (h : List.Forall₂ Entry.eases p q) :
    (q.filter (fun e => e.action == a)).length ≤ (p.filter (fun e => e.action == a)).length := by
  induction h with
  | nil => exact Nat.le_refl _
  | @cons x y p q hx _ ih =>
    obtain rfl | rfl := hx
    · simp only [List.filter_cons]; split <;> simpa using ih
    · have : x.asPass.action = .pass := rfl
      simp only [List.filter_cons, this, beq_iff_eq, ha.symm, if_false]
      split
      · simpa using Nat.le_succ_of_le ih
      · exact ih

theorem Gate.eases.map {g : Gate} (hit : Entry → Bool) :
    g.eases { g with queue := g.queue.map (fun e => if hit e then e.asPass else e) } := by
  refine ⟨rfl, ?_⟩
  generalize g.queue = q
  induction q with
  | nil => exact .nil
  | cons e q ih =>
    refine .cons ?_ ih
    dsimp only
    split
    · exact .inr rfl
    · exact .inl rfl

theorem Gate.eases.set {g : Gate} {i : Nat} {e : Entry} (h : g.queue[i]? = some e) :
    g.eases { g with queue := g.queue.set i e.asPass } := by
  refine ⟨rfl, ?_⟩
  generalize g.queue = q at h
  induction q generalizing i with
  | nil => exact .nil
  | cons x q ih =>
    cases i with
    | zero =>
      simp only [List.getElem?_cons_zero, Option.some.injEq] at h
      exact .cons (.inr (by rw [h])) (forall₂_eases_refl q)
    | succ i => exact .cons (.refl x) (ih (by simpa using h))

/-! ### Composing -/

theorem State.steady.refl (s : State) : s.steady s := ⟨rfl, .refl _, rfl, id, id, id⟩

theorem State.steady.trans {s t u : State} (h : s.steady t) (k : t.steady u) : s.steady u :=
  ⟨k.reader.trans h.reader, h.gate.trans k.gate, k.count.trans h.count, k.feeder ∘ h.feeder, k.transmit ∘ h.transmit,
    k.waiting ∘ h.waiting⟩

theorem steady_foldl {α : Type} (f : State → α → State) (h : ∀ t x, State.steady t (f t x)) :
    ∀ (xs : List α) (s : State), s.steady (xs.foldl f s)
  | [], s => .refl s
  | x :: xs, s => (h s x).trans (steady_foldl f h xs (f s x))

theorem feederSheets_congr {g h : Rack} (e : h.rack = g.rack) : h.feederSheets = g.feederSheets := by
  unfold Rack.feederSheets Rack.feederInFlight
  rw [e]

/-- What the laws of the queues and sheets read of the state. -/
def State.traffic (s : State) : Reader × Gate × (Nat × Nat) × (RackState × CarriageState) × (Nat × Nat) × List Waiting :=
  (s.ri, s.gc, (s.rf.count, s.rf.onWay), (s.hr.rack, s.sc.carriage), (s.lc.urgent.length, s.lc.routine.length), s.cu.waiting)

/-- An operation that leaves the gate, the feeder, the requests in flight and the queues' lengths alone. -/
theorem State.steady.of {s t : State} (h : t.traffic = s.traffic) : s.steady t := by
  simp only [State.traffic, Prod.mk.injEq] at h
  obtain ⟨ri, gc, ⟨count, onWay⟩, ⟨rack, carriage⟩, ⟨urgent, routine⟩, waiting⟩ := h
  refine ⟨ri, .of_eq gc, count, ?_, ?_, ?_⟩
  · simp only [State.feederBalanced, feederSheets_congr rack, count, onWay, carriage, imp_self]
  · simp only [State.transmitBounded, urgent, routine, imp_self]
  · simp only [State.noNeedlessWait, waiting, urgent, imp_self]

/-- An operation that comes after such a change. -/
theorem State.steady.after {s t u : State} (k : t.steady u) (h : t.traffic = s.traffic) : s.steady u :=
  (State.steady.of h).trans k

/-- An operation on sets and notices: its frame, the urgent queue as it was and the routine queue within its limit. -/
theorem State.steady.of_told {s t : State} (frame : s.sameBut [.jt, .co, .pw, .dc, .lc, .bs, .queue] t)
    (urgent : t.lc.urgent.length = s.lc.urgent.length)
    (routine : s.lc.routine.length ≤ 12 → t.lc.routine.length ≤ 12) : s.steady t := by
  refine ⟨frame.ri (by decide), .of_eq (frame.gc (by decide)), by rw [(frame.rf (by decide))], ?_,
    fun h => ⟨by rw [urgent]; exact h.1, routine h.2⟩, ?_⟩
  · simp only [State.feederBalanced, (frame.hr (by decide)), (frame.rf (by decide)), (frame.sc (by decide)), imp_self]
  · simp only [State.noNeedlessWait, (frame.cu (by decide)), urgent, imp_self]

/-- An operation of the units: its frame, and the feeder's balance. -/
theorem State.steady.of_units {s t : State} (frame : s.sameBut [.jt, .co, .hr, .rf, .pw, .sc, .dc, .bs, .queue] t)
    (count : t.rf.count = s.rf.count) (feeder : s.feederBalanced → t.feederBalanced) : s.steady t := by
  refine ⟨frame.ri (by decide), .of_eq (frame.gc (by decide)), count, feeder, ?_, ?_⟩
  · simp only [State.transmitBounded, (frame.lc (by decide)), imp_self]
  · simp only [State.noNeedlessWait, (frame.cu (by decide)), (frame.lc (by decide)), imp_self]

/-! ### Ops.lean -/

variable (s : State)

theorem urgentRoom_iff : s.urgentRoom = true ↔ s.lc.urgent.length < 4 := decide_eq_true_iff

theorem routineRoom_iff : s.routineRoom = true ↔ s.lc.routine.length < 12 := decide_eq_true_iff

theorem pushUrgent_steady (n : Notice) (room : s.lc.urgent.length < 4) : s.steady (s.pushUrgent n) where
  reader := rfl
  gate := .refl _
  count := rfl
  feeder := id
  transmit h := ⟨by simp; omega, h.2⟩
  waiting h := h.imp id fun _ => by simp; omega

theorem pushRoutine_steady (n : Notice) (room : s.lc.routine.length < 12) : s.steady (s.pushRoutine n) :=
  .of_told (by simp [State.sameBut]) rfl fun _ => by simp; omega

theorem pushState_steady (room : s.lc.routine.length < 12) : s.steady s.pushState :=
  .of_told (by simp [State.sameBut]) rfl fun _ => by simp; omega

theorem addDue_steady (k : DueKind) : s.steady (s.addDue k) := by
  unfold State.addDue
  split
  · exact .refl _
  · exact .of rfl

theorem wantState_steady : s.steady s.wantState := by
  unfold State.wantState
  split
  · exact .refl _
  · split
    · exact .refl _
    · split
      · exact pushState_steady s ((routineRoom_iff s).mp ‹_›)
      · exact addDue_steady s _

theorem wantHello_steady : s.steady s.wantHello := by
  unfold State.wantHello
  split
  · exact .refl _
  · split
    · exact pushRoutine_steady s _ ((routineRoom_iff s).mp ‹_›)
    · exact addDue_steady s _

theorem wantGone_steady (x : Nat) : s.steady (s.wantGone x) := by
  unfold State.wantGone
  split
  · exact pushRoutine_steady s _ ((routineRoom_iff s).mp ‹_›)
  · exact addDue_steady s _

theorem tell_steady (old new : State) : new.steady (State.tell old new) := by
  unfold State.tell
  split
  · exact .refl _
  · exact wantState_steady _

theorem setBin_steady (b : Nat) (x : BinState) : s.steady (s.setBin b x) := .after (tell_steady _ _) rfl

theorem freeBin_steady (b : Nat) : s.steady (s.freeBin b) := by
  unfold State.freeBin
  split
  · exact setBin_steady _ _ _
  · exact .refl _

theorem changePocket_steady (p : Nat) (f : Pocket → Pocket) : s.steady (s.changePocket p f) := .after (tell_steady _ _) rfl

theorem unbindingTest_steady (p : Nat) : s.steady (s.unbindingTest p) := by
  unfold State.unbindingTest
  split
  · exact .refl _
  · split
    · exact changePocket_steady _ _ _
    · exact .refl _

theorem unbindJob_steady (j : Nat) : s.steady (s.unbindJob j) :=
  steady_foldl _ (fun t p => by
    split
    · exact unbindingTest_steady t p
    · exact .refl _) _ _

theorem putSet_steady (r : SetRecord) : s.steady (s.putSet r) := by
  unfold State.putSet
  split
  · exact .refl _
  · exact .after (tell_steady _ _) rfl

theorem updSet_steady (id : SetId) (f : SetRecord → SetRecord) : s.steady (s.updSet id f) := by
  unfold State.updSet
  split
  · exact .refl _
  · exact putSet_steady _ _

theorem setPage_steady (id : SetId) (p : Nat) (x : PageStatus) : s.steady (s.setPage id p x) := updSet_steady _ _ _

theorem progress_steady (id : SetId) : s.steady (s.progress id) := updSet_steady _ _ _

theorem sighting_steady (id : SetId) : s.steady (s.sighting id) := updSet_steady _ _ _

theorem addSet_steady (r : SetRecord) : s.steady (s.addSet r) := .after (tell_steady _ _) rfl

theorem dropSet_steady (r : SetRecord) : s.steady (s.dropSet r) := by
  refine .trans ?_ (unbindingTest_steady _ _)
  exact .after (tell_steady _ _) rfl

theorem putJob_steady (r : JobRecord) : s.steady (s.putJob r) := .of rfl

theorem announceJob_steady (r : JobRecord) : s.steady (s.announceJob r) := .of rfl

theorem addDone_steady (id : SetId) : s.steady (s.addDone id) := by
  unfold State.addDone
  split
  · exact .refl _
  · split
    · exact .refl _
    · dsimp only
      split
      · exact putJob_steady _ _
      · exact (putJob_steady _ _).trans (unbindJob_steady _ _)

/-! ### Units.lean (R60, R101, R118) -/

theorem hasRoom_iff (m : Nat) : s.hasRoom m = true ↔ s.rf.count + s.rf.onWay + m ≤ 64 := decide_eq_true_iff

/-- R60, R101: an IDLE rack carries no sheet, and a feeder release is issued only with room for its sheet. -/
theorem arbiterIssue_steady : s.steady s.arbiterIssue := by
  refine .of_units (sameBut_mono (arbiterIssue_frame s) (by decide)) ?_ ?_
  · unfold State.arbiterIssue
    repeat' split
    all_goals rfl
  · unfold State.arbiterIssue
    split
    · rename_i idle
      split
      · simp [State.feederBalanced, Rack.feederSheets, Rack.feederInFlight, idle]
      · split
        · exact id
        · split
          · simp [State.feederBalanced, Rack.feederSheets, Rack.feederInFlight, *]
          · split
            · rename_i room
              have := (hasRoom_iff s 1).mp room
              simp only [State.feederBalanced, Rack.feederSheets, Rack.feederInFlight, *]
              simp only [Bool.false_eq_true, if_false, beq_self_eq_true, if_true]
              omega
            · exact id
    · exact id

theorem setJaw_steady (j : JawName) (x : JawState) : s.steady (s.setJaw j x) := by cases j <;> exact .of rfl

/-- R101, R118: an IDLE carriage carries no sheet, and an UNLOAD is started only with room for its sheets. -/
theorem carriageIssue_steady : s.steady s.carriageIssue := by
  unfold State.carriageIssue
  split
  · rename_i idle
    split
    · exact .refl _
    · split
      · exact .refl _
      · split
        · dsimp only
          refine .trans ?_ (setJaw_steady _ _ _)
          refine .of_units (by simp [State.sameBut]) rfl ?_
          simp [State.feederBalanced, CarriageState.feederSheets, idle]
        · exact .refl _
    · split
      · rename_i m _ _ room
        have := (hasRoom_iff s m).mp room
        refine .of_units (by simp [State.sameBut]) rfl ?_
        simp only [State.feederBalanced, CarriageState.feederSheets, idle]
        omega
      · exact .refl _
  · exact .refl _

theorem arbiter_steady : s.steady s.arbiter := by
  unfold State.arbiter
  dsimp only
  split
  · exact arbiterIssue_steady s
  · exact (arbiterIssue_steady s).trans (carriageIssue_steady _)

theorem startTest_steady : s.steady s.startTest := by
  unfold State.startTest
  dsimp only
  split
  · exact carriageIssue_steady s
  · exact (carriageIssue_steady s).trans (arbiterIssue_steady _)

theorem roomReport_steady : s.steady s.roomReport := (arbiter_steady s).trans (startTest_steady _)

theorem queueRelease_steady (r : Release) : s.steady (s.queueRelease r) := .after (arbiter_steady _) rfl

theorem queueCarriage_steady (r : CarriageRequest) : s.steady (s.queueCarriage r) := by
  unfold State.queueCarriage
  dsimp only
  split
  · exact .after (startTest_steady _) rfl
  · exact .of rfl

theorem withdrawCarriage_steady (id : SetId) (u : Bool) : s.steady (s.withdrawCarriage id u) := by
  unfold State.withdrawCarriage
  dsimp only
  split
  · exact .after (startTest_steady _) rfl
  · exact .of rfl

theorem headIssue_steady : s.steady s.headIssue := by
  unfold State.headIssue
  repeat' split
  all_goals exact .of rfl

theorem deliverTest_steady (p : Nat) : s.steady (s.deliverTest p) := by
  unfold State.deliverTest
  repeat' split
  all_goals exact .of rfl

theorem deliverTests_steady : s.steady s.deliverTests := steady_foldl _ deliverTest_steady _ _

theorem fixOutcome_steady (j : JawName) (o : SetOutcome) : s.steady (s.fixOutcome j o) := by
  unfold State.fixOutcome
  split
  · exact setJaw_steady _ _ _
  · exact .refl _

theorem handOver_steady (j : JawName) (id : SetId) (o : SetOutcome) : s.steady (s.handOver j id o) := by
  unfold State.handOver
  split
  · exact .refl _
  · exact .trans (.trans (putSet_steady _ _) (fixOutcome_steady _ _ _)) (.after (deliverTests_steady _) rfl)

/-! ### Link.lean (R82, R88, R94, R129, R151) -/

theorem queueDone_steady (room : s.lc.routine.length < 12) : s.steady s.queueDone := by
  unfold State.queueDone
  split
  · exact .refl _
  · refine .trans ?_ (startTest_steady _)
    exact .after (pushRoutine_steady _ _ room) rfl

theorem queueDue_steady (room : s.lc.routine.length < 12) : s.steady s.queueDue := by
  unfold State.queueDue
  split
  · exact .refl _
  · dsimp only
    split
    · exact .after (pushState_steady _ room) rfl
    · exact .after (pushRoutine_steady _ _ room) rfl
    · exact .after (pushRoutine_steady _ _ room) rfl

theorem fillPlace_steady : s.steady s.fillPlace := by
  unfold State.fillPlace
  split
  · split
    · exact queueDue_steady s ((routineRoom_iff s).mp ‹_›)
    · exact queueDone_steady s ((routineRoom_iff s).mp ‹_›)
  · exact .refl _

theorem fillPlaces_steady : ∀ (n : Nat) (s : State), s.steady (State.fillPlaces n s)
  | 0, s => .refl s
  | n + 1, s => (fillPlace_steady s).trans (fillPlaces_steady n _)

theorem refillRoutine_steady : s.steady s.refillRoutine := fillPlaces_steady _ _

theorem joinDone_steady (d : DoneNotice) : s.steady (s.joinDone d) := by
  unfold State.joinDone
  dsimp only
  split
  · exact .after (refillRoutine_steady _) rfl
  · exact .of rfl

/-- What is still to be queued in CU, by which a refilling makes progress. -/
def State.toQueue (s : State) : Nat := s.cu.waiting.length + s.cu.backlog.length

/-- A waiting notice given a place leaves less to queue: a YIELD goes, and the HELDs list four sets of the backlog or go. -/
theorem toQueue_queueWaiting (room : s.urgentRoom = true) (h : s.cu.waiting ≠ []) :
    s.queueWaiting.toQueue < s.toQueue := by
  unfold State.queueWaiting State.toQueue
  rw [if_pos room]
  split
  · contradiction
  · rename_i id r rest e
    rw [e]
    by_cases late : r = .late <;> simp [late, ClaimUnit.markQueued]
  · rename_i rest e
    have live : (s.cu.backlog.filter s.stillHeld).length ≤ s.cu.backlog.length := List.length_filter_le _ _
    have cu : (s.formHeld rest).cu = { s.cu with
        backlog := (s.cu.backlog.filter s.stillHeld).drop 4
        waiting := if (s.cu.backlog.filter s.stillHeld).drop 4 = [] then rest else .helds :: rest } := by
      unfold State.formHeld
      dsimp only
      split <;> rfl
    rw [cu, e]
    dsimp only
    split
    · simp only [List.length_drop, List.length_cons]; omega
    · rename_i left
      have : (s.cu.backlog.filter s.stillHeld).drop 4 ≠ [] := left
      rw [Ne, List.drop_eq_nil_iff] at this
      simp only [List.length_drop, List.length_cons]; omega

/-- R82, R88, R94: a refilling with enough turns ends with nothing waiting, or with a full queue. -/
theorem queueWaitings_settled : ∀ (n : Nat) (s : State), s.toQueue ≤ n → (State.queueWaitings n s).noNeedlessWait
  | 0, s, h => by
    have : s.cu.waiting.length = 0 := by unfold State.toQueue at h; omega
    exact .inl (List.length_eq_zero_iff.mp this)
  | n + 1, s, h => by
    unfold State.queueWaitings
    by_cases room : s.urgentRoom = true
    · by_cases w : s.cu.waiting = []
      · have idle : s.queueWaiting = s := by simp [State.queueWaiting, room, w]
        have none : ∀ k, State.queueWaitings k s = s := by
          intro k
          induction k with
          | zero => rfl
          | succ k ih => rw [State.queueWaitings, idle, ih]
        rw [idle, none]
        exact .inl w
      · exact queueWaitings_settled n _ (by have := toQueue_queueWaiting s room w; omega)
    · have idle : s.queueWaiting = s := by simp [State.queueWaiting, room]
      have none : ∀ k, State.queueWaitings k s = s := by
        intro k
        induction k with
        | zero => rfl
        | succ k ih => rw [State.queueWaitings, idle, ih]
      rw [idle, none]
      exact .inr (Nat.le_of_not_lt (mt (urgentRoom_iff s).mpr room))

theorem refillUrgent_settled : s.refillUrgent.noNeedlessWait := queueWaitings_settled _ s (Nat.le_refl _)

theorem queueWaiting_transmit (h : s.transmitBounded) : s.queueWaiting.transmitBounded := by
  unfold State.queueWaiting
  split
  · rename_i room
    have := (urgentRoom_iff s).mp room
    have pushed : ∀ (t : State) (n : Notice), t.lc = s.lc → (t.pushUrgent n).transmitBounded := by
      intro t n e
      exact ⟨by rw [State.pushUrgent_lc, e]; simp; omega, by rw [State.pushUrgent_lc, e]; exact h.2⟩
    split
    · exact h
    · exact pushed _ _ rfl
    · unfold State.formHeld
      dsimp only
      split
      · exact h
      · exact pushed _ _ rfl
  · exact h

theorem queueWaitings_transmit : ∀ (n : Nat) (s : State), s.transmitBounded → (State.queueWaitings n s).transmitBounded
  | 0, _, h => h
  | n + 1, s, h => queueWaitings_transmit n _ (queueWaiting_transmit s h)

/-- R82, R88, R94: what a refilling makes good need not hold before it: only the queues' limits do. -/
theorem refillUrgent_steady_of {s t : State} (frame : s.sameBut [.jt, .cu, .co, .pw, .dc, .lc, .bs, .queue] t)
    (h : s.transmitBounded → t.transmitBounded) : s.steady t.refillUrgent := by
  have f := sameBut_trans frame (sameBut_mono (refillUrgent_frame t) (by decide))
  refine ⟨f.ri (by decide), .of_eq (f.gc (by decide)), by rw [(f.rf (by decide))], ?_,
    fun b => queueWaitings_transmit _ t (h b), fun _ => refillUrgent_settled t⟩
  simp only [State.feederBalanced, (f.hr (by decide)), (f.rf (by decide)), (f.sc (by decide)), imp_self]

theorem refillUrgent_steady : s.steady s.refillUrgent := refillUrgent_steady_of (sameBut_refl _ s) id

theorem dueYield_steady (id : SetId) (r : YieldReason) : s.steady (s.dueYield id r) :=
  refillUrgent_steady_of (by simp [State.sameBut]) (fun h => h)

theorem length_withdrawFrom_le (q : List TxEntry) (hit : Notice → Bool) : (withdrawFrom q hit).length ≤ q.length := by
  simpa [withdrawFrom, dropWaiting] using List.length_filter_le _ q

theorem withdrawUrgent_steady (hit : Notice → Bool) : s.steady (s.withdrawUrgent hit) := by
  unfold State.withdrawUrgent
  dsimp only
  split
  · rename_i same
    exact .of (by simp only [State.traffic, same])
  · exact refillUrgent_steady_of (by simp [State.sameBut])
      (fun h => ⟨Nat.le_trans (length_withdrawFrom_le _ _) h.1, h.2⟩)

theorem withdrawClaim_steady (id : SetId) : s.steady (s.withdrawClaim id) := withdrawUrgent_steady _ _

theorem removeGone_steady (of : Nat → Bool) (q : List TxEntry) (h : q.length ≤ s.lc.routine.length) :
    s.steady (s.removeGone of q) := by
  have shorter : s.steady { s with lc := { s.lc with due := s.lc.due.filter (fun d => !d.isGoneOf of), routine := q } } :=
    .of_told (by simp [State.sameBut]) rfl (Nat.le_trans h)
  unfold State.removeGone
  dsimp only
  split
  · exact shorter
  · exact shorter.trans (refillRoutine_steady _)

theorem cancelGone_steady (of : Nat → Bool) : s.steady (s.cancelGone of) :=
  removeGone_steady s _ _ (length_withdrawFrom_le _ _)

theorem yieldGone_steady (x : Nat) : s.steady (s.yieldGone x) :=
  removeGone_steady s _ _ (List.length_filter_le _ _)

theorem offerNotice_steady (c : Option (BitVec 2 × BitVec 4)) : s.steady (s.offerNotice c) := by
  unfold State.offerNotice
  dsimp only
  split
  · rename_i e rest _ h
    split
    · exact .refl _
    · exact .of (by simp [State.traffic, h])
  · rename_i e rest _ h
    split
    · exact .refl _
    · exact .of (by simp [State.traffic, h])
  · exact .refl _

theorem leaveLine_steady : s.steady s.leaveLine := by
  have urgentOff : s.steady
      (let t : State := { s with lc := { s.lc with
        urgent := s.lc.urgent.filter (fun e => e.onLine.isNone), routine := s.lc.routine.filter (fun e => e.onLine.isNone) } }
      if t.lc.urgent.length = s.lc.urgent.length then t else t.refillUrgent) := by
    dsimp only
    split
    · rename_i same
      exact .of_told (by simp [State.sameBut]) same (Nat.le_trans (List.length_filter_le _ _))
    · exact refillUrgent_steady_of (by simp [State.sameBut])
        (fun h => ⟨Nat.le_trans (List.length_filter_le _ _) h.1, Nat.le_trans (List.length_filter_le _ _) h.2⟩)
  unfold State.leaveLine
  dsimp only at urgentOff ⊢
  split
  · exact urgentOff
  · exact urgentOff.trans (refillRoutine_steady _)

theorem offLine_steady : s.steady s.offLine := .of (by simp [State.traffic, State.offLine])

theorem setPeer_steady (x : Nat) (p : Peer) : s.steady (s.setPeer x p) := .of rfl

theorem markPresent_steady (x : Nat) : s.steady (s.markPresent x) := (setPeer_steady _ _ _).trans (cancelGone_steady _ _)

theorem restartPresence_steady (x : Nat) : s.steady (s.restartPresence x) := by
  unfold State.restartPresence
  dsimp only
  split
  · exact setPeer_steady _ _ _
  · exact .refl _

theorem attemptSpoiled_steady : s.steady s.attemptSpoiled := by
  unfold State.attemptSpoiled
  split
  · exact .refl _
  · dsimp only
    split
    · exact .after (leaveLine_steady _) rfl
    · split
      · exact .after (offLine_steady _) rfl
      · split
        · refine .trans ?_ (leaveLine_steady _)
          exact .after (restartPresence_steady _ _) rfl
        · exact .after (leaveLine_steady _) rfl

end Sys2Proof.Machine
end

section
namespace Sys2Proof.Machine

variable (s : State)

/-! ### Bay.lean -/

theorem setBay_steady (x : BayState) : s.steady (s.setBay x) := .after (wantState_steady _) rfl

/-- R90: a HELD that waits is dropped at entry to JOINING, so nothing more waits than before. -/
theorem enterJoining_steady : s.steady s.enterJoining := by
  have claims : ∀ t : State, t.steady { t with cu := t.cu.joining } := fun t =>
    ⟨rfl, .refl _, rfl, id, id, fun h => h.imp (fun e => by simp [ClaimUnit.joining, e]) id⟩
  refine .trans ?_ (wantHello_steady _)
  exact (setBay_steady s .joining).trans ((claims _).trans (.of rfl))

theorem enterActive_steady : s.steady s.enterActive := (setBay_steady s .active).trans (.of rfl)

theorem drainTest_steady : s.steady s.drainTest := by
  unfold State.drainTest
  split
  · exact setBay_steady _ _
  · exact .refl _

theorem rejoinTest_steady : s.steady s.rejoinTest := by
  unfold State.rejoinTest
  split
  · exact enterJoining_steady _
  · exact .refl _

theorem removeSet_steady (id : SetId) : s.steady (s.removeSet id) := by
  unfold State.removeSet
  split
  · exact .refl _
  · exact ((dropSet_steady _ _).trans (drainTest_steady _)).trans (rejoinTest_steady _)

theorem setHeard_steady : s.steady s.setHeard := .after (rejoinTest_steady _) rfl

/-! ### Sets.lean -/

theorem unloadTest_steady (id : SetId) : s.steady (s.unloadTest id) := by
  unfold State.unloadTest
  split
  · exact .refl _
  · split
    · exact .refl _
    · split
      · split
        · exact (freeBin_steady _ _).trans (putSet_steady _ _)
        · exact queueCarriage_steady _ _
      · exact .refl _

theorem removalTest_steady (id : SetId) : s.steady (s.removalTest id) := by
  unfold State.removalTest
  split
  · exact .refl _
  · split
    · exact removeSet_steady _ _
    · exact .refl _

theorem undoReservation_steady (k : Nat) (id : SetId) (p : Nat) : s.steady (s.undoReservation k id p) := by
  unfold State.undoReservation
  split
  · exact .of rfl
  · exact .refl _

theorem undoPage_steady (t : PageRef) : s.steady (s.undoPage t) := by
  unfold State.undoPage
  split
  · exact .refl _
  · split
    · exact setPage_steady _ _ _ _
    · exact .refl _

theorem undoAction_steady (e : Entry) : s.steady (s.undoAction e) := by
  unfold State.undoAction
  split
  · exact undoPage_steady _ _
  · exact (undoPage_steady _ _).trans (undoReservation_steady _ _ _ _)
  · exact .refl _

/-- R14: rewriting approach entries to PASS. -/
theorem eased_steady {t : State} (g : Gate) (h : t.gc.eases g) : t.steady { t with gc := g } := ⟨rfl, h, rfl, id, id, id⟩

theorem rewriteSet_steady (id : SetId) : s.steady (s.rewriteSet id) :=
  (steady_foldl _ undoAction_steady _ _).trans (eased_steady _ (.map _))

theorem redirect_steady (id : SetId) : s.steady (s.redirect id) := .of rfl

theorem releaseToFeeder_steady (id : SetId) (p : Nat) : s.steady (s.releaseToFeeder id p) := by
  unfold State.releaseToFeeder
  split
  · exact .refl _
  · split
    · exact (setPage_steady _ _ _ _).trans (queueRelease_steady _ _)
    · exact .refl _

theorem beginSurrender_steady (r : SetRecord) : s.steady (s.beginSurrender r) := by
  have first : s.steady (if r.state = .claiming then s.withdrawClaim r.id else s) := by
    split
    · exact withdrawClaim_steady _ _
    · exact .refl _
  have counted : ∀ t : State, t.steady { t with co := { t.co with surrenders := Machine.count t.co.surrenders } } :=
    fun t => .of rfl
  unfold State.beginSurrender
  dsimp only
  split
  · exact ((first.trans (putSet_steady _ _)).trans (counted _)).trans (withdrawCarriage_steady _ _ _)
  · exact (first.trans (putSet_steady _ _)).trans (counted _)

theorem endSurrender_steady (r : SetRecord) (x : Option YieldReason) : s.steady (s.endSurrender r x) := by
  have yielded : s.steady (match x with
      | some y => if r.state = .claiming then s else s.dueYield r.id y
      | none => s) := by
    split
    · split
      · exact .refl _
      · exact dueYield_steady _ _ _
    · exact .refl _
  refine .trans ?_ (removalTest_steady _ _)
  refine .trans ?_ (unloadTest_steady _ _)
  refine .trans ?_ (steady_foldl _ (fun t p => releaseToFeeder_steady t r.id p) _ _)
  exact (yielded.trans (rewriteSet_steady _ _)).trans (redirect_steady _ _)

theorem surrender_steady (id : SetId) (x : Option YieldReason) : s.steady (s.surrender id x) := by
  unfold State.surrender
  split
  · exact .refl _
  · exact (beginSurrender_steady _ _).trans (endSurrender_steady _ _ _)

theorem surrenderAll_steady (x : Option YieldReason) : s.steady (s.surrenderAll x) :=
  steady_foldl _ (fun t id => by
    split
    · exact surrender_steady t id x
    · exact .refl _) _ _

theorem releaseTest_steady (id : SetId) : s.steady (s.releaseTest id) := by
  unfold State.releaseTest
  split
  · exact .refl _
  · split
    · exact (setPage_steady _ _ _ _).trans (queueRelease_steady _ _)
    · exact .refl _

theorem completeSet_steady (r : SetRecord) (b : Bool) : s.steady (s.completeSet r b) :=
  (putSet_steady _ _).trans (queueCarriage_steady _ _)

theorem completionTest_steady (id : SetId) : s.steady (s.completionTest id) := by
  unfold State.completionTest
  split
  · exact .refl _
  · split
    · split
      · exact completeSet_steady _ _ _
      · exact .refl _
    · split
      · exact .refl _
      · split
        · exact surrender_steady _ _ _
        · exact completeSet_steady _ _ _
    · exact .refl _

theorem afterChange_steady (id : SetId) : s.steady (s.afterChange id) := by
  have open' := (releaseTest_steady s id).trans (completionTest_steady _ id)
  unfold State.afterChange
  split
  · exact .refl _
  · split
    · exact open'
    · exact open'
    · exact open'
    · exact (unloadTest_steady _ _).trans (removalTest_steady _ _)
    · exact .refl _
    · exact .refl _
    · exact .refl _

theorem undoEntry_steady (e : Entry) : s.steady (s.undoEntry e) := by
  unfold State.undoEntry
  dsimp only
  split
  · exact undoAction_steady _ _
  · split
    · exact (undoAction_steady _ _).trans (afterChange_steady _ _)
    · exact undoAction_steady _ _

theorem rewriteAt_steady (i : Nat) : s.steady (s.rewriteAt i) := by
  unfold State.rewriteAt
  split
  · exact .refl _
  · rename_i e he
    refine .trans ?_ (undoEntry_steady _ e)
    exact eased_steady (t := s) _ (.set he)

theorem binDiverted_steady (b : Nat) (t : PageRef) : s.steady (s.binDiverted b t) := by
  unfold State.binDiverted
  split
  · exact .refl _
  · split
    · exact ((setPage_steady _ _ _ _).trans (progress_steady _ _)).trans (afterChange_steady _ _)
    · exact (setPage_steady _ _ _ _).trans (afterChange_steady _ _)

theorem pageStored_steady (id : SetId) (p k : Nat) : s.steady (s.pageStored id p k) := by
  have held := (setPage_steady s id p (.held k)).trans (progress_steady _ id)
  unfold State.pageStored
  split
  · exact .refl _
  · dsimp only
    split
    · exact (held.trans (releaseToFeeder_steady _ _ _)).trans (afterChange_steady _ _)
    · exact held.trans (afterChange_steady _ _)

theorem pageReleased_steady (id : SetId) (p b : Nat) : s.steady (s.pageReleased id p b) := by
  unfold State.pageReleased
  split
  · exact .refl _
  · exact (setPage_steady _ _ _ _).trans (afterChange_steady _ _)

theorem pageToFeeder_steady (id : SetId) (p : Nat) : s.steady (s.pageToFeeder id p) :=
  (setPage_steady _ _ _ _).trans (afterChange_steady _ _)

/-! ### Faults.lean -/

theorem rewriteRack_steady : s.steady s.rewriteRack :=
  (steady_foldl _ undoAction_steady _ _).trans (eased_steady _ (.map _))

theorem afterRackFault_steady (id : SetId) : s.steady (s.afterRackFault id) := by
  unfold State.afterRackFault
  split
  · exact .refl _
  · split
    · exact afterChange_steady _ _
    · exact .refl _

/-- R67, R101: the first step of a rack fault, the rack's own: out of service, with the sheet of a feeder release in flight off the
on-way count. -/
def State.rackOut (s : State) : State :=
  { s with
    hr := s.hr.faulted s.rackDiversionInFlight
    rf := { s.rf with onWay := if s.hr.feederInFlight then s.rf.onWay - 1 else s.rf.onWay } }

/-- R48: the second step, every rack page of every record ABSENT. -/
def State.rackPagesLost (s : State) : State :=
  (s.co.sets.map (fun r => r.id)).foldl (fun (v : State) id => v.updSet id SetRecord.rackLost) s.rackOut

/-- R48, R104: the steps up to the tests of the FINISHING and SURRENDERING sets. -/
def State.rackTested (s : State) : State :=
  (s.co.sets.map (fun r => r.id)).foldl State.afterRackFault s.rackPagesLost.rewriteRack

theorem rackFault_eq : s.rackFault = if s.hr.feederInFlight then s.rackTested.roomReport else s.rackTested := rfl

theorem rackOut_steady : s.steady s.rackOut := by
  refine .of_units (by simp [State.sameBut, State.rackOut]) rfl ?_
  rintro ⟨way, room⟩
  have out : s.rackOut.hr.feederSheets = 0 := rfl
  have sc : s.rackOut.sc = s.sc := rfl
  have count : s.rackOut.rf.count = s.rf.count := rfl
  have onWay : s.rackOut.rf.onWay = if s.hr.feederInFlight then s.rf.onWay - 1 else s.rf.onWay := rfl
  unfold State.feederBalanced
  rw [out, sc, count, onWay]
  unfold Rack.feederSheets at way
  split at way
  · rw [if_pos ‹_›]; omega
  · rw [if_neg ‹_›]; omega

theorem rackTested_steady : s.steady s.rackTested :=
  (((rackOut_steady s).trans (steady_foldl _ (fun _ _ => updSet_steady _ _ _) _ _)).trans (rewriteRack_steady _)).trans
    (steady_foldl _ afterRackFault_steady _ _)

theorem rackFault_steady : s.steady s.rackFault := by
  rw [rackFault_eq]
  split
  · exact (rackTested_steady s).trans (roomReport_steady _)
  · exact rackTested_steady s

theorem linkAtFault_steady (c : Cause) (w : Bool) : s.steady (s.linkAtFault c w) := by
  have watch : s.steady (if w then s
      else { s with lc := { s.lc with
        silence := true, peers := s.lc.peers.map (fun p => { p with timer := p.present }) } }) := by
    split
    · exact .refl _
    · exact .of rfl
  have silent : ∀ {p : List Peer}, s.steady { s with lc := { s.lc with silence := false, peers := p } } := .of rfl
  cases c
  · exact watch
  · exact watch
  · exact silent.trans (cancelGone_steady _ _)
  · exact silent.trans (cancelGone_steady _ _)
  · exact silent.trans (cancelGone_steady _ _)

theorem claimsAtFault_steady (c : Cause) : s.steady (s.claimsAtFault c) := by
  have cleared : s.steady { s with cu := { s.cu with late := [], backlog := [], waiting := [] } } :=
    ⟨rfl, .refl _, rfl, id, id, fun _ => .inl rfl⟩
  cases c
  · exact .refl _
  · exact .refl _
  · exact cleared.trans (withdrawUrgent_steady _ _)
  · exact cleared.trans (withdrawUrgent_steady _ _)
  · exact cleared.trans (withdrawUrgent_steady _ _)

theorem enterFault_steady (c : Cause) : s.steady (s.enterFault c) := by
  refine .trans ?_ (linkAtFault_steady _ _ _)
  refine .trans ?_ (claimsAtFault_steady _ _)
  refine .trans ?_ (surrenderAll_steady _ _)
  exact (setBay_steady s (.fault c)).trans (.of rfl)

theorem reportFault_steady (c : Cause) : s.steady (s.reportFault c) := by
  have seen : s.steady { s with bs := { s.bs with seen := s.bs.seen.add c } } := .of rfl
  unfold State.reportFault
  dsimp only
  split
  · exact seen.trans (enterFault_steady _ _)
  · split
    · exact .of rfl
    · exact seen

theorem carriageFault_steady : s.steady s.carriageFault := by
  unfold State.carriageFault
  split
  · rename_i r j h
    refine .trans ?_ (reportFault_steady _ _)
    refine .of_units (by simp [State.sameBut]) rfl ?_
    cases r <;> simp [State.feederBalanced, CarriageState.feederSheets, h]
  · exact .refl _
  · exact .refl _

theorem headFault_steady : s.steady s.headFault := .after (tell_steady _ _) rfl

theorem deliveryFault_steady (j : JawName) (p : Nat) : s.steady (s.deliveryFault j p) := by
  have landed : s.steady { s with dc := { s.dc with
      pockets := modify1 s.dc.pockets p (fun x => { x with inFlight := none }) } } := .of rfl
  unfold State.deliveryFault
  dsimp only
  split
  · rename_i id _ _
    have out := landed.trans (setJaw_steady _ j (.outOfService id))
    refine .trans ?_ (deliverTest_steady _ _)
    refine .trans ?_ (removeSet_steady _ _)
    split
    · exact out.trans (.of rfl)
    · exact out.trans (.after (dueYield_steady _ _ _) rfl)
  all_goals exact landed.trans (deliverTest_steady _ _)

/-! ### Hear.lean -/

theorem heardSteps_steady (kind : BitVec 6) (f : Frame) : s.steady (s.heardSteps kind f) := by
  have unmarked : s.steady { s with lc := { s.lc with spoilMark := false } } := .of rfl
  have left : s.steady (if s.ownAttempt kind f then ({ s with lc := { s.lc with spoilMark := false } } : State).leaveLine
      else { s with lc := { s.lc with spoilMark := false } }) := by
    split
    · exact unmarked.trans (leaveLine_steady _)
    · exact unmarked
  unfold State.heardSteps
  dsimp only at left ⊢
  split
  · exact left.trans (markPresent_steady _ _)
  · exact left

theorem stationClash_steady : s.steady s.stationClash := by
  unfold State.stationClash
  split
  · exact .refl _
  · exact reportFault_steady _ _

theorem afterHeard_steady (t : State) : t.steady (State.afterHeard s t) := by
  unfold State.afterHeard
  split
  · exact setHeard_steady _
  · exact .refl _

theorem countMalformed_steady : s.steady s.countMalformed := .of rfl

/-! ## The laws kept by every command -/

/-- R4, R5: the ranges of the last carrier number and of the loop size. -/
def State.readerSound (s : State) : Prop :=
  (∀ l ∈ s.ri.lastNumber, l ≤ 239) ∧ ∀ c ∈ s.ri.loopSize, 48 ≤ c ∧ c ≤ 240

/-- Every law of the queues, of the tray, of the feeder and of the reader that `s` meets, `t` meets. -/
structure State.keeps (s t : State) : Prop where
  approach : s.approachBounded → t.approachBounded
  transmit : s.transmitBounded → t.transmitBounded
  waiting : s.noNeedlessWait → t.noNeedlessWait
  tray : s.trayBounded → t.trayBounded
  fills : s.fillsCovered → t.fillsCovered
  feeder : s.feederBalanced → t.feederBalanced
  reader : s.readerSound → t.readerSound

theorem State.keeps.refl : s.keeps s := ⟨id, id, id, id, id, id, id⟩

theorem State.keeps.trans {s t u : State} (h : s.keeps t) (k : t.keeps u) : s.keeps u :=
  ⟨k.approach ∘ h.approach, k.transmit ∘ h.transmit, k.waiting ∘ h.waiting, k.tray ∘ h.tray, k.fills ∘ h.fills,
    k.feeder ∘ h.feeder, k.reader ∘ h.reader⟩

theorem Gate.eases.commitments_le {s t : State} (h : s.gc.eases t.gc) {a : Action} (ha : a ≠ .pass) :
    t.commitments a ≤ s.commitments a := by
  unfold State.commitments
  rw [h.gate]
  exact Nat.add_le_add_right (filter_action_le ha h.2) _

theorem State.steady.keeps {s t : State} (h : s.steady t) : s.keeps t where
  approach b := by simpa [State.approachBounded, h.gate.length] using b
  transmit := h.transmit
  waiting := h.waiting
  tray b := by
    have := h.gate.commitments_le (s := s) (t := t) (a := .reject) (by decide)
    unfold State.trayBounded at *
    rw [h.gate.tray]
    omega
  fills b := by
    have := h.gate.commitments_le (s := s) (t := t) (a := .fill) (by decide)
    unfold State.fillsCovered at *
    rw [h.count]
    omega
  feeder := h.feeder
  reader b := by rw [State.readerSound, h.reader]; exact b

/-- A heard notice keeps the laws when what its block does with it keeps them. -/
theorem hear_keeps (k : NoticeKind) (f : Frame) {act : State → State} (h : ∀ t, State.keeps t (act t)) :
    s.keeps (s.hear k f act) := by
  unfold State.hear
  split
  · exact .refl _
  · split
    · exact (stationClash_steady s).keeps
    · dsimp only
      split
      · exact ((heardSteps_steady s _ f).keeps.trans (h _)).trans (afterHeard_steady _ _).keeps
      · exact (((heardSteps_steady s _ f).trans (countMalformed_steady _)).trans (afterHeard_steady _ _)).keeps

end Sys2Proof.Machine
end

section
namespace Sys2Proof.Machine

variable (s : State)

/-! ### The Claim Unit's commands -/

theorem addForeign_steady (id : SetId) (x : Nat) : s.steady (s.addForeign id x) := by
  unfold State.addForeign
  split <;> exact .of rfl

theorem countConflict_steady : s.steady s.countConflict := .of rfl

theorem countClaimLost_steady : s.steady s.countClaimLost := .of rfl

theorem claimWon_steady (r : SetRecord) : s.steady (s.claimWon r) :=
  ((putSet_steady _ _).trans (withdrawClaim_steady _ _)).trans (completionTest_steady _ _)

theorem claimLost_steady (r : SetRecord) (x : Nat) : s.steady (s.claimLost r x) :=
  (((beginSurrender_steady _ _).trans (addForeign_steady _ _ _)).trans (endSurrender_steady _ _ _)).trans
    (countClaimLost_steady _)

theorem lateClaim_steady (id : SetId) : s.steady (s.lateClaim id) := by
  unfold State.lateClaim
  split
  · exact .refl _
  · exact .after (dueYield_steady _ _ _) rfl

theorem firstClaim_steady (x : Nat) (id : SetId) : s.steady (s.firstClaim x id) := by
  unfold State.firstClaim
  split
  · split
    · exact claimWon_steady _ _
    · exact claimLost_steady _ _ _
  · split
    · exact .refl _
    · split
      · exact lateClaim_steady _ _
      · exact addForeign_steady _ _ _

theorem onClaim_steady (f : Frame) : s.steady (s.onClaim f) := by
  unfold State.onClaim
  dsimp only
  split
  · exact countMalformed_steady _
  · exact firstClaim_steady _ _ _

theorem heldOne_steady (x : Nat) (id : SetId) : s.steady (s.heldOne x id) := by
  unfold State.heldOne
  split
  · exact claimLost_steady _ _ _
  · split
    · split
      · exact .refl _
      · exact countConflict_steady _
    · exact addForeign_steady _ _ _

theorem onHeld_steady (f : Frame) : s.steady (s.onHeld f) := by
  unfold State.onHeld
  dsimp only
  split
  · exact countMalformed_steady _
  · split
    · exact .refl _
    · exact steady_foldl _ (fun t id => heldOne_steady t _ id) _ _

theorem onYield_steady (f : Frame) : s.steady (s.onYield f) := by
  unfold State.onYield
  dsimp only
  repeat' split
  · exact countMalformed_steady _
  · exact .of rfl
  · exact .of rfl
  · exact countConflict_steady _
  · exact .refl _

/-- R85: dropping what waits for a set leaves no more waiting. -/
theorem forget_steady (i : SetId) : s.steady { s with cu := s.cu.forget i } :=
  ⟨rfl, .refl _, rfl, id, id, fun h => h.imp (fun e => by simp [ClaimUnit.forget, e]) id⟩

theorem doneConflict_steady (r : SetRecord) : s.steady (s.doneConflict r) := by
  unfold State.doneConflict
  dsimp only
  split
  · exact (countConflict_steady _).trans (surrender_steady _ _ _)
  · exact countConflict_steady _

theorem onDone_steady (f : Frame) : s.steady (s.onDone f) := by
  have forgot := (addDone_steady s (f.setAt 0)).trans (forget_steady _ (f.setAt 0))
  unfold State.onDone
  dsimp only
  split
  · exact countMalformed_steady _
  · split
    · exact forgot
    · split
      · exact forgot
      · exact forgot.trans (doneConflict_steady _ _)

theorem answerHello_steady : s.steady s.answerHello := refillUrgent_steady_of (by simp [State.sameBut]) (fun h => h)

theorem helloEcho_steady : s.steady s.helloEcho := by
  unfold State.helloEcho
  split
  · exact .refl _
  all_goals exact .of rfl

theorem onHello_steady (f : Frame) : s.steady (s.onHello f) := by
  have stored : ∀ (x : Nat) (p : Peer) (l : List ForeignEntry),
      s.steady { s.setPeer x p with cu := { (s.setPeer x p).cu with foreign := l } } := fun _ _ _ => .of rfl
  unfold State.onHello
  dsimp only
  split
  · exact countMalformed_steady _
  · split
    · exact helloEcho_steady _
    · split
      · exact (stored _ _ _).trans (answerHello_steady _)
      · exact stored _ _ _

theorem onGone_steady (f : Frame) : s.steady (s.onGone f) := by
  have stored : ∀ (x : Nat) (p : Peer) (l : List ForeignEntry),
      s.steady { s.setPeer x p with cu := { (s.setPeer x p).cu with foreign := l } } := fun _ _ _ => .of rfl
  unfold State.onGone
  dsimp only
  split
  · exact countMalformed_steady _
  · split
    · exact reportFault_steady _ _
    · split
      · exact (stored _ _ _).trans (yieldGone_steady _ _)
      · exact .refl _

/-! ### The Job Table's commands -/

theorem newJob_steady (x : JobFields) : s.steady (s.newJob x) := by
  unfold State.newJob
  dsimp only
  split
  · exact announceJob_steady _ _
  · split
    · exact .of rfl
    · refine .trans ?_ (unbindJob_steady _ _)
      exact .after (announceJob_steady _ _) rfl

theorem applyJob_steady (r : JobRecord) (x : JobFields) : s.steady (s.applyJob r x) := by
  unfold State.applyJob
  dsimp only
  split
  · exact (announceJob_steady _ _).trans (unbindJob_steady _ _)
  · exact announceJob_steady _ _

theorem onJob_steady (f : Frame) : s.steady (s.onJob f) := by
  unfold State.onJob
  split
  · exact countMalformed_steady _
  · split
    · exact newJob_steady _ _
    · split
      · exact applyJob_steady _ _ _
      · split
        · exact .refl _
        · unfold State.reuseJob
          split
          · exact applyJob_steady _ _ _
          · exact (announceJob_steady _ _).trans (unbindJob_steady _ _)

theorem onJobclose_steady (f : Frame) : s.steady (s.onJobclose f) := by
  unfold State.onJobclose
  split
  · exact countMalformed_steady _
  · split
    · exact .refl _
    · split
      · exact (putJob_steady _ _).trans (unbindJob_steady _ _)
      · exact .refl _

/-! ### The Link Controller's commands -/

theorem onState_steady (f : Frame) : s.steady (s.onState f) := by
  unfold State.onState
  split
  · exact countMalformed_steady _
  · dsimp only
    split
    · exact .refl _
    · exact setPeer_steady _ _ _

theorem answerProbe_steady (item index : Nat) : s.steady (s.answerProbe item index) := by
  unfold State.answerProbe
  split
  · exact pushRoutine_steady _ _ ((routineRoom_iff s).mp ‹_›)
  · exact .of rfl

theorem onProbe_steady (f : Frame) : s.steady (s.onProbe f) := by
  unfold State.onProbe
  dsimp only
  split
  · exact .refl _
  · split
    · exact countMalformed_steady _
    · exact answerProbe_steady _ _ _

theorem presenceExpires_steady (x : Nat) : s.steady (s.presenceExpires x) := .after (wantGone_steady _ _) rfl

theorem silenceExpires_steady : s.steady s.silenceExpires := .after (reportFault_steady _ _) rfl

/-! ### Laps -/

theorem countSent_steady (n : Watch) : s.steady { s with pw := n } := .of rfl

theorem offerReprint_steady (r : SetRecord) (k : ReprintWait) : s.steady (s.offerReprint r k) := by
  unfold State.offerReprint
  split
  · refine .trans ?_ (countSent_steady _ _)
    exact (pushRoutine_steady _ _ ((routineRoom_iff s).mp ‹_›)).trans (putSet_steady _ _)
  · exact (putSet_steady _ _).trans (countSent_steady _ _)

theorem offerWaiting_steady (l : List SetId) (id : SetId) : s.steady (s.offerWaiting l id) := by
  unfold State.offerWaiting
  split
  · exact .refl _
  · split
    · exact .refl _
    · have offered : ∀ (r : SetRecord) k (b : Bool),
          s.steady (if b = true then s.offerReprint r k else s.putSet { r with waiting := .none }) := by
        intro r k b
        split
        · exact offerReprint_steady _ _ _
        · exact putSet_steady _ _
      split
      · exact .refl _
      · exact offered _ _ _
      · exact offered _ _ _

theorem offerDue_steady (l : List SetId) (id : SetId) : s.steady (s.offerDue l id) := by
  unfold State.offerDue
  split
  · exact .refl _
  · split
    · exact offerReprint_steady _ _ _
    · exact .refl _

theorem strand_steady (l : List SetId) (id : SetId) : s.steady (s.strand l id) := by
  unfold State.strand
  split
  · exact .refl _
  · split
    · exact (putSet_steady _ _).trans (countSent_steady _ _)
    · exact .refl _

theorem lap_steady : s.steady s.lap :=
  (((steady_foldl _ (fun _ _ => updSet_steady _ _ _) _ _).trans (steady_foldl _ (fun t i => offerWaiting_steady t _ i) _ _)).trans
    (steady_foldl _ (fun t i => offerDue_steady t _ i) _ _)).trans (steady_foldl _ (fun t i => strand_steady t _ i) _ _)

/-! ### What staff ask for -/

theorem onSetact_keeps (f : Frame) {act : State → State} (h : s.keeps (act s)) : s.keeps (s.onSetact f act) := by
  unfold State.onSetact
  split
  · exact h
  · exact .refl _

theorem onService_keeps (f : Frame) {act : State → State} (h : s.keeps (act s)) : s.keeps (s.onService f act) := by
  unfold State.onService
  split
  · exact h
  · exact .refl _

/-- R52: what waits in CU only grows less when a FINISH takes a set back. -/
theorem tookBack_steady (id : SetId) : s.steady { s with cu := (s.cu.dropYields id).takeBack id } := by
  refine ⟨rfl, .refl _, rfl, fun h => h, fun h => h, fun h => h.imp (fun e => ?_) (fun h => h)⟩
  unfold ClaimUnit.takeBack
  split <;> simp [ClaimUnit.dropYields, e]

theorem finish_steady (id : SetId) : s.steady (s.finish id) := by
  unfold State.finish
  split
  · exact .of rfl
  · split
    · exact (putSet_steady _ _).trans (afterChange_steady _ _)
    · split
      · unfold State.recoverSet
        exact ((withdrawCarriage_steady _ _ _).trans (tookBack_steady _ _)).trans (completeSet_steady _ _ _)
      · exact .of rfl

theorem staffYield_steady (id : SetId) : s.steady (s.staffYield id) := by
  unfold State.staffYield
  split
  · exact .of rfl
  · split
    · exact surrender_steady _ _ _
    · exact .of rfl

theorem retry_steady (id : SetId) : s.steady (s.retry id) := by
  unfold State.retry
  split
  · exact .of rfl
  · split
    · dsimp only
      split
      · exact (putSet_steady _ _).trans (offerReprint_steady _ _ _)
      · exact (putSet_steady _ _).trans (putSet_steady _ _)
    · exact .of rfl

theorem refuseService_steady : s.steady s.refuseService := .of rfl

theorem drain_steady : s.steady s.drain := by
  unfold State.drain
  split
  · exact (setBay_steady _ _).trans (drainTest_steady _)
  · exact refuseService_steady _

theorem stop_steady : s.steady s.stop := by
  unfold State.stop
  split
  · exact (setBay_steady _ _).trans (surrenderAll_steady _ _)
  · exact refuseService_steady _

theorem resume_steady : s.steady s.resume := by
  unfold State.resume
  split
  · exact setBay_steady _ _
  · exact refuseService_steady _

/-! ### Reset: the laws hold whatever came before -/

theorem keeps_of_bare {t : State} (ri : t.ri = State.reset.ri) (gc : t.gc = State.reset.gc) (cu : t.cu.waiting = [])
    (hr : t.hr.rack = .idle) (rf : t.rf.count ≤ 64 ∧ t.rf.onWay = 0) (sc : t.sc.carriage = .idle)
    (lc : t.lc.urgent.length ≤ 4 ∧ t.lc.routine.length ≤ 12) :
    s.keeps t where
  approach _ := by simp [State.approachBounded, gc, State.reset]
  transmit _ := lc
  waiting _ := .inl cu
  tray _ := by simp [State.trayBounded, State.commitments, GateState.carries, gc, State.reset]
  fills _ := by simp [State.fillsCovered, State.commitments, GateState.carries, gc, State.reset]
  feeder _ := by
    have idle : t.hr.feederSheets = 0 := by simp [Rack.feederSheets, Rack.feederInFlight, hr]
    simp only [State.feederBalanced, idle, sc, CarriageState.feederSheets]
    omega
  reader _ := by simp [State.readerSound, ri, State.reset]

theorem dormant_readSensors_keeps (x : Straps) (v : Sensors) : s.keeps ((s.dormant x).readSensors x v) :=
  keeps_of_bare s rfl rfl rfl rfl ⟨Nat.min_le_right _ _, rfl⟩ rfl ⟨Nat.zero_le _, Nat.zero_le _⟩

theorem resetPart_keeps (x : Straps) (v : Sensors) : s.keeps (s.resetPart x v) := by
  unfold State.resetPart
  dsimp only
  split
  · exact (dormant_readSensors_keeps s x v).trans (enterJoining_steady _).keeps
  · exact keeps_of_bare s rfl rfl rfl rfl ⟨Nat.zero_le _, rfl⟩ rfl ⟨Nat.zero_le _, Nat.zero_le _⟩

theorem onRestart_keeps (x : Straps) (v : Sensors) : s.keeps (s.onRestart x v) := by
  have kept : ∀ t : State, t.steady { t with sc := t.sc.keeping s.sc } := fun _ => .of rfl
  unfold State.onRestart
  split
  · exact (resetPart_keeps s x v).trans (kept _).keeps
  · exact (refuseService_steady s).keeps

/-! ### The rack's commands -/

/-- More sheets on the feeder cover the fills as before. -/
theorem keeps_of_feeder {t : State} (ri : t.ri = s.ri) (gc : t.gc = s.gc) (cu : t.cu = s.cu) (lc : t.lc = s.lc)
    (rf : s.rf.count ≤ t.rf.count) (feeder : s.feederBalanced → t.feederBalanced) : s.keeps t where
  approach b := by rw [State.approachBounded, gc]; exact b
  transmit b := by rw [State.transmitBounded, lc]; exact b
  waiting b := by rw [State.noNeedlessWait, cu, lc]; exact b
  tray b := by unfold State.trayBounded State.commitments at *; rw [gc]; exact b
  fills b := by unfold State.fillsCovered State.commitments at *; rw [gc]; exact Nat.le_trans b rf
  feeder := feeder
  reader b := by rw [State.readerSound, ri]; exact b

theorem storeDone_steady {e : InletSheet} (busy : s.hr.rack = .busy (.store e)) : s.steady (s.storeDone e) := by
  refine .trans ?_ (arbiter_steady _)
  refine .trans ?_ (pageStored_steady _ _ _ _)
  refine .of_units (by simp [State.sameBut]) rfl ?_
  simp [State.feederBalanced, Rack.feederSheets, Rack.feederInFlight, busy]

theorem releaseDone_keeps {r : Release} (busy : s.hr.rack = .busy (.release r)) : s.keeps (s.releaseDone r) := by
  unfold State.releaseDone
  dsimp only
  split
  · rename_i b dest
    refine State.steady.keeps (.trans ?_ (arbiter_steady _))
    refine .trans ?_ (pageReleased_steady _ _ _ _)
    refine .of_units (by simp [State.sameBut]) rfl ?_
    simp [State.feederBalanced, Rack.feederSheets, Rack.feederInFlight, busy, dest]
  · rename_i dest
    refine .trans ?_ (roomReport_steady _).keeps
    refine .trans ?_ (pageToFeeder_steady _ _ _).keeps
    refine keeps_of_feeder s rfl rfl rfl rfl (Nat.le_succ _) ?_
    simp only [State.feederBalanced, Rack.feederSheets, Rack.feederInFlight, busy, dest, beq_self_eq_true, if_true,
      Bool.false_eq_true, if_false]
    omega

theorem clearBin_steady (b : Nat) : s.steady (s.clearBin b) := by
  unfold State.clearBin
  split
  · exact setBin_steady _ _ _
  · split
    · exact .refl _
    · exact setBin_steady _ _ _
  · exact .refl _

theorem clearRackPocket_steady (k : Nat) : s.steady (s.clearRackPocket k) := by
  unfold State.clearRackPocket
  split
  · exact .of rfl
  · exact .refl _

theorem clearJaw_steady (j : JawName) : s.steady (s.clearJaw j) := by
  unfold State.clearJaw
  split
  · exact (setJaw_steady _ _ _).trans (startTest_steady _)
  · exact .refl _

theorem jamRecord_steady (r : SetRecord) : s.steady (s.jamRecord r) := by
  unfold State.jamRecord
  dsimp only
  split
  · exact ((((putSet_steady _ _).trans (withdrawCarriage_steady _ _ _)).trans (redirect_steady _ _)).trans
      (unloadTest_steady _ _)).trans (removalTest_steady _ _)
  · exact (putSet_steady _ _).trans (surrender_steady _ _ _)

/-! ### The Stapler Controller's commands -/

theorem settle_steady (j : JawName) (r : SetRecord) : s.steady (s.settle j r) := by
  unfold State.settle
  split
  · exact handOver_steady _ _ _ _
  · exact .after (headIssue_steady _) rfl

theorem transferDone_steady {id : SetId} {b : Nat} {j : JawName} (busy : s.sc.carriage = .busy (.transfer id b) (some j)) :
    s.steady (s.transferDone id b j) := by
  have idle : s.steady { s with sc := { s.sc with carriage := .idle } } := by
    refine .of_units (by simp [State.sameBut]) rfl ?_
    simp [State.feederBalanced, CarriageState.feederSheets, busy]
  unfold State.transferDone
  dsimp only
  split
  · exact idle
  · refine .trans ?_ (startTest_steady _)
    refine .trans ?_ (settle_steady _ _ _)
    exact ((idle.trans (setJaw_steady _ _ _)).trans (freeBin_steady _ _)).trans (putSet_steady _ _)

theorem unloadDone_keeps {id : SetId} {b m : Nat} {j : Option JawName} (busy : s.sc.carriage = .busy (.unload id b m) j) :
    s.keeps (s.unloadDone id b m) := by
  refine .trans ?_ (roomReport_steady _).keeps
  refine .trans ?_ (removalTest_steady _ _).keeps
  refine .trans ?_ (updSet_steady _ _ _).keeps
  refine .trans ?_ (freeBin_steady _ _).keeps
  refine keeps_of_feeder s rfl rfl rfl rfl (Nat.le_add_right _ _) ?_
  simp only [State.feederBalanced, CarriageState.feederSheets, busy]
  omega

theorem useStaples_steady (k : Nat) : s.steady (s.useStaples k) := .after (tell_steady _ _) rfl

theorem leaveHead_steady (j : JawName) (owed : Nat) (o : SetOutcome) : s.steady (s.leaveHead j owed o) := by
  unfold State.leaveHead
  split
  · exact .refl _
  · refine .trans ?_ (headIssue_steady _)
    refine .trans ?_ (handOver_steady _ _ _ _)
    exact (setJaw_steady _ _ _).trans (.of rfl)

theorem stapleDone_steady (j : JawName) (k : Nat) : s.steady (s.stapleDone j k) := by
  refine .trans ?_ (leaveHead_steady _ _ _ _)
  exact .after (useStaples_steady _ _) rfl

theorem stapleMisfired_steady (j : JawName) (k f : Nat) : s.steady (s.stapleMisfired j k f) := by
  have used : s.steady
      (({ s with sc := { s.sc with head := .idle, misfires := Machine.count s.sc.misfires } } : State).useStaples k) :=
    .after (useStaples_steady _ _) rfl
  unfold State.stapleMisfired
  dsimp only
  split
  · exact used
  · split
    · exact used.trans (leaveHead_steady _ _ _ _)
    · exact (used.trans (setJaw_steady _ _ _)).trans (headIssue_steady _)

theorem stapleJammed_steady (j : JawName) (k f : Nat) : s.steady (s.stapleJammed j k f) := by
  refine .trans ?_ (headFault_steady _)
  refine .trans ?_ (useStaples_steady _ _)
  split
  · exact .refl _
  · exact setJaw_steady _ _ _

/-! ### The Delivery Controller's commands -/

theorem jawDelivered_steady (j : JawName) (d : DoneNotice) : s.steady (s.jawDelivered j d) :=
  ((setJaw_steady _ _ _).trans (joinDone_steady _ _)).trans (startTest_steady _)

theorem deliveredInto_steady (j : JawName) (p : Nat) : s.steady (s.deliveredInto j p) := by
  have landed : s.steady { s with dc := { s.dc with
      pockets := modify1 s.dc.pockets p (fun x => { x with inFlight := none }) } } := .of rfl
  unfold State.deliveredInto
  dsimp only
  split
  · split
    · exact landed.trans (deliverTest_steady _ _)
    · exact (((landed.trans (addDone_steady _ _)).trans (removeSet_steady _ _)).trans (jawDelivered_steady _ _ _)).trans
        (deliverTest_steady _ _)
  all_goals exact landed.trans (deliverTest_steady _ _)

/-! ### The gate's commands (R12 to R18) -/

/-- R13: a lapse counts in the gate, and is otherwise an operation on sets. -/
theorem lapse_keeps (e : Entry) : s.keeps (s.lapse e) := by
  have counted : ∀ (t : State) (n : Nat), t.keeps { t with gc := { t.gc with lapsed := n } } :=
    fun _ _ => ⟨id, id, id, id, id, id, id⟩
  exact (undoEntry_steady s e).keeps.trans (counted _ _)

/-- The oldest entry gone from the queue: its commitment goes with it, and nothing else of the laws changes. -/
theorem dropOldest_keeps {e : Entry} {q : List Entry} (h : s.gc.queue = e :: q) :
    s.keeps { s with gc := { s.gc with queue := q } } := by
  have less : ∀ a, ({ s with gc := { s.gc with queue := q } } : State).commitments a ≤ s.commitments a := by
    intro a
    simp only [State.commitments, h, List.filter_cons]
    split <;> simp
  refine ⟨fun b => ?_, id, id, fun b => ?_, fun b => ?_, id, id⟩
  · simp only [State.approachBounded, h, List.length_cons] at b ⊢; omega
  · exact Nat.le_trans (Nat.add_le_add_left (less .reject) _) b
  · exact Nat.le_trans (less .fill) b

theorem lapseOldest_keeps : s.keeps s.lapseOldest := by
  unfold State.lapseOldest
  split
  · exact .refl _
  · exact (dropOldest_keeps s ‹_›).trans (lapse_keeps _ _)

theorem lapseOldestN_keeps : ∀ (n : Nat) (s : State), s.keeps (State.lapseOldestN n s)
  | 0, s => .refl s
  | n + 1, s => (lapseOldest_keeps s).trans (lapseOldestN_keeps n _)

/-- R15: the entry taken goes from the queue to the gate, and its commitment with it. -/
theorem takeOldest_keeps : s.keeps s.takeOldest := by
  unfold State.takeOldest
  split
  · exact .refl _
  · rename_i e q h
    have dropped := dropOldest_keeps s h
    unfold State.takeEntry
    split
    · exact dropped
    · dsimp only
      split
      · rename_i idle
        have same : ∀ a, ({ s with gc := { s.gc with queue := q, gate := .busy e } } : State).commitments a
            = s.commitments a := by
          intro a
          simp only [State.commitments, GateState.carries, h, idle, List.filter_cons, beq_iff_eq]
          split <;> simp
        refine ⟨dropped.approach, id, id, fun b => ?_, fun b => ?_, id, id⟩
        · rw [State.trayBounded, same]; exact b
        · rw [State.fillsCovered, same]; exact b
      · exact dropped.trans (lapse_keeps _ _)

theorem gateArrival_keeps (n : Byte) {t : State} (h : execGateArrival n s = .next t) : s.keeps t := by
  have unmatched : ∀ k : Nat, s.keeps { s with gc := { s.gc with unmatched := k } } := fun _ => ⟨id, id, id, id, id, id, id⟩
  unfold execGateArrival at h
  cases h
  split
  · exact unmatched _
  · exact (lapseOldestN_keeps _ s).trans (takeOldest_keeps _)

/-- The gate IDLE after the operation `e`: the commitment of `e` is gone. -/
theorem idle_commitments {e : Entry} (busy : s.gc.gate = .busy e) (a : Action) (g : GateState) (hg : ∀ x, g ≠ .busy x) :
    ({ s with gc := { s.gc with gate := g } } : State).commitments a + (if e.action = a then 1 else 0)
      = s.commitments a := by
  cases g with
  | busy x => exact absurd rfl (hg x)
  | idle => simp [State.commitments, GateState.carries, busy]
  | faulted => simp [State.commitments, GateState.carries, busy]

/-- The gate no longer BUSY, with `n` more sheets in the tray if the operation was a REJECT. -/
theorem ended_keeps {e : Entry} (busy : s.gc.gate = .busy e) (g : GateState) (hg : ∀ x, g ≠ .busy x) :
    s.keeps { s with gc := { s.gc with gate := g } } := by
  refine ⟨id, id, id, fun b => ?_, fun b => ?_, id, id⟩
  · have := idle_commitments s busy .reject g hg
    unfold State.trayBounded at *
    dsimp only at *
    omega
  · have := idle_commitments s busy .fill g hg
    unfold State.fillsCovered at *
    dsimp only at *
    omega

theorem rackDiverted_steady (k : Nat) : s.steady (s.rackDiverted k) := by
  unfold State.rackDiverted
  split
  · split
    · exact .after (arbiter_steady _) rfl
    · exact .of rfl
  · exact .of rfl

theorem fillMissed_steady : s.steady s.fillMissed := .of rfl

theorem gateFailed_steady (e : Entry) : s.steady (s.gateFailed e) := by
  unfold State.gateFailed
  split
  · exact fillMissed_steady _
  · exact undoEntry_steady _ _

/-- R16, R18: the rejected sheet takes the place its commitment held in the tray. -/
theorem rejected_keeps {e : Entry} (busy : s.gc.gate = .busy e) (r : e.action = .reject) :
    s.keeps { s with gc := { s.gc with gate := .idle, tray := s.gc.tray + 1 } } := by
  have ended := ended_keeps s busy .idle (by simp)
  refine ⟨ended.approach, id, id, fun b => ?_, ended.fills, id, id⟩
  have held := idle_commitments s busy .reject .idle (by simp)
  rw [if_pos r] at held
  change s.gc.tray + 1 + ({ s with gc := { s.gc with gate := .idle } } : State).commitments .reject ≤ 50
  unfold State.trayBounded at b
  omega

/-- R16, R101: the sheet taken from the feeder is the one its commitment was for. -/
theorem fillTaken_keeps {e : Entry} (busy : s.gc.gate = .busy e) (r : e.action = .fill) :
    s.keeps ({ s with gc := { s.gc with gate := .idle } } : State).fillTaken := by
  refine .trans ?_ (roomReport_steady _).keeps
  have ended := ended_keeps s busy .idle (by simp)
  refine ⟨ended.approach, id, id, ended.tray, fun b => ?_, fun b => ?_, id⟩
  · have held := idle_commitments s busy .fill .idle (by simp)
    rw [if_pos r] at held
    have same : ∀ n : Feeder, ({ s with gc := { s.gc with gate := .idle }, rf := n } : State).commitments .fill
      = ({ s with gc := { s.gc with gate := .idle } } : State).commitments .fill := fun _ => rfl
    unfold State.fillsCovered at *
    dsimp only at *
    rw [same]
    omega
  · unfold State.feederBalanced at *
    dsimp only
    omega

theorem gateDone_keeps {e : Entry} (busy : s.gc.gate = .busy e) :
    s.keeps (({ s with gc := { s.gc with gate := .idle } } : State).gateDone e) := by
  have ended := ended_keeps s busy .idle (by simp)
  unfold State.gateDone
  split
  · exact ended.trans (binDiverted_steady _ _ _).keeps
  · exact ended.trans (rackDiverted_steady _ _).keeps
  · exact rejected_keeps s busy ‹_›
  · exact fillTaken_keeps s busy ‹_›
  · exact ended

theorem gateCompletion_keeps (fill good : Bool) : s.keeps (s.gateCompletion fill good) := by
  unfold State.gateCompletion
  split
  · rename_i e busy
    dsimp only
    split
    · exact gateDone_keeps s busy
    · exact (ended_keeps s busy .idle (by simp)).trans (gateFailed_steady _ _).keeps
  · exact .refl _
  · exact .refl _

theorem gateFault_keeps {e : Entry} (busy : s.gc.gate = .busy e) : s.keeps (s.gateFault e) := by
  refine .trans ?_ (reportFault_steady _ _).keeps
  refine .trans ?_ (steady_foldl State.rewriteAt rewriteAt_steady _ _).keeps
  exact (ended_keeps s busy .faulted (by simp)).trans (gateFailed_steady _ _).keeps

/-! ### The reader's commands (R8, R11) -/

/-- What a choice of action keeps, before its entry joins the approach queue: the laws, and the gate but for its counters. -/
structure State.chooses (s t : State) : Prop where
  reader : t.ri = s.ri
  transmit : s.transmitBounded → t.transmitBounded
  waiting : s.noNeedlessWait → t.noNeedlessWait
  feeder : s.feederBalanced → t.feederBalanced
  count : t.rf.count = s.rf.count
  queue : t.gc.queue = s.gc.queue
  gate : t.gc.gate = s.gc.gate
  tray : t.gc.tray = s.gc.tray

theorem State.chooses.refl : s.chooses s := ⟨rfl, id, id, id, rfl, rfl, rfl, rfl⟩

theorem State.chooses.trans {s t u : State} (h : s.chooses t) (k : t.chooses u) : s.chooses u :=
  ⟨k.reader.trans h.reader, k.transmit ∘ h.transmit, k.waiting ∘ h.waiting, k.feeder ∘ h.feeder, k.count.trans h.count,
    k.queue.trans h.queue,
    k.gate.trans h.gate, k.tray.trans h.tray⟩

theorem State.steady.chooses {s t : State} (h : s.steady t) {l : List Block} (f : s.sameBut l t)
    (n : Block.gc ∉ l) : s.chooses t := by
  have gc := f.gc n
  exact ⟨h.reader, h.transmit, h.waiting, h.feeder, h.count, by rw [gc], by rw [gc], by rw [gc]⟩

theorem countLate_chooses : s.chooses s.countLate := ⟨rfl, id, id, id, rfl, rfl, rfl, rfl⟩

theorem countDuplicate_chooses : s.chooses s.countDuplicate := ⟨rfl, id, id, id, rfl, rfl, rfl, rfl⟩

theorem countMismatch_chooses : s.chooses s.countMismatch := ⟨rfl, id, id, id, rfl, rfl, rfl, rfl⟩

theorem countRackFull_chooses : s.chooses s.countRackFull := ⟨rfl, id, id, id, rfl, rfl, rfl, rfl⟩

theorem setPage_chooses (id : SetId) (p : Nat) (x : PageStatus) : s.chooses (s.setPage id p x) :=
  (setPage_steady s id p x).chooses (setPage_frame s id p x) (by decide)

theorem sighting_chooses (id : SetId) : s.chooses (s.sighting id) :=
  (sighting_steady s id).chooses (sighting_frame s id) (by decide)

theorem reserve_chooses (k : Nat) (id : SetId) (p : Nat) : s.chooses (s.reserve k id p) :=
  ⟨rfl, fun h => h, fun h => h, fun h => h, rfl, rfl, rfl, rfl⟩

/-- The action of a read is admitted: a REJECT finds a place in the tray, a FILL a sheet on the feeder (R8). -/
def State.admits (s : State) (a : Action) : Prop :=
  (a = .reject → s.rejectAdmission = true) ∧ (a = .fill → s.fillAdmission = true)

theorem admits_of_other {a : Action} (r : a ≠ .reject) (f : a ≠ .fill) : s.admits a := ⟨(absurd · r), (absurd · f)⟩

theorem rejectOrPass_admits : s.admits s.rejectOrPass := by
  unfold State.rejectOrPass
  split
  · exact ⟨fun _ => ‹_›, nofun⟩
  · exact admits_of_other s nofun nofun

/-- A choice made in state `s`: its state, and its action admitted in `s`. -/
def Chosen.sound (s : State) (c : Chosen) : Prop := s.chooses c.state ∧ s.admits c.action

theorem routeOpen_sound (r : SetRecord) (m : Mark) : (s.routeOpen r m).sound s := by
  have rop := rejectOrPass_admits s
  unfold State.routeOpen
  split
  · exact ⟨countMismatch_chooses s, rop⟩
  · split
    · exact ⟨countDuplicate_chooses s, rop⟩
    · split
      · exact ⟨.refl s, admits_of_other s nofun nofun⟩
      · dsimp only
        split
        · exact ⟨setPage_chooses s _ _ _, admits_of_other s nofun nofun⟩
        · split
          · exact ⟨(reserve_chooses s _ _ _).trans (setPage_chooses _ _ _ _), admits_of_other s nofun nofun⟩
          · exact ⟨countRackFull_chooses s, admits_of_other s nofun nofun⟩

theorem route_sound (r : SetRecord) (m : Mark) : (s.route r m).sound s := by
  have rop := rejectOrPass_admits s
  have pass : (s.choose .pass).sound s := ⟨.refl s, admits_of_other s nofun nofun⟩
  have ended : (if m.pages ≠ r.pages then s.countMismatch.choose s.rejectOrPass
      else if r.status m.page = .absent then s.countLate.choose s.rejectOrPass
      else s.countDuplicate.choose s.rejectOrPass).sound s := by
    split
    · exact ⟨countMismatch_chooses s, rop⟩
    · split
      · exact ⟨countLate_chooses s, rop⟩
      · exact ⟨countDuplicate_chooses s, rop⟩
  unfold State.route
  split
  · exact routeOpen_sound s r m
  · exact routeOpen_sound s r m
  · exact pass
  · exact ended
  · exact ended
  · exact ended
  · exact pass

/-- R73, R76: the claim made, its sheet not yet routed. -/
def State.claimMade (s : State) (j : JobRecord) (m : Mark) (b p : Nat) : State :=
  let t : State := { s with co := { s.co with searchPtr := b % s.co.bins.length + 1 } }
  (((t.setBin b .assigned).addSet (SetRecord.made j m b p s.co.made)).bindPocket p m.id.job).pushUrgent (.claim m.id m.pages)

theorem makeClaim_eq (j : JobRecord) (m : Mark) (b p : Nat) :
    s.makeClaim j m b p = (s.claimMade j m b p).route (SetRecord.made j m b p s.co.made) m := rfl

/-- The report of a STATE's change leaves the urgent queue alone. -/
@[simp] theorem tell_urgent (old new : State) : (State.tell old new).lc.urgent = new.lc.urgent := by
  unfold State.tell State.wantState State.pushState State.addDue
  repeat' split
  all_goals rfl

theorem pushUrgent_frame (n : Notice) : s.sameBut [.lc] (s.pushUrgent n) := by simp [State.sameBut]

theorem claimMade_frame (j : JobRecord) (m : Mark) (b p : Nat) : s.sameBut [.co, .dc, .lc] (s.claimMade j m b p) := by
  refine sameBut_trans ?_ (sameBut_mono (pushUrgent_frame _ _) (by decide))
  refine sameBut_trans ?_ (sameBut_mono (changePocket_frame _ _ _) (by decide))
  refine sameBut_trans ?_ (sameBut_mono (addSet_frame _ _) (by decide))
  refine sameBut_trans ?_ (sameBut_mono (setBin_frame _ _ _) (by decide))
  simp [State.sameBut]

theorem claimMade_chooses (j : JobRecord) (m : Mark) (b p : Nat) (room : s.lc.urgent.length < 4) :
    s.chooses (s.claimMade j m b p) := by
  have pointed : ∀ n : Nat, s.steady { s with co := { s.co with searchPtr := n } } := fun _ => .of rfl
  have bound := (((pointed (b % s.co.bins.length + 1)).trans (setBin_steady _ b .assigned)).trans
    (addSet_steady _ (SetRecord.made j m b p s.co.made))).trans
      (changePocket_steady _ p (fun x => { x with binding := if x.binding = none then some m.id.job else x.binding }))
  refine (bound.trans (pushUrgent_steady _ (.claim m.id m.pages) ?_)).chooses (claimMade_frame s j m b p) (by decide)
  simpa [State.changePocket, State.addSet, State.setBin] using room

theorem mayClaim_room {j : JobRecord} (h : s.mayClaim j = true) : s.lc.urgent.length < 4 := by
  simp only [State.mayClaim, Bool.and_eq_true] at h
  exact (urgentRoom_iff s).mp h.1.1.2

/-- An action admitted after a choice was admitted before it: the choice took nothing of the tray or of the feeder. -/
theorem admits_of_chooses {s t : State} (h : s.chooses t) (bay : t.bs = s.bs) {a : Action} (k : t.admits a) : s.admits a := by
  have shut : t.gateShut = s.gateShut := by unfold State.gateShut; rw [bay, h.gate]
  have held : ∀ x, t.commitments x = s.commitments x := by intro x; unfold State.commitments; rw [h.queue, h.gate]
  refine ⟨fun e => ?_, fun e => ?_⟩
  · simpa only [State.rejectAdmission, shut, held, h.tray] using k.1 e
  · simpa only [State.fillAdmission, shut, held, h.count] using k.2 e

theorem claimDecision_sound (j : JobRecord) (m : Mark) : (s.claimDecision j m).sound s := by
  unfold State.claimDecision
  split
  · rename_i may _ _
    rw [makeClaim_eq]
    have made := fun b p => claimMade_chooses s j m b p (mayClaim_room s may)
    obtain ⟨hs, ha⟩ := route_sound (s.claimMade j m _ _) (SetRecord.made j m _ _ s.co.made) m
    exact ⟨(made _ _).trans hs, admits_of_chooses (made _ _) (((claimMade_frame s j m _ _).bs (by decide))) ha⟩
  · exact ⟨.refl s, admits_of_other s nofun nofun⟩

theorem chooseMarked_sound (m : Mark) : (s.chooseMarked m).sound s := by
  have pass : (s.choose .pass).sound s := ⟨.refl s, admits_of_other s nofun nofun⟩
  have late : (s.countLate.choose s.rejectOrPass).sound s := ⟨countLate_chooses s, rejectOrPass_admits s⟩
  unfold State.chooseMarked
  split
  · exact pass
  · split
    · exact pass
    · split
      · exact late
      · split
        · exact route_sound s _ m
        · split
          · exact pass
          · split
            · exact late
            · split
              · exact pass
              · exact claimDecision_sound s _ m

theorem chooseRead_sound (c : ReadContent) : (s.chooseRead c).sound s := by
  unfold State.chooseRead
  split
  · refine ⟨.refl s, ?_⟩
    change s.admits (if s.fillAdmission then Action.fill else Action.pass)
    split
    · exact ⟨nofun, fun _ => ‹_›⟩
    · exact admits_of_other s nofun nofun
  · exact ⟨.refl s, rejectOrPass_admits s⟩
  · exact ⟨.refl s, admits_of_other s nofun nofun⟩
  · rename_i m
    obtain ⟨hs, ha⟩ := chooseMarked_sound s m
    exact ⟨hs.trans (sighting_chooses _ _), ha⟩

/-- An approach queue within its limit has room for one more entry once R11 has made it. -/
theorem makeRoom_room (h : s.approachBounded) : s.makeRoom.gc.queue.length < 3 := by
  unfold State.makeRoom
  split
  · assumption
  · unfold State.lapseOldest
    split
    · rename_i e; rw [e]; decide
    · rename_i e q eq
      unfold State.approachBounded at h
      rw [eq, List.length_cons] at h
      change (State.undoEntry _ e).gc.queue.length < 3
      rw [(undoEntry_steady _ e).gate.length]
      dsimp only
      omega

theorem makeRoom_keeps : s.keeps s.makeRoom := by
  unfold State.makeRoom
  split
  · exact .refl _
  · exact lapseOldest_keeps _

/-- R8: the entry of an admitted action joins the queue within the limits of the tray and of the feeder. -/
theorem joined_covered {s t : State} (h : s.chooses t) {e : Entry} (ok : s.admits e.action) :
    (s.trayBounded → ({ t with gc := { t.gc with queue := t.gc.queue ++ [e] } } : State).trayBounded)
      ∧ (s.fillsCovered → ({ t with gc := { t.gc with queue := t.gc.queue ++ [e] } } : State).fillsCovered) := by
  have more : ∀ a, ({ t with gc := { t.gc with queue := t.gc.queue ++ [e] } } : State).commitments a
      = s.commitments a + if e.action = a then 1 else 0 := by
    intro a
    simp only [State.commitments, h.queue, h.gate, List.filter_append, List.length_append, List.filter_cons, beq_iff_eq]
    split <;> simp [Nat.add_right_comm]
  constructor
  · unfold State.trayBounded
    rw [more]
    dsimp only
    rw [h.tray]
    split
    · have admitted : s.gc.tray + s.commitments .reject < 50 := of_decide_eq_true (Bool.and_eq_true_iff.mp (ok.1 ‹_›)).2
      omega
    · exact id
  · unfold State.fillsCovered
    rw [more]
    dsimp only
    rw [h.count]
    split
    · have admitted : s.commitments .fill < s.rf.count := of_decide_eq_true (Bool.and_eq_true_iff.mp (ok.2 ‹_›)).2
      omega
    · exact id

/-- R11: a carrier read. -/
theorem carrierRead_keeps (n : Nat) (c : ReadContent) : s.keeps (s.carrierRead n c) := by
  obtain ⟨chosen, admitted⟩ := chooseRead_sound s.makeRoom c
  have room := makeRoom_keeps s
  obtain ⟨tray, fills⟩ :=
    joined_covered (e := { carrier := n, action := (s.makeRoom.chooseRead c).action,
                           target := (s.makeRoom.chooseRead c).target }) chosen admitted
  refine ⟨fun b => ?_, chosen.transmit ∘ room.transmit, chosen.waiting ∘ room.waiting, tray ∘ room.tray,
    fills ∘ room.fills, chosen.feeder ∘ room.feeder, fun b => ?_⟩
  · have := makeRoom_room s b
    unfold State.approachBounded State.carrierRead
    dsimp only
    rw [List.length_append, chosen.queue, List.length_singleton]
    omega
  · unfold State.readerSound State.carrierRead
    dsimp only
    rw [chosen.reader]
    exact room.reader b

/-- A change of the Reader Interface that keeps its law keeps every law. -/
theorem readerChange_keeps {x : Reader} (h : s.readerSound → ({ s with ri := x } : State).readerSound) :
    s.keeps { s with ri := x } := ⟨id, id, id, id, id, id, h⟩

/-- R2, R4, R5: the Reader Interface after a read with a usable number. -/
theorem readDone_usable (x : Reader) {n : Nat} (c : ReadContent) (h : n < 240) :
    (x.readDone (some n) c).lastNumber = some n
      ∧ (x.readDone (some n) c).loopSize = (if n = 0 then x.relearned else x.loopSize)
      ∧ (x.readDone (some n) c).readGap = (if x.gap n then count x.readGap else x.readGap) := by
  cases c <;> simp [Reader.readDone, h]

/-- R2, R4, R5: the Reader Interface after a read without a usable number. -/
theorem readDone_unusable (x : Reader) {number : Option Nat} (c : ReadContent) (h : number = none ∨ 240 ≤ number.getD 0) :
    (x.readDone number c).lastNumber = none ∧ (x.readDone number c).loopSize = x.loopSize
      ∧ (x.readDone number c).readGap = x.readGap := by
  cases number with
  | none => cases c <;> simp [Reader.readDone]
  | some n =>
    have high : ¬n < 240 := Nat.not_lt.mpr (h.resolve_left nofun)
    cases c <;> simp [Reader.readDone, high]

theorem relearned_cases (x : Reader) :
    x.relearned = x.loopSize ∨ ∃ l, 47 ≤ l ∧ l ≤ 239 ∧ x.relearned = some (l + 1) := by
  unfold Reader.relearned
  split
  · exact .inl rfl
  · split
    · rename_i l _ range
      exact .inr ⟨l, range.1, range.2, rfl⟩
    · exact .inl rfl

/-- R4, R5: the ranges of the last carrier number and of C, at a read. -/
theorem readDone_sound (number : Option Nat) (c : ReadContent) (h : s.readerSound) :
    ({ s with ri := s.ri.readDone number c } : State).readerSound := by
  obtain ⟨_, loop⟩ := h
  unfold State.readerSound
  by_cases unusable : number = none ∨ 240 ≤ number.getD 0
  · obtain ⟨last', loop', _⟩ := readDone_unusable s.ri c unusable
    rw [last', loop']
    exact ⟨nofun, loop⟩
  · obtain ⟨n, rfl⟩ := Option.ne_none_iff_exists'.mp fun e => unusable (.inl e)
    have low : n < 240 := Nat.not_le.mp fun e => unusable (.inr e)
    obtain ⟨last', loop', _⟩ := readDone_usable s.ri c low
    rw [last', loop']
    refine ⟨by rintro l ⟨⟩; omega, ?_⟩
    split
    · obtain same | ⟨l, _, _, new⟩ := relearned_cases s.ri
      · rw [same]; exact loop
      · rw [new]; rintro k ⟨⟩; omega
    · exact loop

theorem windowCloses_keeps (w : Window) : s.keeps (s.windowCloses w) := by
  have read : s.keeps { s with ri := s.ri.readDone w.number w.content } :=
    readerChange_keeps s (readDone_sound s w.number w.content)
  refine .trans ?_ (carrierRead_keeps _ _ _)
  split
  · exact read.trans (lap_steady _).keeps
  · exact read

theorem sample_keeps (a b : Bool) : s.keeps (s.sample a b) := by
  unfold State.sample
  dsimp only
  split
  · exact readerChange_keeps s id
  · split
    · split
      · exact readerChange_keeps s id
      · refine .trans ?_ (windowCloses_keeps _ _)
        exact readerChange_keeps s id
    · exact readerChange_keeps s id

/-! ### Every command, and the step -/

theorem steady_exec {s u : State} {c : Instr} (e : exec c s = .next u) (h : s.steady u) :
    ∃ t, exec c s = .next t ∧ s.keeps t := ⟨u, e, h.keeps⟩

theorem exec_keeps (c : Instr) : ∃ t, exec c s = .next t ∧ s.keeps t := by
  cases c with
  | readerSample a b => exact ⟨_, rfl, sample_keeps s a b⟩
  | carrierNumberReport n => exact ⟨_, rfl, readerChange_keeps s id⟩
  | markRead b => exact ⟨_, rfl, readerChange_keeps s id⟩
  | gateArrival n => exact ⟨_, rfl, gateArrival_keeps s n rfl⟩
  | diverted => exact ⟨_, rfl, gateCompletion_keeps s false true⟩
  | divertFailed => exact ⟨_, rfl, gateCompletion_keeps s false false⟩
  | filled => exact ⟨_, rfl, gateCompletion_keeps s true true⟩
  | fillMissed => exact ⟨_, rfl, gateCompletion_keeps s true false⟩
  | gateLimitExpiry =>
    refine ⟨_, rfl, ?_⟩
    split
    · exact gateFault_keeps s ‹_›
    · exact .refl s
    · exact .refl s
  | rejectEmptied =>
    exact ⟨_, rfl, id, id, id,
      fun b => by unfold State.trayBounded at *; exact Nat.le_trans (Nat.add_le_add_right (Nat.zero_le _) _) b,
      id, id, id⟩
  | stored st =>
    refine ⟨_, rfl, ?_⟩
    split
    · exact (storeDone_steady s ‹_›).keeps
    · exact (rackFault_steady s).keeps
    · exact .refl s
  | released st =>
    refine ⟨_, rfl, ?_⟩
    split
    · exact releaseDone_keeps s ‹_›
    · exact (rackFault_steady s).keeps
    · exact .refl s
  | rackLimitExpiry =>
    refine ⟨_, rfl, ?_⟩
    split
    · exact (rackFault_steady s).keeps
    · exact .refl s
    · exact .refl s
  | rackRequestIssue => exact steady_exec rfl (arbiter_steady s)
  | binJammed b =>
    refine ⟨_, rfl, ?_⟩
    split
    · exact .refl s
    · exact .refl s
    · exact (setBin_steady _ _ _).keeps
    · exact (setBin_steady _ _ _).keeps
    · dsimp only
      split
      · exact (setBin_steady _ _ _).keeps
      · split
        · exact (setBin_steady _ _ _).keeps
        · exact ((setBin_steady _ _ _).trans (jamRecord_steady _ _)).keeps
  | placeCleared p =>
    cases p with
    | bin b => exact steady_exec rfl (clearBin_steady s b)
    | rackPocket k => exact steady_exec rfl (clearRackPocket_steady s k)
    | inlet => exact ⟨_, rfl, State.steady.keeps (.of rfl)⟩
    | jaw j => exact steady_exec rfl (clearJaw_steady s j)
  | carriageStart => exact steady_exec rfl (startTest_steady s)
  | transferred st =>
    refine ⟨_, rfl, ?_⟩
    split
    · exact (transferDone_steady s ‹_›).keeps
    · exact (carriageFault_steady s).keeps
    · exact .refl s
  | unloaded st =>
    refine ⟨_, rfl, ?_⟩
    split
    · exact unloadDone_keeps s ‹_›
    · exact (carriageFault_steady s).keeps
    · exact .refl s
  | carriageLimitExpiry => exact steady_exec rfl (carriageFault_steady s)
  | stapleIssue => exact steady_exec rfl (headIssue_steady s)
  | stapled st =>
    refine ⟨_, rfl, State.steady.keeps ?_⟩
    split
    · exact stapleDone_steady _ _ _
    · exact headFault_steady _
    · exact .refl s
  | misfire st f =>
    refine ⟨_, rfl, State.steady.keeps ?_⟩
    split
    · split
      · exact stapleMisfired_steady _ _ _ _
      · exact stapleDone_steady _ _ _
    · exact headFault_steady _
    · exact .refl s
  | jam st f =>
    refine ⟨_, rfl, State.steady.keeps ?_⟩
    split
    · exact stapleJammed_steady _ _ _ _
    · exact .refl s
  | headLimitExpiry =>
    refine ⟨_, rfl, State.steady.keeps ?_⟩
    split
    · exact headFault_steady _
    · exact .refl s
  | headCleared =>
    refine ⟨_, rfl, State.steady.keeps ?_⟩
    split
    · refine .trans ?_ (headIssue_steady _)
      exact .after (tell_steady _ _) rfl
    · exact .refl s
  | cartridgeInserted =>
    refine ⟨_, rfl, State.steady.keeps (.trans ?_ (headIssue_steady _))⟩
    exact .after (tell_steady _ _) rfl
  | cartridgeEmpty => exact steady_exec rfl (.after (tell_steady _ _) rfl)
  | deliverIssue p => exact steady_exec rfl (deliverTest_steady s p)
  | delivered j st p =>
    refine ⟨_, rfl, State.steady.keeps ?_⟩
    split
    · exact .refl s
    · split
      · exact deliveredInto_steady _ _ _
      · exact deliveryFault_steady _ _ _
  | deliveryLimitExpiry j =>
    refine ⟨_, rfl, State.steady.keeps ?_⟩
    split
    · exact .refl s
    · exact deliveryFault_steady _ _ _
  | heightSample p mm =>
    refine ⟨_, rfl, State.steady.keeps ?_⟩
    split
    · exact .refl s
    · have changed := changePocket_steady s p
      dsimp only
      split
      · split
        · exact ((changed _).trans (unbindingTest_steady _ _)).trans (deliverTest_steady _ _)
        · exact (changed _).trans (deliverTest_steady _ _)
      · split
        · exact (changed _).trans (unbindingTest_steady _ _)
        · exact changed _
  | claimDeadlineExpiry j n =>
    refine ⟨_, rfl, State.steady.keeps ?_⟩
    split
    · exact .refl s
    · split
      · exact (surrender_steady _ _ _).trans (countClaimLost_steady _)
      · exact .refl s
  | offer c =>
    refine ⟨_, rfl, State.steady.keeps ?_⟩
    split
    · exact .refl s
    · exact offerNotice_steady s c
  | attemptSpoiled => exact steady_exec rfl (attemptSpoiled_steady s)
  | badFrameCheck k f x =>
    refine ⟨_, rfl, State.steady.keeps ?_⟩
    split
    · exact .refl s
    · exact .of rfl
  | claim f => exact ⟨_, rfl, hear_keeps s _ f fun t => (onClaim_steady t f).keeps⟩
  | held f => exact ⟨_, rfl, hear_keeps s _ f fun t => (onHeld_steady t f).keeps⟩
  | yield f => exact ⟨_, rfl, hear_keeps s _ f fun t => (onYield_steady t f).keeps⟩
  | done f => exact ⟨_, rfl, hear_keeps s _ f fun t => (onDone_steady t f).keeps⟩
  | job f => exact ⟨_, rfl, hear_keeps s _ f fun t => (onJob_steady t f).keeps⟩
  | jobclose f => exact ⟨_, rfl, hear_keeps s _ f fun t => (onJobclose_steady t f).keeps⟩
  | hello f => exact ⟨_, rfl, hear_keeps s _ f fun t => (onHello_steady t f).keeps⟩
  | gone f => exact ⟨_, rfl, hear_keeps s _ f fun t => (onGone_steady t f).keeps⟩
  | state f => exact ⟨_, rfl, hear_keeps s _ f fun t => (onState_steady t f).keeps⟩
  | reprint f => exact ⟨_, rfl, hear_keeps s _ f fun t => .refl t⟩
  | report f => exact ⟨_, rfl, hear_keeps s _ f fun t => .refl t⟩
  | unknownKindNotice k f =>
    refine ⟨_, rfl, State.steady.keeps ?_⟩
    unfold State.hearUnknown
    split
    · exact .refl s
    · split
      · exact stationClash_steady s
      · exact (heardSteps_steady s k f).trans (afterHeard_steady _ _)
  | setactFinish f => exact ⟨_, rfl, hear_keeps s _ f fun t => onSetact_keeps t f (finish_steady t _).keeps⟩
  | setactYield f => exact ⟨_, rfl, hear_keeps s _ f fun t => onSetact_keeps t f (staffYield_steady t _).keeps⟩
  | setactRetry f => exact ⟨_, rfl, hear_keeps s _ f fun t => onSetact_keeps t f (retry_steady t _).keeps⟩
  | serviceDrain f => exact ⟨_, rfl, hear_keeps s _ f fun t => onService_keeps t f (drain_steady t).keeps⟩
  | serviceStop f => exact ⟨_, rfl, hear_keeps s _ f fun t => onService_keeps t f (stop_steady t).keeps⟩
  | serviceResume f => exact ⟨_, rfl, hear_keeps s _ f fun t => onService_keeps t f (resume_steady t).keeps⟩
  | serviceRestart f x v => exact ⟨_, rfl, hear_keeps s _ f fun t => onService_keeps t f (onRestart_keeps t x v)⟩
  | probe f => exact ⟨_, rfl, hear_keeps s _ f fun t => (onProbe_steady t f).keeps⟩
  | presenceTimerExpiry x =>
    refine ⟨_, rfl, State.steady.keeps ?_⟩
    split
    · exact presenceExpires_steady s x
    · exact .refl s
  | silenceTimerExpiry =>
    refine ⟨_, rfl, State.steady.keeps ?_⟩
    split
    · exact silenceExpires_steady s
    · exact .refl s
  | cadenceTimerExpiry =>
    refine ⟨_, rfl, State.steady.keeps ?_⟩
    split
    · exact wantState_steady s
    · exact .refl s
  | joinTimerExpiry =>
    refine ⟨_, rfl, State.steady.keeps ?_⟩
    split
    · exact .refl s
    · exact wantHello_steady s
    · exact enterActive_steady s
  | waitingNoticeQueued => exact steady_exec rfl (refillUrgent_steady s)
  | doneQueued =>
    refine ⟨_, rfl, State.steady.keeps ?_⟩
    split
    · rename_i h; exact queueDone_steady s ((routineRoom_iff s).mp h.1)
    · exact .refl s
  | dueNoticeQueued =>
    refine ⟨_, rfl, State.steady.keeps ?_⟩
    split
    · rename_i h; exact queueDue_steady s ((routineRoom_iff s).mp h.1)
    · exact .refl s
  | powerOnReset x v => exact ⟨_, rfl, resetPart_keeps s x v⟩
  | setactRefusedAsMalformed f =>
    exact ⟨_, rfl, hear_keeps s _ f fun t => onSetact_keeps t f (countMalformed_steady t).keeps⟩
  | serviceRefusedAsMalformed f =>
    exact ⟨_, rfl, hear_keeps s _ f fun t => onService_keeps t f (countMalformed_steady t).keeps⟩

theorem step_keeps {s t : State} (h : step s = .next t) : s.keeps t := by
  unfold step at h
  split at h
  · cases h
    exact .refl s
  · rename_i c rest _
    obtain ⟨u, hu, kept⟩ := exec_keeps { s with pending := rest } c
    cases hu.symm.trans h
    have same : s.keeps { s with pending := rest } := State.steady.keeps (.of rfl)
    exact same.trans kept

end Sys2Proof.Machine

open Sys2Proof.Machine in
/-- Settles O4: the laws of the queues are among those every step keeps. -/
theorem queuesStayBounded : Obligations.QueuesStayBounded :=
  fun _ _ h => ⟨(step_keeps h).approach, (step_keeps h).transmit, (step_keeps h).waiting⟩

open Sys2Proof.Machine in
/-- Settles O5: the laws of the tray and of the feeder are among those every step keeps. -/
theorem trayAndFeederStayCovered : Obligations.TrayAndFeederStayCovered :=
  fun _ _ h => ⟨(step_keeps h).tray, (step_keeps h).fills, (step_keeps h).feeder⟩

end

section
/-! ## Inputs of the reader, cleared places, the end of a FILL, and reset -/

namespace Sys2Proof.Machine

theorem next_congr {t u : State} (h : t = u) : (Host.Outcome.next t : Host.Outcome State Fault Refusal) = .next u := by
  rw [h]

/-! ### Agreed values (R1) -/

theorem agreedAfter_eq {agreed sample : Bool} {previous : Option Bool} (h : previous = some sample) :
    agreedAfter agreed previous sample = sample := by
  unfold agreedAfter
  split
  · rfl
  · rename_i n
    by_contra e
    exact n ⟨fun f => e f.symm, h⟩

theorem agreedAfter_keep {agreed sample : Bool} {previous : Option Bool} (h : ¬(sample ≠ agreed ∧ previous = some sample)) :
    agreedAfter agreed previous sample = agreed := if_neg h

/-- R1, R2: a sample at which CARRIER keeps its agreed value. -/
theorem sample_keep {s : State} {a b : Bool} (h : ¬(a ≠ s.ri.carrier ∧ s.ri.lastSample.map (·.1) = some a)) :
    s.sample a b = { s with ri := { s.ri with
      sheet := agreedAfter s.ri.sheet (s.ri.lastSample.map (·.2)) b, lastSample := some (a, b)
      window := s.ri.window.map (fun w =>
        { w with sensed := w.sensed || agreedAfter s.ri.sheet (s.ri.lastSample.map (·.2)) b }) } } := by
  have c : agreedAfter s.ri.carrier (s.ri.lastSample.map (·.1)) a = s.ri.carrier := agreedAfter_keep h
  have rise : ¬(s.ri.carrier = false ∧ s.ri.carrier = true) := by simp
  have fall : ¬(s.ri.carrier = true ∧ s.ri.carrier = false) := by simp
  unfold State.sample
  dsimp only
  rw [c, if_neg rise, if_neg fall]

/-- R2: a sample at which CARRIER is agreed to rise opens a window. -/
theorem sample_opens {s : State} {b : Bool} (low : s.ri.carrier = false) (h : s.ri.lastSample.map (·.1) = some true) :
    s.sample true b = { s with ri := { s.ri with
      carrier := true, sheet := agreedAfter s.ri.sheet (s.ri.lastSample.map (·.2)) b, lastSample := some (true, b)
      window := some { number := none, first := none, second := none
                       sensed := agreedAfter s.ri.sheet (s.ri.lastSample.map (·.2)) b } } } := by
  have c : agreedAfter s.ri.carrier (s.ri.lastSample.map (·.1)) true = true := agreedAfter_eq h
  unfold State.sample
  dsimp only
  rw [c, if_pos ⟨low, rfl⟩]

end Sys2Proof.Machine

open Sys2Proof Sys2Proof.Machine

/-- Settles O15, by the two kinds of sample and the state of the window. -/
theorem readerInputsTaken : Obligations.ReaderInputsTaken := by
  refine ⟨?_, ?_, ?_, ?_, ?_, ?_⟩
  · rintro s a b h keep rfl
    exact next_congr (sample_keep keep)
  · rintro s b h low rise rfl
    exact next_congr (sample_opens low rise)
  · intro s w n open'
    change Host.Outcome.next _ = _
    rw [open']
    rfl
  · intro s w b open' first
    change Host.Outcome.next _ = _
    rw [open', Option.map_some, Window.withMark, if_pos first]
  · intro s w b open' first
    change Host.Outcome.next _ = _
    rw [open', Option.map_some, Window.withMark, if_neg first]
  · intro s b n closed
    have same : { s with ri := { s.ri with window := none } } = s := by rw [← closed]
    constructor
    · change Host.Outcome.next _ = _
      rw [closed, Option.map_none, same]
    · change Host.Outcome.next _ = _
      rw [closed, Option.map_none, same]

/-- Settles O17: with the number usable, the sheet sensed and the strips equal, the content is decided by the strip's tests. -/
theorem markStripValidity : Obligations.MarkStripValidity := by
  intro w n m number low sensed first second
  have valid : m.valid = true ↔ 1 ≤ m.job ∧ 1 ≤ m.num ∧ 1 ≤ m.page ∧ m.page ≤ m.pages
      ∧ m.check = (m.job + 3 * m.num + 5 * m.page + 7 * m.pages) % 64 := by
    simp [Strip.valid, and_assoc]
  simp only [Window.content, usable, number, low, sensed, first, second, decide_true, if_true, true_and]
  simp only [valid]

namespace Sys2Proof.Machine

variable (s : State)

/-! ### Cleared places (R34, R58, R68, R119) -/

theorem tell_linkTold {s new : State} (lc : new.lc = s.lc) (bs : new.bs = s.bs) : s.linkTold (State.tell s new) := by
  have content : (State.tell s new).stateContent = new.stateContent := by
    unfold State.tell State.wantState State.pushState State.addDue
    repeat' split
    all_goals rfl
  have want : new.wantState.lc = s.wantState.lc := by
    unfold State.wantState State.pushState State.addDue State.routineRoom
    rw [bs, lc]
    repeat' split
    all_goals simp only [lc]
  unfold State.linkTold
  rw [content]
  unfold State.tell
  split
  · exact lc
  · exact want

theorem setBin_linkTold (b : Nat) (x : BinState) : s.linkTold (s.setBin b x) := tell_linkTold rfl rfl

theorem setBin_co (b : Nat) (x : BinState) : (s.setBin b x).co = { s.co with bins := set1 s.co.bins b x } := tell_sets _ _

theorem holderOf_isSome {s : State} {b : Nat} : (s.holderOf b).isSome = true ↔ ∃ r ∈ s.co.sets, r.bin = some b := by
  simp [State.holderOf]

/-! ### Requests that wait (R60, R118) -/

theorem arbiterIssue_of_busy {s : State} (h : s.hr.rack ≠ .idle) : s.arbiterIssue = s := if_neg h

theorem carriageIssue_of_busy {s : State} (h : s.sc.carriage ≠ .idle) : s.carriageIssue = s := if_neg h

theorem carriageIssue_of_empty {s : State} (h : s.sc.carriageQueue = []) : s.carriageIssue = s := by
  simp [State.carriageIssue, h]

theorem arbiter_of_busy {s : State} (h : s.hr.rack ≠ .idle) : s.arbiter = s := by
  simp [State.arbiter, arbiterIssue_of_busy h]

theorem startTest_of_busy {s : State} (h : s.sc.carriage ≠ .idle) : s.startTest = s := by
  simp [State.startTest, carriageIssue_of_busy h]

theorem startTest_of_empty {s : State} (h : s.sc.carriageQueue = []) : s.startTest = s := by
  simp [State.startTest, carriageIssue_of_empty h]

theorem roomReport_of_busy {s : State} (rack : s.hr.rack ≠ .idle) (carriage : s.sc.carriage ≠ .idle) : s.roomReport = s := by
  rw [State.roomReport, arbiter_of_busy rack, startTest_of_busy carriage]

end Sys2Proof.Machine

/-- Settles O35, by the kind of place and its state. -/
theorem placesCleared : Obligations.PlacesCleared := by
  refine ⟨?_, ?_, ?_, ?_, fun _ => rfl, ?_, ?_, fun _ => rfl⟩
  · intro s c h
    have cleared : s.clearBin c = s.setBin c .available := by
      obtain h | ⟨h, free⟩ := h
      · simp [State.clearBin, h]
      · have none : ¬(s.holderOf c).isSome = true := fun k => by
          obtain ⟨r, hr, e⟩ := holderOf_isSome.mp k
          exact free r hr e
        simp only [State.clearBin, h, if_neg none]
    exact ⟨_, next_congr cleared, setBin_co s c .available, setBin_linkTold s c .available,
      setBin_frame s c .available⟩
  · intro s c h
    refine next_congr (show s.clearBin c = s from ?_)
    obtain h | h | h | ⟨h, held⟩ := h
    · simp [State.clearBin, h]
    · simp [State.clearBin, h]
    · simp [State.clearBin, h]
    · simp only [State.clearBin, h, if_pos (holderOf_isSome.mpr held)]
  · intro s k h
    exact next_congr (if_pos h)
  · intro s k h
    exact next_congr (if_neg h)
  · intro s j h wait
    refine next_congr ((if_pos h).trans ?_)
    have sc : (s.setJaw j .free).sc.carriage = s.sc.carriage ∧ (s.setJaw j .free).sc.carriageQueue = s.sc.carriageQueue := by
      cases j <;> exact ⟨rfl, rfl⟩
    obtain busy | empty := wait
    · exact startTest_of_busy (by rw [sc.1]; exact busy)
    · exact startTest_of_empty (by rw [sc.2]; exact empty)
  · intro s j h
    exact next_congr (if_neg h)

namespace Sys2Proof.Machine

/-! ### Completions of the gate (R16) -/

theorem gateCompletion_idle {s : State} {fill good : Bool} (h : s.gc.gate = .idle ∨ s.gc.gate = .faulted) :
    s.gateCompletion fill good = s := by
  obtain h | h := h <;> simp [State.gateCompletion, h]

/-- R16: a completion of the operation's own kind that succeeds. -/
theorem gateCompletion_done {s : State} {e : Entry} {fill : Bool} (busy : s.gc.gate = .busy e) (kind : e.isFill = fill) :
    s.gateCompletion fill true = ({ s with gc := { s.gc with gate := .idle } } : State).gateDone e := by
  simp [State.gateCompletion, busy, kind]

/-- R16: a completion that fails, or one of the wrong kind. -/
theorem gateCompletion_failed {s : State} {e : Entry} {fill good : Bool} (busy : s.gc.gate = .busy e)
    (h : good = false ∨ e.isFill ≠ fill) :
    s.gateCompletion fill good = ({ s with gc := { s.gc with gate := .idle } } : State).gateFailed e := by
  have n : ¬(good = true ∧ e.isFill = fill) := by
    rintro ⟨rfl, k⟩
    exact h.elim nofun (· k)
  simp only [State.gateCompletion, busy, if_neg n]

theorem isFill_eq {e : Entry} (h : e.action = .fill) : e.isFill = true := by simp [Entry.isFill, h]

theorem isFill_ne {e : Entry} (h : e.action ≠ .fill) : e.isFill = false := by simp [Entry.isFill, h]

theorem gateFailed_fill {s : State} {e : Entry} (h : e.action = .fill) : s.gateFailed e = s.fillMissed := by
  simp [State.gateFailed, h]

theorem gateFailed_of_ne {s : State} {e : Entry} (h : e.action ≠ .fill) : s.gateFailed e = s.undoEntry e := by
  unfold State.gateFailed
  split
  · contradiction
  · rfl

/-- R16, R102: a FILL that misses, however it is reported. -/
theorem gateCompletion_fillMissed {s : State} {e : Entry} {fill good : Bool} (busy : s.gc.gate = .busy e)
    (isFill : e.action = .fill) (h : good = false ∨ fill = false) :
    s.gateCompletion fill good
      = { s with gc := { s.gc with gate := .idle }, rf := { s.rf with fillMissed := count s.rf.fillMissed } } := by
  rw [gateCompletion_failed busy (h.imp_right fun k => by simp [isFill_eq isFill, k]), gateFailed_fill isFill]
  rfl

/-- R16: another operation than a FILL that ends as one, or fails. -/
theorem gateCompletion_undone {s : State} {e : Entry} {fill good : Bool} (busy : s.gc.gate = .busy e)
    (other : e.action ≠ .fill) (h : good = false ∨ fill = true) :
    s.gateCompletion fill good = ({ s with gc := { s.gc with gate := .idle } } : State).undoEntry e := by
  rw [gateCompletion_failed busy (h.imp_right fun k => by simp [isFill_ne other, k]), gateFailed_of_ne other]

end Sys2Proof.Machine

/-- Settles O28, by the operation in flight. -/
theorem fillEnds : Obligations.FillEnds := by
  have filled : ∀ (s : State) (e : Entry), s.gc.gate = .busy e → e.action = .fill →
      s.gateCompletion true true = ({ s with gc := { s.gc with gate := .idle } } : State).fillTaken := by
    intro s e busy isFill
    rw [gateCompletion_done busy (isFill_eq isFill)]
    simp only [State.gateDone, isFill]
  refine ⟨?_, ?_, ?_, ?_, ?_, ?_⟩
  · intro s e busy isFill
    refine ⟨_, next_congr (filled s e busy isFill), (roomReport_steady _).count, ?_, ?_⟩
    · exact (roomReport_frame _).gc (by decide)
    · exact sameBut_trans (by simp [State.sameBut]) (sameBut_mono (roomReport_frame _) (by decide))
  · intro s e busy isFill rack carriage
    refine next_congr ((filled s e busy isFill).trans ?_)
    exact roomReport_of_busy (by exact rack) (by exact carriage)
  · intro s e busy isFill
    exact next_congr (gateCompletion_fillMissed busy isFill (.inl rfl))
  · intro s e busy isFill
    have missed := fun fill good h => next_congr (gateCompletion_fillMissed (fill := fill) (good := good) busy isFill h)
    exact ⟨(missed false true (.inr rfl)).trans (missed true false (.inl rfl)).symm,
      (missed false false (.inl rfl)).trans (missed true false (.inl rfl)).symm⟩
  · intro s e busy other
    have undone := fun fill good h => next_congr (gateCompletion_undone (fill := fill) (good := good) busy other h)
    exact ⟨(undone true true (.inr rfl)).trans (undone false false (.inl rfl)).symm,
      (undone true false (.inl rfl)).trans (undone false false (.inl rfl)).symm⟩
  · intro s idle
    have none := fun fill good => next_congr (gateCompletion_idle (fill := fill) (good := good) idle)
    exact ⟨none _ _, none _ _, none _ _, none _ _⟩

namespace Sys2Proof.Machine

/-! ### Straps (R160) -/

theorem length_filter_id (l : List Bool) : (l.filter id).length = (l.map Bool.toNat).sum := by
  induction l with
  | nil => rfl
  | cons b l ih => cases b <;> simp [ih, Nat.add_comm]

theorem sum_bitsOf_one (v : BitVec 1) : ((bitsOf v).map Bool.toNat).sum = v.toNat := by
  have range : List.range 1 = [0] := rfl
  have bit : v.getMsbD 0 = v.getLsbD 0 := by simp [BitVec.getMsbD]
  have cases : v.toNat = 0 ∨ v.toNat = 1 := by have := v.isLt; omega
  simp only [bitsOf, range, List.map_cons, List.map_nil, List.sum_cons, List.sum_nil, bit, BitVec.getLsbD]
  obtain h | h := cases <;> simp [h]

theorem ones_eq (x : Straps) : x.ones = (x.station.getLsbD 0).toNat + (x.station.getLsbD 1).toNat +
    (x.station.getLsbD 2).toNat + (x.station.getLsbD 3).toNat + (x.bins.getLsbD 0).toNat + (x.bins.getLsbD 1).toNat +
    x.rack.toNat + x.delivery.toNat + x.parity.toNat := by
  have four : List.range 4 = [0, 1, 2, 3] := rfl
  have two : List.range 2 = [0, 1] := rfl
  unfold Straps.ones
  rw [length_filter_id]
  simp only [List.map_append, List.sum_append, sum_bitsOf_one]
  simp only [bitsOf, four, two, List.map_cons, List.map_nil, List.sum_cons, List.sum_nil, BitVec.getMsbD]
  simp
  omega

theorem good_iff (x : Straps) : x.good = true ↔ x.ones % 2 = 1 ∧ 1 ≤ x.station.toNat ∧ x.station.toNat ≤ 8 := by
  simp [Straps.good, and_assoc]

end Sys2Proof.Machine

/-- Settles O57: the reset of the whole part, by the straps; with good straps it enters JOINING, whose STATE and HELLO find the
routine queue empty. -/
theorem resetReadsStraps : Obligations.ResetReadsStraps := by
  refine ⟨?_, fun x => ones_eq x ▸ good_iff x, ?_⟩
  · intro s x v bad
    refine next_congr ?_
    unfold State.resetPart State.dormant
    rw [bad]
    rfl
  · intro s x v good
    have part : s.resetPart x v = ((s.dormant x).readSensors x v).enterJoining := if_pos good
    have found : ∀ p : Place, v.found.contains p = decide (p ∈ v.found) := fun p => List.contains_eq_mem p v.found
    have lists : ∀ (n : Nat) {α : Type} (f : Nat → Place) (a b : α),
        (numbers n).map (fun k => if v.found.contains (f k) then a else b)
          = (numbers n).map (fun k => if f k ∈ v.found then a else b) := by
      intro n α f a b
      simp
    refine ⟨_, next_congr part, rfl, ?_, ?_, ?_, ?_, rfl, rfl, rfl, rfl, rfl, rfl, rfl, rfl⟩
    · exact congrArg (fun l => ({ State.reset.co with bins := l } : Collation)) (lists _ _ _ _)
    · change ({ State.reset.hr with pockets := rackAtReset x v, inletOccupied := v.found.contains .inlet } : Rack) = _
      rw [found, rackAtReset, lists]
      rfl
    · change ({ count := min v.feeder.toNat 64, onWay := 0, fillMissed := 0 } : Feeder) = _
      rw [Nat.min_def]
    · change ({ State.reset.sc with jawA := jawAtReset v .a, jawB := jawAtReset v .b } : Stapler) = _
      simp only [jawAtReset, found, decide_eq_true_eq]

end

section
/-! ## The course of a set

What the operations of Sets.lean do to the record they are called for, and that they touch no other record. -/

namespace Sys2Proof.Machine

/-! ### Pages of a record (R30) -/

@[simp] theorem setStatus_id (r : SetRecord) (p : Nat) (x : PageStatus) : (r.setStatus p x).id = r.id := rfl

@[simp] theorem setStatus_state (r : SetRecord) (p : Nat) (x : PageStatus) : (r.setStatus p x).state = r.state := rfl

@[simp] theorem setStatus_bin (r : SetRecord) (p : Nat) (x : PageStatus) : (r.setStatus p x).bin = r.bin := rfl

theorem status_setStatus_other (r : SetRecord) {p q : Nat} (x : PageStatus) (h : p ≠ q) :
    (r.setStatus p x).status q = r.status q := by
  simp only [SetRecord.status, SetRecord.setStatus, nth1_set1_other _ _ h]

/-- A page with a status other than ABSENT is one of the record's pages. -/
theorem page_in_map {r : SetRecord} {p : Nat} (h : r.status p ≠ .absent) : 1 ≤ p ∧ p ≤ r.map.length := by
  refine (nth1_isSome_iff r.map p).mp ?_
  unfold SetRecord.status at h
  cases e : nth1 r.map p with
  | none => simp [e] at h
  | some _ => rfl

theorem status_setStatus_same {r : SetRecord} {p : Nat} (x : PageStatus) (h : r.status p ≠ .absent) :
    (r.setStatus p x).status p = x := by
  obtain ⟨low, high⟩ := page_in_map h
  simp [SetRecord.status, SetRecord.setStatus, nth1_set1_same x low high]

/-- A page made ABSENT reads ABSENT, also where the record has no such page. -/
theorem status_setStatus_absent (r : SetRecord) (p : Nat) : (r.setStatus p .absent).status p = .absent := by
  by_cases h : r.status p = .absent
  · unfold SetRecord.status SetRecord.setStatus at *
    cases p with
    | zero => exact h
    | succ k =>
      simp only [nth1, set1] at *
      rw [List.getElem?_set_self']
      cases r.map[k]? <;> rfl
  · exact status_setStatus_same _ h

/-- The statuses of a record's map, read page by page. -/
theorem mem_map_iff {r : SetRecord} {x : PageStatus} : x ∈ r.map ↔ ∃ p ∈ numbers r.map.length, r.status p = x := by
  rw [List.mem_iff_getElem]
  constructor
  · rintro ⟨k, hk, rfl⟩
    exact ⟨k + 1, by simp; omega, by simp [SetRecord.status, nth1, hk]⟩
  · rintro ⟨p, hp, rfl⟩
    obtain ⟨low, high⟩ := mem_numbers.mp hp
    obtain ⟨k, rfl⟩ : ∃ k, p = k + 1 := ⟨p - 1, by omega⟩
    exact ⟨k, by omega, by simp [SetRecord.status, nth1, show k < r.map.length by omega]⟩

theorem anyPage_iff {r : SetRecord} {q : PageStatus → Bool} :
    r.anyPage q = true ↔ ∃ p ∈ numbers r.map.length, q (r.status p) = true := by
  simp only [SetRecord.anyPage, List.any_eq_true, mem_map_iff]
  constructor
  · rintro ⟨_, ⟨p, hp, rfl⟩, h⟩; exact ⟨p, hp, h⟩
  · rintro ⟨p, hp, h⟩; exact ⟨_, ⟨p, hp, rfl⟩, h⟩

theorem allPlaced_iff {r : SetRecord} :
    r.map.all (· == .placed) = true ↔ ∀ p ∈ numbers r.map.length, r.status p = .placed := by
  simp only [List.all_eq_true, beq_iff_eq, mem_map_iff]
  constructor
  · intro h p hp; exact h _ ⟨p, hp, rfl⟩
  · rintro h _ ⟨p, hp, rfl⟩; exact h p hp

theorem placedCount_ne_zero {r : SetRecord} {p : Nat} (h : r.status p = .placed) : r.placedCount ≠ 0 := by
  have placed : PageStatus.placed ∈ r.map := by
    obtain ⟨low, high⟩ := page_in_map (r := r) (p := p) (by simp [h])
    exact mem_map_iff.mpr ⟨p, mem_numbers.mpr ⟨low, high⟩, h⟩
  have : PageStatus.placed ∈ r.map.filter (· == .placed) := by simp [placed]
  exact Nat.ne_of_gt (List.length_pos_of_mem this)

/-! ### Reading the set table after an operation -/

variable {s t u : State}

theorem findSet_of_co (h : t.co = s.co) (i : SetId) : t.findSet i = s.findSet i := by simp only [State.findSet, h]

theorem findSet_setPage_same {i : SetId} {r : SetRecord} (p : Nat) (x : PageStatus) (h : s.findSet i = some r) :
    (s.setPage i p x).findSet i = some (r.setStatus p x) :=
  findSet_updSet_same h (show r.id = i from findSet_id h)

/-- R108: the record after progress. -/
def SetRecord.progressed (r : SetRecord) : SetRecord := { r with attempts := 0, countdown := 0, stranded := false }

theorem findSet_progress_same {i : SetId} {r : SetRecord} (h : s.findSet i = some r) :
    (s.progress i).findSet i = some r.progressed := findSet_updSet_same h (show r.id = i from findSet_id h)

theorem State.setsBut.refl (l : List SetId) (s : State) : s.setsBut l s := fun _ _ => rfl

theorem State.setsBut.trans {l : List SetId} (h : s.setsBut l t) (k : t.setsBut l u) : s.setsBut l u :=
  fun i n => (k i n).trans (h i n)

theorem setsBut_of_co {l : List SetId} (h : t.co = s.co) : s.setsBut l t := fun i _ => findSet_of_co h i

theorem setPage_setsBut (s : State) (i : SetId) (p : Nat) (x : PageStatus) : s.setsBut [i] (s.setPage i p x) :=
  fun _ n => findSet_updSet_other s _ (by simpa using n) fun r h => (show r.id = i from findSet_id h)

theorem putSet_setsBut (s : State) {r : SetRecord} {i : SetId} (h : r.id = i) : s.setsBut [i] (s.putSet r) :=
  fun _ n => findSet_putSet_other s r (by rw [h]; simpa using n)

/-! ### What the course of a set makes of its record -/

/-- R93, R49, R51: a record stays in its state, or is surrendered, or becomes COMPLETE when it was being filled. -/
def SetState.courses (a b : SetState) : Prop := b = a ∨ b = .surrendering ∨ b = .complete ∧ (a = .collecting ∨ a = .finishing)

/-- R44, R47, R93: a page keeps its status, or goes back to ABSENT, or a HELD one is released. -/
def PageStatus.courses (a b : PageStatus) : Prop := b = a ∨ b = .absent ∨ ∃ k, a = .held k ∧ b = .releasing k

/-- What the operations on a set, but for the completions that bring its sheets, may make of its record. -/
structure SetRecord.courses (r v : SetRecord) : Prop where
  id : v.id = r.id
  record : v.record = r.record
  length : v.map.length = r.map.length
  state : r.state.courses v.state
  page : ∀ p, (r.status p).courses (v.status p)

/-- The sets of the set table, in its order. -/
def State.setIds (s : State) : List SetId := s.co.sets.map (fun r => r.id)

/-- What the operations on set `i` may make of the set table: its record goes its course or is removed, no other record
changes, and none joins. -/
structure State.courses (i : SetId) (s t : State) : Prop where
  others : s.setsBut [i] t
  own : ∀ v, t.findSet i = some v → ∃ r, s.findSet i = some r ∧ r.courses v
  ids : t.setIds.Sublist s.setIds

theorem SetState.courses.refl (a : SetState) : a.courses a := .inl rfl

theorem SetState.courses.trans {a b c : SetState} (h : a.courses b) (k : b.courses c) : a.courses c := by
  obtain rfl | rfl | ⟨rfl, was⟩ := k
  · exact h
  · exact .inr (.inl rfl)
  · obtain rfl | rfl | ⟨rfl, was'⟩ := h
    · exact .inr (.inr ⟨rfl, was⟩)
    · simp at was
    · simp at was

theorem PageStatus.courses.refl (a : PageStatus) : a.courses a := .inl rfl

theorem PageStatus.courses.trans {a b c : PageStatus} (h : a.courses b) (k : b.courses c) : a.courses c := by
  obtain rfl | rfl | ⟨k', rfl, rfl⟩ := k
  · exact h
  · exact .inr (.inl rfl)
  · obtain rfl | h | ⟨_, _, h⟩ := h
    · exact .inr (.inr ⟨k', rfl, rfl⟩)
    · cases h
    · cases h

theorem SetRecord.courses.refl (r : SetRecord) : r.courses r := ⟨rfl, rfl, rfl, .refl _, fun _ => .refl _⟩

theorem SetRecord.courses.trans {r v w : SetRecord} (h : r.courses v) (k : v.courses w) : r.courses w :=
  ⟨k.id.trans h.id, k.record.trans h.record, k.length.trans h.length, h.state.trans k.state,
    fun p => (h.page p).trans (k.page p)⟩

theorem SetRecord.courses.absent {r v : SetRecord} (h : r.courses v) {p : Nat} (a : r.status p = .absent) :
    v.status p = .absent := by
  obtain e | e | ⟨_, held, _⟩ := h.page p
  · exact e.trans a
  · exact e
  · rw [a] at held; cases held

theorem State.courses.refl (i : SetId) (s : State) : s.courses i s := ⟨.refl _ _, fun v h => ⟨v, h, .refl v⟩, .refl _⟩

theorem State.courses.trans {i : SetId} (h : s.courses i t) (k : t.courses i u) : s.courses i u := by
  refine ⟨h.1.trans k.1, fun w hw => ?_, k.3.trans h.3⟩
  obtain ⟨v, hv, vw⟩ := k.2 w hw
  obtain ⟨r, hr, rv⟩ := h.2 v hv
  exact ⟨r, hr, rv.trans vw⟩

theorem courses_of_sets {i : SetId} (h : t.co.sets = s.co.sets) : s.courses i t := by
  have same : ∀ j, t.findSet j = s.findSet j := fun j => by simp only [State.findSet, h]
  exact ⟨fun j _ => same j, fun v hv => ⟨v, (same i) ▸ hv, .refl v⟩, by rw [State.setIds, h]; exact .refl _⟩

theorem courses_of_co {i : SetId} (h : t.co = s.co) : s.courses i t := courses_of_sets (by rw [h])

theorem courses_foldl {α : Type} {i : SetId} (f : State → α → State) (h : ∀ t x, State.courses i t (f t x)) :
    ∀ (xs : List α) (s : State), s.courses i (xs.foldl f s)
  | [], s => .refl i s
  | x :: xs, s => (h s x).trans (courses_foldl f h xs (f s x))

theorem putSet_co {r old : SetRecord} (h : s.findSet r.id = some old) :
    (s.putSet r).co = { s.co with sets := s.co.sets.map (fun q => if q.id = r.id then r else q) } := by
  unfold State.putSet
  rw [h]
  exact tell_sets _ _

theorem putSet_ids (s : State) (r : SetRecord) : (s.putSet r).setIds = s.setIds := by
  cases h : s.findSet r.id with
  | none => simp only [State.putSet, h]
  | some old =>
    rw [State.setIds, putSet_co h, State.setIds, List.map_map]
    refine List.map_congr_left fun q _ => ?_
    rw [Function.comp_apply]
    split
    · exact Eq.symm ‹_›
    · rfl

/-- A record written over the one read. -/
theorem putSet_courses {i : SetId} {r v : SetRecord} (h : s.findSet i = some r) (c : r.courses v) :
    s.courses i (s.putSet v) := by
  have id : v.id = i := c.id.trans (findSet_id h)
  refine ⟨putSet_setsBut s id, fun w hw => ⟨r, h, ?_⟩, by rw [putSet_ids]⟩
  subst id
  rw [findSet_putSet_same h] at hw
  cases hw
  exact c

theorem setStatus_courses {r : SetRecord} {p : Nat} {x : PageStatus}
    (h : x = .absent ∨ ∃ k, r.status p = .held k ∧ x = .releasing k) : r.courses (r.setStatus p x) := by
  refine ⟨rfl, rfl, length_set1 _ _ _, .refl _, fun q => ?_⟩
  by_cases e : p = q
  · subst e
    obtain rfl | ⟨k, held, rfl⟩ := h
    · exact .inr (.inl (status_setStatus_absent r p))
    · exact .inr (.inr ⟨k, held, status_setStatus_same _ (by simp [held])⟩)
  · exact .inl (status_setStatus_other r x e)

theorem setPage_courses {i : SetId} {r : SetRecord} {p : Nat} {x : PageStatus} (h : s.findSet i = some r)
    (ok : x = .absent ∨ ∃ k, r.status p = .held k ∧ x = .releasing k) : s.courses i (s.setPage i p x) := by
  simp only [State.setPage, State.updSet, h]
  exact putSet_courses h (setStatus_courses ok)

/-- R98: the record of an emptied bin holds none; its pages stay. -/
theorem binless_courses (r : SetRecord) (b : Option Nat) : r.courses { r with bin := b } :=
  ⟨rfl, rfl, rfl, .refl _, fun _ => .refl _⟩

variable (s)

theorem queueRelease_co (r : Release) : (s.queueRelease r).co = s.co := (queueRelease_frame s r).co (by decide)

theorem queueCarriage_co (r : CarriageRequest) : (s.queueCarriage r).co = s.co := (queueCarriage_frame s r).co (by decide)

theorem withdrawCarriage_co (i : SetId) (x : Bool) : (s.withdrawCarriage i x).co = s.co :=
  (withdrawCarriage_frame s i x).co (by decide)

theorem dueYield_co (i : SetId) (y : YieldReason) : (s.dueYield i y).co = s.co := (dueYield_frame s i y).co (by decide)

theorem withdrawClaim_co (i : SetId) : (s.withdrawClaim i).co = s.co := (withdrawClaim_frame s i).co (by decide)

theorem freeBin_sets (b : Nat) : (s.freeBin b).co.sets = s.co.sets := by
  unfold State.freeBin State.setBin
  split
  · rw [tell_sets]
  · rfl

theorem findSet_freeBin (b : Nat) (i : SetId) : (s.freeBin b).findSet i = s.findSet i := by
  unfold State.freeBin State.setBin
  split
  · exact findSet_tell _ _ _
  · rfl

theorem removeSet_sets {r : SetRecord} (h : s.findSet r.id = some r) :
    (s.removeSet r.id).co.sets = s.co.sets.filter (fun q => q.id != r.id) := by
  simp only [State.removeSet, h]
  rw [(rejoinTest_frame _).co (by decide), (drainTest_frame _).co (by decide), State.dropSet,
    (unbindingTest_frame _ _).co (by decide), tell_sets]

/-- R100: a set removed has no record. -/
theorem findSet_removeSet (i : SetId) : (s.removeSet i).findSet i = none := by
  cases h : s.findSet i with
  | none => simp only [State.removeSet, h]
  | some r =>
    have id := findSet_id h
    subst id
    rw [State.findSet, removeSet_sets s h, List.find?_filter, List.find?_eq_none]
    intro q _
    by_cases e : q.id = r.id <;> simp [e]

theorem removeSet_courses (i : SetId) : s.courses i (s.removeSet i) := by
  cases h : s.findSet i with
  | none => simp only [State.removeSet, h]; exact .refl i s
  | some r =>
    have id := findSet_id h
    subst id
    have ids : (s.removeSet r.id).setIds.Sublist s.setIds := by
      rw [State.setIds, removeSet_sets s h]
      exact List.filter_sublist.map _
    refine ⟨fun j n => ?_, fun v hv => ?_, ids⟩
    swap
    · rw [findSet_removeSet] at hv
      cases hv
    have other : j ≠ r.id := by simpa using n
    rw [State.findSet, removeSet_sets s h, List.find?_filter]
    refine List.find?_congr fun q _ => ?_
    by_cases e : q.id = j <;> simp [e, other]

theorem unloadTest_courses (i : SetId) : s.courses i (s.unloadTest i) := by
  unfold State.unloadTest
  split
  · exact .refl i s
  · rename_i r h
    split
    · exact .refl i s
    · rename_i b _
      split
      · split
        · have freed : (s.freeBin b).findSet i = some r := (findSet_freeBin s b i).trans h
          refine State.courses.trans ?_ (putSet_courses freed (binless_courses r none))
          exact courses_of_sets (freeBin_sets s b)
        · exact courses_of_co (queueCarriage_co s _)
      · exact .refl i s

theorem removalTest_courses (i : SetId) : s.courses i (s.removalTest i) := by
  unfold State.removalTest
  split
  · exact .refl i s
  · split
    · exact removeSet_courses s i
    · exact .refl i s

theorem recordOf_eq_some {g : PageRef} {r : SetRecord} :
    s.recordOf g = some r ↔ s.findSet g.id = some r ∧ r.record = g.record := by
  unfold State.recordOf
  constructor
  · intro h
    split at h
    · cases h
    · rename_i q hq
      split at h
      · cases h; exact ⟨hq, ‹_›⟩
      · cases h
  · rintro ⟨h, e⟩
    simp [h, e]

theorem undoPage_courses (g : PageRef) : s.courses g.id (s.undoPage g) := by
  unfold State.undoPage
  split
  · exact .refl _ s
  · rename_i r h
    split
    · exact setPage_courses ((recordOf_eq_some s).mp h).1 (.inl rfl)
    · exact .refl _ s

theorem undoReservation_co (k : Nat) (i : SetId) (p : Nat) : (s.undoReservation k i p).co = s.co :=
  (undoReservation_frame s k i p).co (by decide)

/-- An entry of set `i`, or of none. -/
def Entry.isOf (i : SetId) (e : Entry) : Prop := ∀ g ∈ e.target, g.id = i

theorem undoAction_courses {i : SetId} {e : Entry} (h : e.isOf i) : s.courses i (s.undoAction e) := by
  unfold State.undoAction
  split
  · rename_i g _ hg
    have := h g hg
    subst this
    exact undoPage_courses s g
  · rename_i k g _ hg
    have := h g hg
    subst this
    exact (undoPage_courses s g).trans (courses_of_co (undoReservation_co _ _ _ _))
  · exact .refl i s

/-- Entries of set `i` undone one after another. -/
theorem undoActions_courses {i : SetId} : ∀ (q : List Entry) (s : State), (∀ e ∈ q, e.isOf i) →
    s.courses i (q.foldl State.undoAction s)
  | [], s, _ => .refl i s
  | e :: q, s, h => (undoAction_courses s (h e (List.mem_cons_self ..))).trans
      (undoActions_courses q _ fun x hx => h x (List.mem_cons_of_mem _ hx))

theorem rewriteSet_courses (i : SetId) : s.courses i (s.rewriteSet i) := by
  refine State.courses.trans (undoActions_courses _ s ?_) (courses_of_co rfl)
  intro e he g hg
  have hit := (List.mem_filter.mp he).2
  rw [Option.mem_def.mp hg] at hit
  simpa using hit

theorem releaseToFeeder_courses (i : SetId) (p : Nat) : s.courses i (s.releaseToFeeder i p) := by
  unfold State.releaseToFeeder
  split
  · exact .refl i s
  · rename_i r h
    split
    · rename_i k held
      exact (setPage_courses h (.inr ⟨k, held, rfl⟩)).trans (courses_of_co (queueRelease_co _ _))
    · exact .refl i s

/-- R92: the surrender counted. -/
def State.countSurrender (s : State) : State := { s with co := { s.co with surrenders := Machine.count s.co.surrenders } }

/-- R93 step 1: the CLAIM of a CLAIMING record withdrawn. -/
def State.claimless (s : State) (r : SetRecord) : State := if r.state = .claiming then s.withdrawClaim r.id else s

/-- R93: the record as its surrender leaves it at first. -/
def SetRecord.surrendered (r : SetRecord) : SetRecord := { r.toState .surrendering with deadline := false }

theorem surrendered_courses (r : SetRecord) : r.courses r.surrendered := ⟨rfl, rfl, rfl, .inr (.inl rfl), fun _ => .refl _⟩

theorem beginSurrender_eq (r : SetRecord) : s.beginSurrender r =
    if r.state = .complete then ((s.claimless r).putSet r.surrendered).countSurrender.withdrawCarriage r.id false
    else ((s.claimless r).putSet r.surrendered).countSurrender := rfl

theorem claimless_co (r : SetRecord) : (s.claimless r).co = s.co := by
  unfold State.claimless
  split
  · exact withdrawClaim_co s r.id
  · rfl

theorem beginSurrender_findSet {i : SetId} {r : SetRecord} (h : s.findSet i = some r) :
    (s.beginSurrender r).findSet i = some r.surrendered ∧ s.setsBut [i] (s.beginSurrender r) := by
  have id := findSet_id h
  subst id
  have put : (((s.claimless r).putSet r.surrendered).countSurrender).findSet r.id = some r.surrendered :=
    findSet_putSet_same (r := r.surrendered) ((findSet_of_co (claimless_co s r) r.id).trans h)
  have other : s.setsBut [r.id] (((s.claimless r).putSet r.surrendered).countSurrender) :=
    (setsBut_of_co (claimless_co s r)).trans (putSet_setsBut _ (r := r.surrendered) rfl)
  rw [beginSurrender_eq]
  split
  · have co := withdrawCarriage_co (((s.claimless r).putSet r.surrendered).countSurrender) r.id false
    exact ⟨(findSet_of_co co r.id).trans put, other.trans (setsBut_of_co co)⟩
  · exact ⟨put, other⟩

theorem beginSurrender_courses {i : SetId} {r : SetRecord} (h : s.findSet i = some r) : s.courses i (s.beginSurrender r) := by
  have there : (s.claimless r).findSet i = some r := (findSet_of_co (claimless_co s r) i).trans h
  have begun : s.courses i ((s.claimless r).putSet r.surrendered).countSurrender :=
    ((courses_of_co (claimless_co s r)).trans (putSet_courses there (surrendered_courses r))).trans (courses_of_sets rfl)
  rw [beginSurrender_eq]
  split
  · exact begun.trans (courses_of_co (withdrawCarriage_co _ _ _))
  · exact begun

theorem endSurrender_courses {i : SetId} {r : SetRecord} (id : r.id = i) (y : Option YieldReason) :
    s.courses i (s.endSurrender r y) := by
  subst id
  refine .trans ?_ (removalTest_courses _ _)
  refine .trans ?_ (unloadTest_courses _ _)
  refine .trans ?_ (courses_foldl _ (fun t p => releaseToFeeder_courses t r.id p) _ _)
  refine .trans (.trans ?_ (rewriteSet_courses _ _)) (courses_of_co rfl)
  split
  · split
    · exact .refl _ _
    · exact courses_of_co (dueYield_co _ _ _)
  · exact .refl _ _

theorem surrender_courses (i : SetId) (y : Option YieldReason) : s.courses i (s.surrender i y) := by
  unfold State.surrender
  split
  · exact .refl i s
  · exact (beginSurrender_courses s ‹_›).trans (endSurrender_courses _ (findSet_id ‹_›) y)

/-- R47: what the release test makes of the record: nothing, or one of its HELD pages released. -/
theorem releaseTest_record {i : SetId} {r : SetRecord} (h : s.findSet i = some r) :
    s.releaseTest i = s ∨ ∃ p k d, r.status p = .held k ∧ s.releaseTest i = (s.setPage i p (.releasing k)).queueRelease d := by
  unfold State.releaseTest
  rw [h]
  dsimp only
  split
  · rename_i b p k _ page
    refine .inr ⟨p, k, { pocket := k, id := i, page := p, dest := .bin b }, ?_, rfl⟩
    unfold SetRecord.releasePage at page
    dsimp only at page
    split at page
    · cases page
    · split at page
      · split at page
        · cases page
        · cases page; assumption
      · cases page
  · exact .inl rfl

theorem findSet_releaseTest {i : SetId} {r : SetRecord} (h : s.findSet i = some r) :
    ∃ v, (s.releaseTest i).findSet i = some v ∧ (v = r ∨ ∃ p k, r.status p = .held k ∧ v = r.setStatus p (.releasing k)) := by
  obtain e | ⟨p, k, d, held, e⟩ := releaseTest_record s h
  · exact ⟨r, by rw [e, h], .inl rfl⟩
  · refine ⟨_, ?_, .inr ⟨p, k, held, rfl⟩⟩
    rw [e, findSet_of_co (queueRelease_co _ _) i, findSet_setPage_same p _ h]

theorem releaseTest_courses (i : SetId) : s.courses i (s.releaseTest i) := by
  cases h : s.findSet i with
  | none => simp only [State.releaseTest, h]; exact .refl i s
  | some r =>
    obtain e | ⟨p, k, d, held, e⟩ := releaseTest_record s h
    · rw [e]; exact .refl i s
    · rw [e]
      exact (setPage_courses h (.inr ⟨k, held, rfl⟩)).trans (courses_of_co (queueRelease_co _ _))

/-- R49, R51: the record as it becomes COMPLETE. -/
def SetRecord.completed (r : SetRecord) (x : Bool) : SetRecord := { r.toState .complete with isPartial := x }

theorem findSet_completeSet {i : SetId} {r : SetRecord} (h : s.findSet i = some r) (x : Bool) :
    (s.completeSet r x).findSet i = some (r.completed x) := by
  have id := findSet_id h
  subst id
  exact (findSet_of_co (queueCarriage_co _ _) _).trans (findSet_putSet_same (r := r.completed x) h)

theorem completeSet_courses {i : SetId} {r : SetRecord} (h : s.findSet i = some r) (x : Bool)
    (was : r.state = .collecting ∨ r.state = .finishing) : s.courses i (s.completeSet r x) :=
  (putSet_courses (v := r.completed x) h ⟨rfl, rfl, rfl, .inr (.inr ⟨rfl, was⟩), fun _ => .refl _⟩).trans
    (courses_of_co (queueCarriage_co _ _))

theorem completionTest_courses (i : SetId) : s.courses i (s.completionTest i) := by
  unfold State.completionTest
  split
  · exact .refl i s
  · rename_i r h
    split
    · split
      · exact completeSet_courses s h _ (.inl ‹_›)
      · exact .refl i s
    · split
      · exact .refl i s
      · split
        · exact surrender_courses s i _
        · exact completeSet_courses s h _ (.inr ‹_›)
    · exact .refl i s

theorem afterChange_courses (i : SetId) : s.courses i (s.afterChange i) := by
  have filling := (releaseTest_courses s i).trans (completionTest_courses _ i)
  unfold State.afterChange
  split
  · exact .refl i s
  · split
    · exact filling
    · exact filling
    · exact filling
    · exact (unloadTest_courses s i).trans (removalTest_courses _ i)
    · exact .refl i s
    · exact .refl i s
    · exact .refl i s

theorem undoEntry_courses {i : SetId} {e : Entry} (h : e.isOf i) : s.courses i (s.undoEntry e) := by
  have undone := undoAction_courses s h
  unfold State.undoEntry
  dsimp only
  split
  · exact undone
  · rename_i g hg
    have := h g hg
    subst this
    split
    · exact undone.trans (afterChange_courses _ _)
    · exact undone

/-! ### The tests that follow a change, by the state of the record -/

/-- R47, R49: a CLAIMING set, and a COLLECTING one with a page not PLACED, has the release test alone. -/
theorem afterChange_filling {i : SetId} {r : SetRecord} (h : s.findSet i = some r)
    (open' : r.state = .claiming ∨ r.state = .collecting ∧ ∃ p ∈ numbers r.map.length, r.status p ≠ .placed) :
    s.afterChange i = s.releaseTest i := by
  have tests : s.afterChange i = (s.releaseTest i).completionTest i := by
    obtain e | ⟨e, _⟩ := open' <;> simp only [State.afterChange, h, e]
  rw [tests]
  obtain ⟨v, hv, was⟩ := findSet_releaseTest s h
  have state : v.state = r.state := by obtain rfl | ⟨p, k, _, rfl⟩ := was <;> rfl
  unfold State.completionTest
  rw [hv]
  dsimp only
  rw [state]
  obtain e | ⟨e, p, hp, open'⟩ := open'
  · rw [e]
  · rw [e]
    refine if_neg (mt allPlaced_iff.mp fun all => ?_)
    obtain rfl | ⟨q, k, held, rfl⟩ := was
    · exact open' (all p hp)
    · have len : (r.setStatus q (.releasing k)).map.length = r.map.length := length_set1 _ _ _
      by_cases e : q = p
      · subst e
        have := all q (by rw [len]; exact hp)
        rw [status_setStatus_same _ (by simp [held])] at this
        cases this
      · exact open' ((status_setStatus_other r _ e).symm.trans (all p (by rw [len]; exact hp)))

end Sys2Proof.Machine
end

section
/-! ## The rack under the course of a set -/

namespace Sys2Proof.Machine

/-- What the issue of requests may do to the rack: its requests, and nothing of its places (R60). -/
def Rack.issues (h g : Rack) : Prop := g = { h with rack := g.rack, releases := g.releases }

/-- What the operations on sets may do to the rack: issue requests, and free the places reserved for a page (R57, R60). -/
structure Rack.courses (h g : Rack) : Prop where
  inlet : g.inlet = h.inlet
  occupied : g.inletOccupied = h.inletOccupied
  faults : g.faults = h.faults
  places : g.inletReserved ≤ h.inletReserved
  length : g.pockets.length = h.pockets.length
  pocket : ∀ k, nth1 g.pockets k = nth1 h.pockets k
    ∨ (∃ i p, nth1 h.pockets k = some (.reserved i p)) ∧ nth1 g.pockets k = some .free
  service : h.rack = .outOfService → g.rack = .outOfService

theorem Rack.issues.refl (h : Rack) : h.issues h := rfl

theorem Rack.issues.of_eq {h g : Rack} (e : g = h) : h.issues g := e ▸ .refl h

theorem Rack.issues.trans {a b c : Rack} (h : a.issues b) (k : b.issues c) : a.issues c := by
  unfold Rack.issues at *
  rw [k, h]

theorem Rack.issues.pockets {h g : Rack} (e : h.issues g) : g.pockets = h.pockets := by rw [e]

theorem Rack.issues.inletReserved {h g : Rack} (e : h.issues g) : g.inletReserved = h.inletReserved := by rw [e]

theorem Rack.courses.refl (h : Rack) : h.courses h :=
  ⟨rfl, rfl, rfl, Nat.le_refl _, rfl, fun _ => .inl rfl, id⟩

theorem Rack.courses.of_eq {h g : Rack} (e : g = h) : h.courses g := e ▸ .refl h

theorem Rack.courses.trans {a b c : Rack} (h : a.courses b) (k : b.courses c) : a.courses c := by
  refine ⟨k.inlet.trans h.inlet, k.occupied.trans h.occupied, k.faults.trans h.faults, Nat.le_trans k.places h.places,
    k.length.trans h.length, fun n => ?_, k.service ∘ h.service⟩
  obtain e | ⟨⟨i, p, e⟩, f⟩ := k.pocket n
  · rw [e]; exact h.pocket n
  · obtain e' | ⟨was, e'⟩ := h.pocket n
    · exact .inr ⟨⟨i, p, by rw [← e', e]⟩, f⟩
    · exact .inr ⟨was, f⟩

theorem Rack.courses.free {h g : Rack} (c : h.courses g) {k : Nat} (e : nth1 h.pockets k = some .free) :
    nth1 g.pockets k = some .free := by
  obtain e' | ⟨_, f⟩ := c.pocket k
  · exact e'.trans e
  · exact f

theorem Rack.issues.courses {h g : Rack} (e : h.issues g) (service : h.rack = .outOfService → g.rack = .outOfService) :
    h.courses g := by
  rw [e] at *
  exact ⟨rfl, rfl, rfl, Nat.le_refl _, rfl, fun _ => .inl rfl, service⟩

variable (s : State)

theorem arbiterIssue_issues : s.hr.issues s.arbiterIssue.hr := by
  unfold State.arbiterIssue
  repeat' split
  all_goals rfl

theorem carriageIssue_hr : s.carriageIssue.hr = s.hr := (carriageIssue_frame s).hr (by decide)

theorem arbiter_issues : s.hr.issues s.arbiter.hr := by
  unfold State.arbiter
  dsimp only
  split
  · exact arbiterIssue_issues s
  · exact (arbiterIssue_issues s).trans (.of_eq (carriageIssue_hr _))

theorem startTest_issues : s.hr.issues s.startTest.hr := by
  unfold State.startTest
  dsimp only
  split
  · exact .of_eq (carriageIssue_hr s)
  · exact (Rack.issues.of_eq (carriageIssue_hr s)).trans (arbiterIssue_issues _)

theorem arbiterIssue_service (h : s.hr.rack = .outOfService) : s.arbiterIssue = s :=
  arbiterIssue_of_busy (by simp [h])

theorem arbiter_service (h : s.hr.rack = .outOfService) : s.arbiter = s := arbiter_of_busy (by simp [h])

theorem arbiter_rack : s.hr.courses s.arbiter.hr :=
  (arbiter_issues s).courses fun h => by rw [arbiter_service s h, h]

theorem startTest_rack : s.hr.courses s.startTest.hr := by
  refine (startTest_issues s).courses fun h => ?_
  unfold State.startTest
  dsimp only
  split
  · rw [carriageIssue_hr, h]
  · rw [arbiterIssue_service _ (by rw [carriageIssue_hr, h]), carriageIssue_hr, h]

theorem queueRelease_issues (d : Release) : s.hr.issues (s.queueRelease d).hr :=
  Rack.issues.trans (b := { s.hr with releases := s.hr.releases ++ [d] }) rfl (arbiter_issues _)

theorem queueRelease_rack (d : Release) : s.hr.courses (s.queueRelease d).hr :=
  Rack.courses.trans (b := { s.hr with releases := s.hr.releases ++ [d] })
    (Rack.issues.courses rfl id) (arbiter_rack { s with hr := { s.hr with releases := s.hr.releases ++ [d] } })

theorem queueCarriage_rack (q : CarriageRequest) : s.hr.courses (s.queueCarriage q).hr := by
  unfold State.queueCarriage
  dsimp only
  split
  · exact startTest_rack { s with sc := { s.sc with carriageQueue := s.sc.carriageQueue ++ [q] } }
  · exact .refl _

theorem withdrawCarriage_rack (i : SetId) (x : Bool) : s.hr.courses (s.withdrawCarriage i x).hr := by
  unfold State.withdrawCarriage
  dsimp only
  split
  · exact startTest_rack { s with sc := { s.sc with
      carriageQueue := s.sc.carriageQueue.filter (fun r => !(r.id == i && r.isUnload == x)) } }
  · exact .refl _

theorem undoReservation_rack (k : Nat) (i : SetId) (p : Nat) : s.hr.courses (s.undoReservation k i p).hr := by
  unfold State.undoReservation
  split
  · rename_i h
    have inside : 1 ≤ k ∧ k ≤ s.hr.pockets.length := (nth1_isSome_iff _ _).mp (by rw [h]; rfl)
    refine ⟨rfl, rfl, rfl, Nat.sub_le _ _, length_set1 _ _ _, fun n => ?_, id⟩
    by_cases e : k = n
    · subst e
      exact .inr ⟨⟨i, p, h⟩, nth1_set1_same _ inside.1 inside.2⟩
    · exact .inl (nth1_set1_other _ _ e)
  · exact .refl _

theorem setPage_hr (i : SetId) (p : Nat) (x : PageStatus) : (s.setPage i p x).hr = s.hr :=
  (setPage_frame s i p x).hr (by decide)

theorem undoPage_hr (g : PageRef) : (s.undoPage g).hr = s.hr := (undoPage_frame s g).hr (by decide)

theorem undoAction_rack (e : Entry) : s.hr.courses (s.undoAction e).hr := by
  unfold State.undoAction
  split
  · exact .of_eq (undoPage_hr s _)
  · exact (Rack.courses.of_eq (undoPage_hr s _)).trans (undoReservation_rack _ _ _ _)
  · exact .refl _

theorem rack_foldl {α : Type} (f : State → α → State) (h : ∀ (t : State) x, t.hr.courses (f t x).hr) :
    ∀ (xs : List α) (s : State), s.hr.courses (xs.foldl f s).hr
  | [], s => .refl s.hr
  | x :: xs, s => (h s x).trans (rack_foldl f h xs (f s x))

theorem rewriteSet_rack (i : SetId) : s.hr.courses (s.rewriteSet i).hr := rack_foldl State.undoAction undoAction_rack _ s

theorem redirect_rack (i : SetId) : s.hr.courses (s.redirect i).hr := Rack.issues.courses rfl id

theorem releaseToFeeder_rack (i : SetId) (p : Nat) : s.hr.courses (s.releaseToFeeder i p).hr := by
  unfold State.releaseToFeeder
  split
  · exact .refl _
  · split
    · exact (Rack.courses.of_eq (setPage_hr s _ _ _)).trans (queueRelease_rack _ _)
    · exact .refl _

theorem unloadTest_rack (i : SetId) : s.hr.courses (s.unloadTest i).hr := by
  unfold State.unloadTest
  split
  · exact .refl _
  · split
    · exact .refl _
    · split
      · split
        · exact .of_eq (((putSet_frame _ _).hr (by decide)).trans ((freeBin_frame s _).hr (by decide)))
        · exact queueCarriage_rack s _
      · exact .refl _

theorem removalTest_hr (i : SetId) : (s.removalTest i).hr = s.hr := (removalTest_frame s i).hr (by decide)

theorem beginSurrender_rack (r : SetRecord) : s.hr.courses (s.beginSurrender r).hr := by
  have claimless : (s.claimless r).hr = s.hr := by
    unfold State.claimless
    split
    · exact (withdrawClaim_frame s _).hr (by decide)
    · rfl
  have put : (((s.claimless r).putSet r.surrendered).countSurrender).hr = s.hr :=
    ((putSet_frame _ _).hr (by decide)).trans claimless
  rw [beginSurrender_eq]
  split
  · exact (Rack.courses.of_eq put).trans (withdrawCarriage_rack _ _ _)
  · exact .of_eq put

theorem endSurrender_rack (r : SetRecord) (y : Option YieldReason) : s.hr.courses (s.endSurrender r y).hr := by
  refine .trans ?_ (.of_eq (removalTest_hr _ _))
  refine .trans ?_ (unloadTest_rack _ _)
  refine .trans ?_ (rack_foldl _ (fun t p => releaseToFeeder_rack t r.id p) _ _)
  refine .trans (.trans ?_ (rewriteSet_rack _ _)) (redirect_rack _ _)
  split
  · split
    · exact .refl _
    · exact .of_eq ((dueYield_frame _ _ _).hr (by decide))
  · exact .refl _

theorem surrender_rack (i : SetId) (y : Option YieldReason) : s.hr.courses (s.surrender i y).hr := by
  unfold State.surrender
  split
  · exact .refl _
  · exact (beginSurrender_rack s _).trans (endSurrender_rack _ _ y)

theorem releaseTest_rack (i : SetId) : s.hr.courses (s.releaseTest i).hr := by
  unfold State.releaseTest
  split
  · exact .refl _
  · split
    · exact (Rack.courses.of_eq (setPage_hr s _ _ _)).trans (queueRelease_rack _ _)
    · exact .refl _

theorem releaseTest_issues (i : SetId) : s.hr.issues (s.releaseTest i).hr := by
  unfold State.releaseTest
  split
  · exact .refl _
  · split
    · exact (Rack.issues.of_eq (setPage_hr s _ _ _)).trans (queueRelease_issues _ _)
    · exact .refl _

theorem completeSet_rack (r : SetRecord) (x : Bool) : s.hr.courses (s.completeSet r x).hr :=
  (Rack.courses.of_eq ((putSet_frame s _).hr (by decide))).trans (queueCarriage_rack _ _)

theorem completionTest_rack (i : SetId) : s.hr.courses (s.completionTest i).hr := by
  unfold State.completionTest
  split
  · exact .refl _
  · split
    · split
      · exact completeSet_rack s _ _
      · exact .refl _
    · split
      · exact .refl _
      · split
        · exact surrender_rack s _ _
        · exact completeSet_rack s _ _
    · exact .refl _

theorem afterChange_rack (i : SetId) : s.hr.courses (s.afterChange i).hr := by
  have filling := (releaseTest_rack s i).trans (completionTest_rack _ i)
  unfold State.afterChange
  split
  · exact .refl _
  · split
    · exact filling
    · exact filling
    · exact filling
    · exact (unloadTest_rack s i).trans (.of_eq (removalTest_hr _ i))
    · exact .refl _
    · exact .refl _
    · exact .refl _

/-! ## Diversions that do not take place (R13, R15, R16, R44, R57) -/

/-- The entry is a diversion of the page `g`, for which its record waits. -/
structure State.diverting (s : State) (e : Entry) (g : PageRef) (r : SetRecord) : Prop where
  action : (∃ b, e.action = .bin b) ∨ ∃ k, e.action = .rack k
  target : e.target = some g
  record : s.recordOf g = some r
  inbound : (r.status g.page).inboundP = true

variable {s} {e : Entry} {g : PageRef} {r : SetRecord}

theorem State.diverting.findSet (h : s.diverting e g r) : s.findSet g.id = some r := ((recordOf_eq_some s).mp h.record).1

theorem undoPage_eq (h : s.recordOf g = some r) (inbound : (r.status g.page).inboundP = true) :
    s.undoPage g = s.setPage g.id g.page .absent := by
  simp only [State.undoPage, h, inbound, if_true]

/-- R57: the undoing of a RACK entry beside its page's. -/
theorem undoAction_rack_eq {k : Nat} (h : s.diverting e g r) (rack : e.action = .rack k) :
    s.undoAction e = (s.setPage g.id g.page .absent).undoReservation k g.id g.page := by
  simp only [State.undoAction, rack, h.target, undoPage_eq h.record h.inbound]

theorem undoAction_bin_eq {b : Nat} (h : s.diverting e g r) (bin : e.action = .bin b) :
    s.undoAction e = s.setPage g.id g.page .absent := by
  simp only [State.undoAction, bin, h.target, undoPage_eq h.record h.inbound]

/-- R44: the page is ABSENT again. -/
theorem findSet_undoAction (h : s.diverting e g r) :
    (s.undoAction e).findSet g.id = some (r.setStatus g.page .absent) := by
  obtain ⟨b, bin⟩ | ⟨k, rack⟩ := h.action
  · rw [undoAction_bin_eq h bin, findSet_setPage_same _ _ h.findSet]
  · rw [undoAction_rack_eq h rack, findSet_of_co (undoReservation_co _ _ _ _), findSet_setPage_same _ _ h.findSet]

theorem undoEntry_eq (h : s.diverting e g r) : s.undoEntry e = (s.undoAction e).afterChange g.id := by
  simp only [State.undoEntry, h.target, h.record, Option.isSome_some, if_true]

theorem inboundPage (h : s.diverting e g r) : r.status g.page ≠ .absent ∧ ∀ k, r.status g.page ≠ .held k := by
  have inbound := h.inbound
  constructor
  · intro x; simp [x, PageStatus.inboundP] at inbound
  · intro k x; simp [x, PageStatus.inboundP] at inbound

/-- R44, R47: for a CLAIMING or COLLECTING record the release test follows. -/
theorem undoEntry_filling (h : s.diverting e g r) (filling : r.state = .claiming ∨ r.state = .collecting) :
    s.undoEntry e = (s.undoAction e).releaseTest g.id := by
  rw [undoEntry_eq h]
  refine afterChange_filling _ (findSet_undoAction h) (filling.imp id fun c => ⟨c, g.page, ?_, ?_⟩)
  · obtain ⟨low, high⟩ := page_in_map (inboundPage h).1
    rw [show (r.setStatus g.page .absent).map.length = r.map.length from length_set1 _ _ _]
    exact mem_numbers.mpr ⟨low, high⟩
  · rw [status_setStatus_absent]; simp

/-- R44: the record of a CLAIMING or COLLECTING set keeps its bin. -/
theorem findSet_undoEntry_filling (h : s.diverting e g r) (filling : r.state = .claiming ∨ r.state = .collecting) :
    ∃ q, (s.undoEntry e).findSet g.id = some q ∧ q.status g.page = .absent ∧ q.bin = r.bin := by
  rw [undoEntry_filling h filling]
  obtain ⟨v, hv, rfl | ⟨p, k, held, rfl⟩⟩ := findSet_releaseTest _ (findSet_undoAction h)
  · exact ⟨_, hv, status_setStatus_absent r _, rfl⟩
  · refine ⟨_, hv, ?_, rfl⟩
    have other : p ≠ g.page := by
      rintro rfl
      rw [status_setStatus_absent] at held
      cases held
    rw [status_setStatus_other _ _ other, status_setStatus_absent]

theorem undoEntry_filling_frame (h : s.diverting e g r) (filling : r.state = .claiming ∨ r.state = .collecting) :
    s.sameBut [.co, .hr, .rf, .sc, .dc, .lc] (s.undoEntry e) := by
  rw [undoEntry_filling h filling]
  exact sameBut_trans (sameBut_mono (undoAction_frame s e) (by decide)) (releaseTest_frame _ _)

/-- R44: whatever the state of the record, the page of a diversion undone is ABSENT while the record lasts. -/
theorem findSet_undoEntry (h : s.diverting e g r) {q : SetRecord} (hq : (s.undoEntry e).findSet g.id = some q) :
    q.status g.page = .absent := by
  rw [undoEntry_eq h] at hq
  obtain ⟨v, hv, course⟩ := (afterChange_courses (s.undoAction e) g.id).2 q hq
  rw [findSet_undoAction h] at hv
  cases hv
  exact course.absent (status_setStatus_absent r _)

theorem diverting_isOf (h : s.diverting e g r) : e.isOf g.id := by
  intro x hx
  rw [h.target] at hx
  cases hx
  rfl

/-- R57: the pocket reserved for the page is FREE, and one inlet place less reserved. -/
theorem undoAction_pocket {k : Nat} (h : s.diverting e g r) (rack : e.action = .rack k)
    (pocket : nth1 s.hr.pockets k = some (.reserved g.id g.page)) :
    nth1 (s.undoAction e).hr.pockets k = some .free ∧ (s.undoAction e).hr.inletReserved = s.hr.inletReserved - 1 := by
  have inside : 1 ≤ k ∧ k ≤ s.hr.pockets.length := (nth1_isSome_iff _ _).mp (by rw [pocket]; rfl)
  rw [undoAction_rack_eq h rack, State.undoReservation, if_pos (by rw [setPage_hr]; exact pocket)]
  dsimp only
  rw [setPage_hr]
  exact ⟨nth1_set1_same _ inside.1 inside.2, rfl⟩

theorem undoEntry_pocket_filling {k : Nat} (h : s.diverting e g r) (rack : e.action = .rack k)
    (pocket : nth1 s.hr.pockets k = some (.reserved g.id g.page)) (filling : r.state = .claiming ∨ r.state = .collecting) :
    nth1 (s.undoEntry e).hr.pockets k = some .free ∧ (s.undoEntry e).hr.inletReserved = s.hr.inletReserved - 1 := by
  have issues := releaseTest_issues (s.undoAction e) g.id
  rw [undoEntry_filling h filling, issues.pockets, issues.inletReserved]
  exact undoAction_pocket h rack pocket

theorem undoEntry_pocket {k : Nat} (h : s.diverting e g r) (rack : e.action = .rack k)
    (pocket : nth1 s.hr.pockets k = some (.reserved g.id g.page)) : nth1 (s.undoEntry e).hr.pockets k = some .free := by
  rw [undoEntry_eq h]
  exact (afterChange_rack _ _).free (undoAction_pocket h rack pocket).1

theorem diverting_of_bin {b : Nat} (action : e.action = .bin b) (target : e.target = some g) (record : s.recordOf g = some r)
    (page : r.status g.page = .inboundBin) : s.diverting e g r :=
  ⟨.inl ⟨b, action⟩, target, record, by rw [page]; rfl⟩

theorem diverting_of_rack {k : Nat} (action : e.action = .rack k) (target : e.target = some g)
    (record : s.recordOf g = some r) (page : r.status g.page = .inboundRack k) : s.diverting e g r :=
  ⟨.inr ⟨k, action⟩, target, record, by rw [page]; rfl⟩

/-- An entry whose action holds nothing is undone by doing nothing. -/
theorem undoEntry_bare (action : e.action = .pass ∨ e.action = .reject ∨ e.action = .fill) (target : e.target = none) :
    s.undoEntry e = s := by
  obtain a | a | a := action <;> simp [State.undoEntry, State.undoAction, a, target]

end Sys2Proof.Machine
end

section
namespace Sys2Proof.Machine

variable {s : State} {e : Entry} {q : List Entry}

/-! ## The gate's arrivals (R12, R13, R15) -/

/-- The approach queue without its oldest entry. -/
def State.withQueue (s : State) (q : List Entry) : State := { s with gc := { s.gc with queue := q } }

theorem withQueue_diverting {g : PageRef} {r : SetRecord} (h : s.diverting e g r) (q : List Entry) :
    (s.withQueue q).diverting e g r := ⟨h.action, h.target, h.record, h.inbound⟩

/-- R12: no entry of the carrier. -/
theorem gateArrival_unmatched {n : Byte} (h : 240 ≤ n.toNat ∨ ∀ e ∈ s.gc.queue, e.carrier ≠ n.toNat) :
    exec (.gateArrival n) s = .next { s with gc := { s.gc with unmatched := count s.gc.unmatched } } := by
  have none : s.matchPlace n.toNat = none := by
    unfold State.matchPlace
    split
    · rw [List.findIdx?_eq_none_iff]
      intro e he
      obtain h | h := h
      · omega
      · simpa using h e he
    · rfl
  change execGateArrival n s = _
  simp only [execGateArrival, none]

/-- R12, R15: the oldest entry is of the carrier. -/
theorem gateArrival_oldest {n : Byte} (low : n.toNat < 240) (h : s.gc.queue = e :: q) (carrier : e.carrier = n.toNat) :
    exec (.gateArrival n) s = .next ((s.withQueue q).takeEntry e) := by
  have place : s.matchPlace n.toNat = some 0 := by simp [State.matchPlace, low, h, List.findIdx?_cons, carrier]
  change execGateArrival n s = _
  simp only [execGateArrival, place, State.lapseOldestN, State.takeOldest, h]
  rfl

theorem takeEntry_pass (h : e.action = .pass) : s.takeEntry e = s := if_pos h

theorem takeEntry_idle (h : e.action ≠ .pass) (idle : s.gc.gate = .idle) :
    s.takeEntry e = { s with gc := { s.gc with gate := .busy e } } := by simp only [State.takeEntry, if_neg h, if_pos idle]

theorem takeEntry_busy {d : Entry} (h : e.action ≠ .pass) (busy : s.gc.gate = .busy d) : s.takeEntry e = s.lapse e := by
  have idle : ¬s.gc.gate = .idle := by simp [busy]
  simp only [State.takeEntry, if_neg h, if_neg idle]

/-- R12: a PASS of the carrier behind one older entry, which lapses; the lapse leaves the queue alone. -/
theorem gateArrival_second {n : Byte} {e₂ : Entry} (low : n.toNat < 240) (h : s.gc.queue = e :: e₂ :: q)
    (other : e.carrier ≠ n.toNat) (carrier : e₂.carrier = n.toNat) (pass : e₂.action = .pass)
    (kept : ((s.withQueue (e₂ :: q)).undoEntry e).gc = (s.withQueue (e₂ :: q)).gc) :
    exec (.gateArrival n) s = .next { (s.withQueue (e₂ :: q)).undoEntry e with
      gc := { s.gc with queue := q, lapsed := count s.gc.lapsed } } := by
  have place : s.matchPlace n.toNat = some 1 := by
    simp [State.matchPlace, low, h, List.findIdx?_cons, carrier, other]
  have lapsed : s.lapseOldest = { (s.withQueue (e₂ :: q)).undoEntry e with
      gc := { s.gc with queue := e₂ :: q, lapsed := count s.gc.lapsed } } := by
    have one : s.lapseOldest = (s.withQueue (e₂ :: q)).lapse e := by
      simp only [State.lapseOldest, h]
      rfl
    rw [one]
    unfold State.lapse
    dsimp only
    rw [kept]
    rfl
  change execGateArrival n s = _
  simp only [execGateArrival, place, State.lapseOldestN, State.takeOldest, lapsed, takeEntry_pass pass]

theorem lapse_bare (action : e.action = .pass ∨ e.action = .reject ∨ e.action = .fill) (target : e.target = none) :
    s.lapse e = { s with gc := { s.gc with lapsed := count s.gc.lapsed } } := by
  unfold State.lapse
  rw [undoEntry_bare action target]

end Sys2Proof.Machine

open Sys2Proof Sys2Proof.Machine

/-- Settles O25: by the place of the carrier's oldest entry, its action, and what an older entry held. -/
theorem gateArrivalTakesEntry : Obligations.GateArrivalTakesEntry := by
  refine ⟨fun s n => gateArrival_unmatched, ?_, ?_, ?_, ?_, ?_, ?_⟩
  · intro s n e q low h carrier pass
    rw [gateArrival_oldest low h carrier, takeEntry_pass pass]
    rfl
  · intro s n e q low h carrier act idle
    rw [gateArrival_oldest low h carrier, takeEntry_idle (s := s.withQueue q) act idle]
    rfl
  · intro s n e d q low h carrier action target busy
    have act : e.action ≠ .pass := by rintro p; simp [p] at action
    rw [gateArrival_oldest low h carrier, takeEntry_busy (s := s.withQueue q) act busy, lapse_bare (.inr action) target]
    rfl
  · intro s n e e₂ q low h other carrier pass action target
    have bare := undoEntry_bare (s := s.withQueue (e₂ :: q)) action target
    rw [gateArrival_second low h other carrier pass (by rw [bare]), bare]
    rfl
  · intro s n e e₂ q g r c low h other carrier pass action target record filling page sound
    have div := withQueue_diverting (diverting_of_bin action target record page) (e₂ :: q)
    exact ⟨_, gateArrival_second low h other carrier pass ((undoEntry_filling_frame div filling).gc (by decide)),
      findSet_undoEntry_filling div filling, (undoEntry_courses _ (diverting_isOf div)).1, rfl⟩
  · intro s n e e₂ q g r k low h other carrier pass action target record filling page pocket sound
    have div := withQueue_diverting (diverting_of_rack action target record page) (e₂ :: q)
    obtain ⟨free, place⟩ := undoEntry_pocket_filling div action pocket filling
    exact ⟨_, gateArrival_second low h other carrier pass ((undoEntry_filling_frame div filling).gc (by decide)),
      findSet_undoEntry_filling div filling, (undoEntry_courses _ (diverting_isOf div)).1, rfl, free, place⟩

namespace Sys2Proof.Machine

/-! ## The gate's completions (R16) -/

variable {s : State} {e : Entry} {g : PageRef} {r : SetRecord}

/-- The gate IDLE, its operation over. -/
def State.gateIdle (s : State) : State := { s with gc := { s.gc with gate := .idle } }

theorem gateIdle_diverting (h : s.diverting e g r) : s.gateIdle.diverting e g r := ⟨h.action, h.target, h.record, h.inbound⟩

theorem divertFailed_eq (busy : s.gc.gate = .busy e) (other : e.action ≠ .fill) :
    exec .divertFailed s = .next (s.gateIdle.undoEntry e) := next_congr (gateCompletion_undone busy other (.inl rfl))

theorem diverting_not_fill (h : s.diverting e g r) : e.action ≠ .fill := by
  obtain ⟨b, a⟩ | ⟨k, a⟩ := h.action <;> simp [a]

/-- R15: a diversion whose carrier arrives at a BUSY gate lapses. -/
theorem gateArrival_lapses {n : Byte} {d : Entry} {q : List Entry} (low : n.toNat < 240) (h : s.gc.queue = e :: q)
    (carrier : e.carrier = n.toNat) (act : e.action ≠ .pass) (busy : s.gc.gate = .busy d) :
    exec (.gateArrival n) s = .next ((s.withQueue q).lapse e) := by
  rw [gateArrival_oldest low h carrier, takeEntry_busy (s := s.withQueue q) act busy]

theorem diverting_not_pass (h : s.diverting e g r) : e.action ≠ .pass := by
  obtain ⟨b, a⟩ | ⟨k, a⟩ := h.action <;> simp [a]

/-- R13: the gate after the lapse of a diversion of a CLAIMING or COLLECTING set. -/
theorem lapse_gc_filling (h : s.diverting e g r) (filling : r.state = .claiming ∨ r.state = .collecting) :
    (s.lapse e).gc = { s.gc with lapsed := count s.gc.lapsed } := by
  have gc := (undoEntry_filling_frame h filling).gc (by decide)
  unfold State.lapse
  dsimp only
  rw [gc]

end Sys2Proof.Machine

/-- Settles O26: a lapse and a failure undo the entry alike; for a set being filled the release test is all that follows. -/
theorem diversionsUndone : Obligations.DiversionsUndone := by
  refine ⟨?_, ?_, ?_, ?_, ?_, ?_, ?_⟩
  · intro s n e d q g r c low h carrier action target busy record filling page sound
    have div := withQueue_diverting (diverting_of_bin action target record page) q
    exact ⟨_, gateArrival_lapses low h carrier (diverting_not_pass div) busy, findSet_undoEntry_filling div filling,
      lapse_gc_filling div filling⟩
  · intro s n e d q g r k low h carrier action target busy record filling page pocket sound
    have div := withQueue_diverting (diverting_of_rack action target record page) q
    obtain ⟨free, place⟩ := undoEntry_pocket_filling div action pocket filling
    exact ⟨_, gateArrival_lapses low h carrier (diverting_not_pass div) busy, findSet_undoEntry_filling div filling,
      lapse_gc_filling div filling, free, place⟩
  · intro s e g r c busy action target record filling page sound
    have div := gateIdle_diverting (diverting_of_bin action target record page)
    exact ⟨_, divertFailed_eq busy (diverting_not_fill div), findSet_undoEntry_filling div filling,
      (undoEntry_filling_frame div filling).gc (by decide)⟩
  · intro s e g r k busy action target record filling page pocket sound
    have div := gateIdle_diverting (diverting_of_rack action target record page)
    obtain ⟨free, place⟩ := undoEntry_pocket_filling div action pocket filling
    exact ⟨_, divertFailed_eq busy (diverting_not_fill div), findSet_undoEntry_filling div filling,
      (undoEntry_filling_frame div filling).gc (by decide), free, place⟩
  · intro s e g r c busy action target record ending page sound
    have div := gateIdle_diverting (diverting_of_bin action target record page)
    have gate := (undoEntry_steady s.gateIdle e).gate
    exact ⟨_, divertFailed_eq busy (diverting_not_fill div), fun q => findSet_undoEntry div, gate.gate, by rw [gate.1]; rfl⟩
  · intro s e g r k busy action target record ending page pocket sound
    have div := gateIdle_diverting (diverting_of_rack action target record page)
    have gate := (undoEntry_steady s.gateIdle e).gate
    exact ⟨_, divertFailed_eq busy (diverting_not_fill div), fun q => findSet_undoEntry div, gate.gate, by rw [gate.1]; rfl,
      undoEntry_pocket div action pocket⟩
  · intro s e busy action target
    rw [divertFailed_eq busy (by simp [action]), undoEntry_bare (.inr (.inl action)) target]
    rfl

namespace Sys2Proof.Machine

/-! ### A page placed in the bin (R43, R49, R51) -/

variable {s : State}

/-- R43: the state in which the page of a BIN operation has just been PLACED. -/
theorem findSet_placed {r : SetRecord} {i : SetId} (p : Nat) (h : s.findSet i = some r) :
    ((s.setPage i p .placed).progress i).findSet i = some (r.setStatus p .placed).progressed :=
  findSet_progress_same (findSet_setPage_same p .placed h)

theorem placed_frame (s : State) (i : SetId) (p : Nat) :
    s.sameBut [.co, .dc, .lc] ((s.setPage i p .placed).progress i) :=
  sameBut_trans (setPage_frame s i p .placed) (progress_frame _ i)

/-- R47: the release test releases no PLACED page. -/
theorem findSet_releaseTest_placed {i : SetId} {r : SetRecord} {p : Nat} (h : s.findSet i = some r)
    (placed : r.status p = .placed) :
    ∃ v, (s.releaseTest i).findSet i = some v ∧ v.status p = .placed ∧ v.state = r.state ∧ v.bin = r.bin
      ∧ v.attempts = r.attempts ∧ v.countdown = r.countdown ∧ v.stranded = r.stranded := by
  obtain ⟨v, hv, rfl | ⟨q, k, held, rfl⟩⟩ := findSet_releaseTest s h
  · exact ⟨_, hv, placed, rfl, rfl, rfl, rfl, rfl⟩
  · have other : q ≠ p := by
      rintro rfl
      rw [placed] at held
      cases held
    exact ⟨_, hv, (status_setStatus_other r _ other).trans placed, rfl, rfl, rfl, rfl, rfl⟩

/-- R49, R51: with a page PLACED, the completion test of a set being filled or finished leaves it, or makes it COMPLETE. -/
theorem completionTest_placed {i : SetId} {r : SetRecord} {p : Nat} (h : s.findSet i = some r)
    (placed : r.status p = .placed) :
    s.completionTest i = s ∨ ∃ x, s.completionTest i = s.completeSet r x := by
  unfold State.completionTest
  rw [h]
  dsimp only
  split
  · split
    · exact .inr ⟨_, rfl⟩
    · exact .inl rfl
  · split
    · exact .inl rfl
    · rw [if_neg (placedCount_ne_zero placed)]
      exact .inr ⟨_, rfl⟩
  · exact .inl rfl

/-- R43, R47, R49, R51: the record of a set being filled or finished, after the tests that follow a page PLACED. -/
theorem afterChange_placed {i : SetId} {r : SetRecord} {p : Nat} (h : s.findSet i = some r) (placed : r.status p = .placed)
    (state : r.state = .claiming ∨ r.state = .collecting ∨ r.state = .finishing) :
    (∃ v, (s.afterChange i).findSet i = some v ∧ v.status p = .placed ∧ v.bin = r.bin ∧ v.attempts = r.attempts
      ∧ v.countdown = r.countdown ∧ v.stranded = r.stranded) ∧ (s.afterChange i).gc = s.gc := by
  have tests : s.afterChange i = (s.releaseTest i).completionTest i := by
    obtain e | e | e := state <;> simp only [State.afterChange, h, e]
  obtain ⟨v, hv, page, _, bin, attempts, countdown, stranded⟩ := findSet_releaseTest_placed h placed
  have gc := (releaseTest_frame s i).gc (by decide)
  rw [tests]
  obtain e | ⟨x, e⟩ := completionTest_placed hv page
  · rw [e]
    exact ⟨⟨v, hv, page, bin, attempts, countdown, stranded⟩, gc⟩
  · rw [e]
    exact ⟨⟨v.completed x, findSet_completeSet _ hv x, page, bin, attempts, countdown, stranded⟩,
      ((completeSet_frame _ v x).gc (by decide)).trans gc⟩

/-! ### Carriage requests (R98, R117, R118) -/

/-- A request queued, in flight or stuck stays so when requests are issued. -/
def State.carries (s t : State) : Prop := ∀ q ∈ s.carriageRequests, q ∈ t.carriageRequests

theorem mem_carriageRequests {q : CarriageRequest} :
    q ∈ s.carriageRequests ↔ s.carriageInFlight = some q ∨ q ∈ s.sc.carriageQueue := by
  simp [State.carriageRequests]

theorem unloadPending_iff {i : SetId} :
    s.unloadPending i = true ↔ ∃ q ∈ s.carriageRequests, q.isUnload = true ∧ q.id = i := by
  simp only [State.unloadPending, mem_carriageRequests, Bool.or_eq_true, List.any_eq_true, Bool.and_eq_true, beq_iff_eq]
  constructor
  · rintro (⟨q, hq, h⟩ | h)
    · exact ⟨q, .inr hq, h⟩
    · split at h
      · rename_i q hq
        exact ⟨q, .inl hq, by simpa using h⟩
      · cases h
  · rintro ⟨q, hq | hq, h⟩
    · exact .inr (by simp [hq, h])
    · exact .inl ⟨q, hq, h⟩

theorem carries_of_sc {s t : State} (h : t.sc = s.sc) : s.carries t := by
  intro q hq
  simpa only [State.carriageRequests, State.carriageInFlight, h] using hq

theorem State.carries.trans {s t u : State} (h : s.carries t) (k : t.carries u) : s.carries u := fun q hq => k q (h q hq)

theorem setJaw_carries (s : State) (j : JawName) (x : JawState) : s.carries (s.setJaw j x) := by
  cases j <;> exact fun _ h => h

theorem carriageIssue_carries (s : State) : s.carries s.carriageIssue := by
  have started : ∀ (q : CarriageRequest) (rest : List CarriageRequest) (x : Option JawName) (t : State),
      s.sc.carriage = .idle → s.sc.carriageQueue = q :: rest → t.sc.carriage = .busy q x → t.sc.carriageQueue = rest →
      s.carries t := by
    intro q rest x t idle queue busy left p hp
    rw [mem_carriageRequests] at hp ⊢
    simp only [State.carriageInFlight, idle, queue, List.mem_cons] at hp
    simp only [State.carriageInFlight, busy, left, Option.some.injEq]
    obtain hp | rfl | hp := hp
    · cases hp
    · exact .inl rfl
    · exact .inr hp
  unfold State.carriageIssue
  split
  · rename_i idle
    split
    · exact fun _ h => h
    · rename_i id b rest queue
      split
      · exact fun _ h => h
      · split
        · exact (started _ rest _ _ idle queue rfl rfl).trans (setJaw_carries _ _ _)
        · exact fun _ h => h
    · rename_i id b m rest queue
      split
      · exact started _ rest _ _ idle queue rfl rfl
      · exact fun _ h => h
  · exact fun _ h => h

theorem startTest_carries (s : State) : s.carries s.startTest := by
  unfold State.startTest
  dsimp only
  split
  · exact carriageIssue_carries s
  · exact (carriageIssue_carries s).trans (carries_of_sc ((arbiterIssue_frame _).sc (by decide)))

theorem queueCarriage_carries (s : State) (d : CarriageRequest) :
    s.carries (s.queueCarriage d) ∧ d ∈ (s.queueCarriage d).carriageRequests := by
  have queued : s.carries { s with sc := { s.sc with carriageQueue := s.sc.carriageQueue ++ [d] } } := by
    intro q hq
    rw [mem_carriageRequests] at hq ⊢
    exact hq.imp id fun h => List.mem_append_left _ h
  have there : d ∈ ({ s with sc := { s.sc with carriageQueue := s.sc.carriageQueue ++ [d] } } : State).carriageRequests :=
    mem_carriageRequests.mpr (.inr (by simp))
  unfold State.queueCarriage
  dsimp only
  split
  · exact ⟨queued.trans (startTest_carries _), startTest_carries _ _ there⟩
  · exact ⟨queued, there⟩

/-- R98: an unload test that finds a PLACED page, and nothing on its way to the bin, leaves the UNLOAD queued or in flight. -/
theorem unloadTest_pending {i : SetId} {r : SetRecord} {b : Nat} (h : s.findSet i = some r) (state : r.state = .surrendering)
    (bin : r.bin = some b) (placed : r.placedCount ≠ 0) (inbound : r.anyPage PageStatus.inboundBinP = false)
    (release : s.binReleaseInFlight i = false) : (s.unloadTest i).unloadPending i = true := by
  have id := findSet_id h
  subst id
  unfold State.unloadTest
  rw [h]
  dsimp only
  rw [bin]
  dsimp only
  split
  · rw [unloadPending_iff]
    exact ⟨_, (queueCarriage_carries s _).2, rfl, rfl⟩
  · rename_i n
    simpa [State.unloadSettled, state, bin, inbound, release] using n

/-- R98: with a PLACED page the bin is not given up by the unload test. -/
theorem unloadTest_placed_co {i : SetId} {r : SetRecord} (h : s.findSet i = some r) (placed : r.placedCount ≠ 0) :
    (s.unloadTest i).co = s.co := by
  unfold State.unloadTest
  rw [h]
  dsimp only
  split
  · rfl
  · split
    · exact queueCarriage_co s _
    · rfl

/-- R100: a record that holds a bin is not removed. -/
theorem removalTest_binned {i : SetId} {r : SetRecord} (h : s.findSet i = some r) (bin : r.bin ≠ none) :
    s.removalTest i = s := by
  unfold State.removalTest
  rw [h]
  exact if_neg (by simp [State.removable, bin])

/-! ### The sheet of a RACK diversion (R58, R60, R67) -/

theorem diverted_eq {e : Entry} (busy : s.gc.gate = .busy e) (other : e.action ≠ .fill) :
    exec .diverted s = .next (s.gateIdle.gateDone e) := next_congr (gateCompletion_done busy (isFill_ne other))

/-- R60: an IDLE rack stores the oldest sheet of the inlet. -/
theorem arbiter_stores {x : InletSheet} {l : List InletSheet} (idle : s.hr.rack = .idle) (inlet : s.hr.inlet = x :: l) :
    s.arbiter = { s with hr := { s.hr with rack := .busy (.store x) } } := by
  have issue : s.arbiterIssue = { s with hr := { s.hr with rack := .busy (.store x) } } := by
    simp only [State.arbiterIssue, if_pos idle, inlet]
  simp only [State.arbiter, issue, if_true]

/-- R43, R44: a BIN diversion completed for a record that still exists. -/
theorem binDiverted_held {g : PageRef} {r : SetRecord} {c : Nat} (h : s.recordOf g = some r) (bin : r.bin = some c) :
    s.binDiverted c g = ((s.setPage g.id g.page .placed).progress g.id).afterChange g.id := by
  simp only [State.binDiverted, h, bin, if_true]

theorem binDiverted_dropped {g : PageRef} {r : SetRecord} {c : Nat} (h : s.recordOf g = some r) (bin : r.bin ≠ some c) :
    s.binDiverted c g = (s.setPage g.id g.page .absent).afterChange g.id := by
  simp only [State.binDiverted, h, if_neg bin]

theorem diverted_bin {e : Entry} {g : PageRef} {c : Nat} (busy : s.gc.gate = .busy e) (action : e.action = .bin c)
    (target : e.target = some g) : exec .diverted s = .next (s.gateIdle.binDiverted c g) := by
  rw [diverted_eq busy (by simp [action])]
  simp only [State.gateDone, action, target]

theorem diverted_rack {e : Entry} {k : Nat} (busy : s.gc.gate = .busy e) (action : e.action = .rack k) :
    exec .diverted s = .next (s.gateIdle.rackDiverted k) := by
  rw [diverted_eq busy (by simp [action])]
  simp only [State.gateDone, action]

/-- R43: the page of the record in the bin. -/
theorem status_placed {r : SetRecord} {p : Nat} (page : r.status p = .inboundBin) :
    (r.setStatus p .placed).progressed.status p = .placed := status_setStatus_same (r := r) _ (by simp [page])

/-- R43, R98, R100: the record of a SURRENDERING set that still holds its bin, after its page is PLACED. -/
theorem afterChange_surrendering_placed {i : SetId} {r : SetRecord} {p c : Nat} (h : s.findSet i = some r)
    (state : r.state = .surrendering) (bin : r.bin = some c) (placed : r.status p = .placed) :
    s.afterChange i = s.unloadTest i ∧ (s.unloadTest i).findSet i = some r := by
  have co := unloadTest_placed_co h (placedCount_ne_zero placed)
  have there : (s.unloadTest i).findSet i = some r := (findSet_of_co co i).trans h
  have tests : s.afterChange i = (s.unloadTest i).removalTest i := by simp only [State.afterChange, h, state]
  exact ⟨tests.trans (removalTest_binned there (by simp [bin])), there⟩

theorem noInbound_iff {r : SetRecord} :
    r.anyPage PageStatus.inboundBinP = false ↔ ∀ p ∈ numbers r.map.length, r.status p ≠ .inboundBin := by
  rw [← Bool.not_eq_true, anyPage_iff]
  push Not
  refine forall₂_congr fun p _ => ?_
  cases r.status p <;> simp [PageStatus.inboundBinP]

/-- R47: with every page PLACED nothing is released. -/
theorem releaseTest_allPlaced {i : SetId} {r : SetRecord} (h : s.findSet i = some r)
    (all : ∀ p ∈ numbers r.map.length, r.status p = .placed) : s.releaseTest i = s := by
  obtain e | ⟨p, k, d, held, _⟩ := releaseTest_record s h
  · exact e
  · obtain ⟨low, high⟩ := page_in_map (r := r) (p := p) (by simp [held])
    have := all p (mem_numbers.mpr ⟨low, high⟩)
    rw [held] at this
    cases this

/-- R49: a COLLECTING set with every page PLACED is COMPLETE, and its TRANSFER queued. -/
theorem afterChange_completes {i : SetId} {r : SetRecord} (h : s.findSet i = some r) (state : r.state = .collecting)
    (all : ∀ p ∈ numbers r.map.length, r.status p = .placed) : s.afterChange i = s.completeSet r false := by
  have tests : s.afterChange i = (s.releaseTest i).completionTest i := by simp only [State.afterChange, h, state]
  rw [tests, releaseTest_allPlaced h all]
  simp only [State.completionTest, h, state, if_pos (allPlaced_iff.mpr all)]

/-- R117, R118: a request queued while the carriage is not IDLE waits. -/
theorem queueCarriage_of_busy (d : CarriageRequest) (h : s.sc.carriage ≠ .idle) :
    s.queueCarriage d = { s with sc := { s.sc with carriageQueue := s.sc.carriageQueue ++ [d] } } := by
  unfold State.queueCarriage
  dsimp only
  split
  · exact startTest_of_busy (by exact h)
  · rfl

/-- R49, R117: the TRANSFER of a set that becomes COMPLETE waits while the carriage is not IDLE. -/
theorem completeSet_queue {r : SetRecord} (x : Bool) (h : s.sc.carriage ≠ .idle) :
    (s.completeSet r x).sc.carriageQueue = s.sc.carriageQueue ++ [.transfer r.id (r.bin.getD 0)] := by
  have sc : (s.putSet (r.completed x)).sc = s.sc := (putSet_frame _ _).sc (by decide)
  change ((s.putSet (r.completed x)).queueCarriage (.transfer r.id (r.bin.getD 0))).sc.carriageQueue = _
  rw [queueCarriage_of_busy _ (by rw [sc]; exact h)]
  dsimp only
  rw [sc]

theorem binReleaseInFlight_congr {s t : State} (h : t.hr = s.hr) (i : SetId) :
    t.binReleaseInFlight i = s.binReleaseInFlight i := by
  unfold State.binReleaseInFlight
  rw [h]

end Sys2Proof.Machine

/-- Settles O27, by the kind of the diversion, the state of its record and whether the record still holds the bin. -/
theorem divertedEnds : Obligations.DivertedEnds := by
  refine ⟨?_, ?_, ?_, ?_, ?_, ?_, ?_, ?_, ?_⟩
  · intro s e busy action
    rw [diverted_eq busy (by simp [action])]
    simp only [State.gateDone, action]
    rfl
  · intro s e g r c busy action target record state bin page sound
    have there := findSet_placed (s := s.gateIdle) g.page ((recordOf_eq_some s).mp record).1
    obtain ⟨⟨v, hv, placed, hb, ha, hc, hs⟩, gc⟩ := afterChange_placed there (status_placed page) state
    refine ⟨_, (diverted_bin busy action target).trans (next_congr (binDiverted_held (s := s.gateIdle) record bin)),
      ⟨v, hv, placed, hb.trans bin, ha, hc, hs⟩, gc.trans ((placed_frame _ _ _).gc (by decide))⟩
  · intro s e g r c busy action target record filling bin page sound
    have div := gateIdle_diverting (diverting_of_bin action target record page)
    have undone := undoEntry_eq div
    rw [undoAction_bin_eq div action] at undone
    refine ⟨_, (diverted_bin busy action target).trans (next_congr (binDiverted_dropped (s := s.gateIdle) record bin)), ?_⟩
    rw [← undone]
    exact ⟨findSet_undoEntry_filling div filling, (undoEntry_filling_frame div filling).gc (by decide)⟩
  · intro s e g r c busy action target record state bin page sound
    have there := findSet_placed (s := s.gateIdle) g.page ((recordOf_eq_some s).mp record).1
    have placed := status_placed page
    obtain ⟨tests, after⟩ := afterChange_surrendering_placed (c := c) there state bin placed
    have frame := placed_frame s.gateIdle g.id g.page
    refine ⟨_, (diverted_bin busy action target).trans (next_congr (binDiverted_held (s := s.gateIdle) record bin)), ?_, ?_⟩
    · rw [tests]
      refine ⟨_, after, state, placed, bin, fun others quiet => ?_⟩
      refine unloadTest_pending (b := c) there state bin (placedCount_ne_zero placed) (noInbound_iff.mpr others) ?_
      exact (binReleaseInFlight_congr (frame.hr (by decide)) _).trans quiet
    · rw [tests]
      exact ((unloadTest_frame _ _).gc (by decide)).trans (frame.gc (by decide))
  · intro s e g r c busy action target record state bin page sound
    have there : (s.gateIdle.setPage g.id g.page .absent).findSet g.id = some (r.setStatus g.page .absent) :=
      findSet_setPage_same (s := s.gateIdle) _ _ ((recordOf_eq_some s).mp record).1
    have tests : (s.gateIdle.setPage g.id g.page .absent).afterChange g.id
        = ((s.gateIdle.setPage g.id g.page .absent).unloadTest g.id).removalTest g.id := by
      simp only [State.afterChange, there, setStatus_state, state]
    refine ⟨_, (diverted_bin busy action target).trans (next_congr (binDiverted_dropped (s := s.gateIdle) record bin)), ?_, ?_⟩
    · intro q hq
      obtain ⟨v, hv, course⟩ := (afterChange_courses _ g.id).2 q hq
      rw [there] at hv
      cases hv
      refine ⟨?_, course.absent (status_setStatus_absent r _)⟩
      obtain e | e | ⟨_, was⟩ := course.state
      · exact e.trans state
      · exact e
      · simp [state] at was
    · rw [tests, (removalTest_frame _ _).gc (by decide), (unloadTest_frame _ _).gc (by decide),
        (setPage_frame _ _ _ _).gc (by decide)]
      rfl
  · intro s e g r c busy action target record state bin page others carriage sound
    have found := ((recordOf_eq_some s).mp record).1
    have there := findSet_placed (s := s.gateIdle) g.page found
    have frame := placed_frame s.gateIdle g.id g.page
    have all : ∀ p ∈ numbers (r.setStatus g.page .placed).progressed.map.length,
        (r.setStatus g.page .placed).progressed.status p = .placed := by
      intro p hp
      have len : (r.setStatus g.page .placed).map.length = r.map.length := length_set1 _ _ _
      by_cases same : p = g.page
      · rw [same]; exact status_placed page
      · exact (status_setStatus_other r _ (Ne.symm same)).trans (others p (by rw [← len]; exact hp) same)
    have done := afterChange_completes there state all
    have sc : ((s.gateIdle.setPage g.id g.page .placed).progress g.id).sc = s.sc := frame.sc (by decide)
    refine ⟨_, (diverted_bin busy action target).trans (next_congr ((binDiverted_held (s := s.gateIdle) record bin).trans done)),
      ⟨_, findSet_completeSet _ there false, rfl⟩, ?_⟩
    rw [completeSet_queue _ (by rw [sc]; exact carriage), sc]
    have id : (r.setStatus g.page .placed).progressed.id = g.id := findSet_id there
    have bin' : (r.setStatus g.page .placed).progressed.bin = some c := bin
    rw [id, bin', Option.getD_some]
  · intro s e k i p busy action service rack pocket
    rw [diverted_rack busy action]
    have inService : s.gateIdle.rackInService = true := bne_iff_ne.mpr service
    have pocket' : nth1 s.gateIdle.hr.pockets k = some (.reserved i p) := pocket
    simp only [State.rackDiverted, if_pos inService, pocket']
    exact next_congr (arbiter_of_busy (by exact rack))
  · intro s e k i p busy action idle inlet pocket
    rw [diverted_rack busy action]
    have inService : s.gateIdle.rackInService = true := bne_iff_ne.mpr (show s.hr.rack ≠ .outOfService by simp [idle])
    have pocket' : nth1 s.gateIdle.hr.pockets k = some (.reserved i p) := pocket
    have inlet' : s.gateIdle.hr.inlet = [] := inlet
    simp only [State.rackDiverted, if_pos inService, pocket', inlet', List.nil_append]
    exact next_congr (arbiter_stores (by exact idle) rfl)
  · intro s e k busy action out
    rw [diverted_rack busy action]
    have outOfService : ¬s.gateIdle.rackInService = true := by simp [State.rackInService, State.gateIdle, out]
    simp only [State.rackDiverted, if_neg outOfService]
    rfl

end

section
/-! ## The rack fault (R48, R66, R67)

Once the rack is out of service with its pockets released and every rack page ABSENT, nothing of what follows touches it again:
`State.rackless` is what holds then, and `State.rackRests` says that an operation keeps it and the rack. -/

namespace Sys2Proof.Machine

/-- No page of the record is in the rack's share. -/
def SetRecord.shareless (r : SetRecord) : Prop := ∀ m ∈ r.map, m.inShare = false

/-- R67, R48: the rack is out of service with no pocket reserved and no release queued, and no record has a page in it. -/
structure State.rackless (s : State) : Prop where
  service : s.hr.rack = .outOfService
  pockets : ∀ k i p, nth1 s.hr.pockets k ≠ some (.reserved i p)
  releases : s.hr.releases = []
  pages : ∀ r ∈ s.co.sets, r.shareless

/-- The operation leaves a rack out of service, and the records without rack pages, as they are. -/
def State.rackRests (s t : State) : Prop := s.rackless → t.rackless ∧ t.hr = s.hr

variable {s t u : State}

theorem State.rackRests.refl (s : State) : s.rackRests s := fun h => ⟨h, rfl⟩

theorem State.rackRests.trans (h : s.rackRests t) (k : t.rackRests u) : s.rackRests u := fun a =>
  have ⟨b, e⟩ := h a
  have ⟨c, f⟩ := k b
  ⟨c, f.trans e⟩

theorem rackRests_foldl {α : Type} (f : State → α → State) (h : ∀ t x, State.rackRests t (f t x)) :
    ∀ (xs : List α) (s : State), s.rackRests (xs.foldl f s)
  | [], s => .refl s
  | x :: xs, s => (h s x).trans (rackRests_foldl f h xs (f s x))

/-- An operation that leaves the rack alone and brings no record but ones without rack pages. -/
theorem rackRests_of (hr : s.rackless → t.hr = s.hr)
    (sets : s.rackless → ∀ r ∈ t.co.sets, r ∈ s.co.sets ∨ r.shareless) : s.rackRests t := fun a =>
  have e := hr a
  ⟨⟨by rw [e, a.service], fun k => by rw [e]; exact a.pockets k, by rw [e, a.releases],
    fun r m => (sets a r m).elim (a.pages r) id⟩, e⟩

theorem rackRests_of_same (hr : t.hr = s.hr) (co : t.co.sets = s.co.sets) : s.rackRests t :=
  rackRests_of (fun _ => hr) fun _ _ m => .inl (co ▸ m)

theorem findSet_mem {i : SetId} {r : SetRecord} (h : s.findSet i = some r) : r ∈ s.co.sets := List.mem_of_find?_eq_some h

/-- A page in the share is a page in the rack. -/
theorem shareless_held {r : SetRecord} (h : r.shareless) (p k : Nat) : r.status p ≠ .held k := by
  intro held
  obtain ⟨low, high⟩ := page_in_map (r := r) (p := p) (by simp [held])
  have := h _ (mem_map_iff.mpr ⟨p, mem_numbers.mpr ⟨low, high⟩, held⟩)
  cases this

variable (s)

theorem putSet_sets (r : SetRecord) {q : SetRecord} (h : q ∈ (s.putSet r).co.sets) : q ∈ s.co.sets ∨ q = r := by
  unfold State.putSet at h
  split at h
  · exact .inl h
  · rw [tell_sets] at h
    obtain ⟨x, hx, rfl⟩ := List.mem_map.mp h
    split
    · exact .inr rfl
    · exact .inl hx

theorem putSet_hr (r : SetRecord) : (s.putSet r).hr = s.hr := (putSet_frame s r).hr (by decide)

theorem putSet_rests {r : SetRecord} (h : s.rackless → r.shareless) : s.rackRests (s.putSet r) :=
  rackRests_of (fun _ => putSet_hr s r) fun a _ m => (putSet_sets s r m).imp id fun e => by rw [e]; exact h a

variable {s}

/-- A record rewritten without a change to its pages. -/
theorem putSet_rests_map {i : SetId} {r v : SetRecord} (h : s.findSet i = some r) (map : v.map = r.map) :
    s.rackRests (s.putSet v) :=
  putSet_rests s fun a m hm => a.pages r (findSet_mem h) m (map ▸ hm)

variable (s)

theorem setAbsent_rests (i : SetId) (p : Nat) : s.rackRests (s.setPage i p .absent) := by
  unfold State.setPage State.updSet
  split
  · exact .refl s
  · rename_i r h
    refine putSet_rests s fun a m hm => ?_
    have : m ∈ r.map ∨ m = .absent := by
      revert hm
      change m ∈ set1 r.map p .absent → _
      cases p with
      | zero => exact .inl
      | succ k => exact List.mem_or_eq_of_mem_set
    obtain hm | rfl := this
    · exact a.pages r (findSet_mem h) m hm
    · rfl

theorem startTest_rests : s.rackRests s.startTest :=
  rackRests_of (fun a => by
    unfold State.startTest
    dsimp only
    have out : s.carriageIssue.hr.rack = .outOfService := by rw [carriageIssue_hr, a.service]
    rw [arbiterIssue_service _ out, ite_self, carriageIssue_hr])
    fun _ r m => .inl ((startTest_frame s).co (by decide) ▸ m)

theorem roomReport_rests : s.rackRests s.roomReport :=
  State.rackRests.trans (fun a => by rw [arbiter_service s a.service]; exact ⟨a, rfl⟩) (startTest_rests _)

theorem queueCarriage_rests (d : CarriageRequest) : s.rackRests (s.queueCarriage d) := by
  have queued : s.rackRests { s with sc := { s.sc with carriageQueue := s.sc.carriageQueue ++ [d] } } :=
    rackRests_of_same rfl rfl
  unfold State.queueCarriage
  dsimp only
  split
  · exact queued.trans (startTest_rests _)
  · exact queued

theorem withdrawCarriage_rests (i : SetId) (x : Bool) : s.rackRests (s.withdrawCarriage i x) := by
  have left : ∀ l, s.rackRests { s with sc := { s.sc with carriageQueue := l } } := fun _ => rackRests_of_same rfl rfl
  unfold State.withdrawCarriage
  dsimp only
  split
  · exact (left _).trans (startTest_rests _)
  · exact left _

theorem freeBin_rests (b : Nat) : s.rackRests (s.freeBin b) := by
  unfold State.freeBin
  split
  · refine rackRests_of_same ((setBin_frame s b _).hr (by decide)) ?_
    rw [setBin_co]
  · exact .refl s

theorem removeSet_rests (i : SetId) : s.rackRests (s.removeSet i) := by
  refine rackRests_of (fun _ => (removeSet_frame s i).hr (by decide)) fun _ q m => .inl ?_
  cases h : s.findSet i with
  | none => simpa only [State.removeSet, h] using m
  | some r =>
    have id := findSet_id h
    subst id
    rw [removeSet_sets s h] at m
    exact List.mem_of_mem_filter m

theorem unloadTest_rests (i : SetId) : s.rackRests (s.unloadTest i) := by
  unfold State.unloadTest
  split
  · exact .refl s
  · rename_i r h
    split
    · exact .refl s
    · rename_i b _
      split
      · split
        · exact (freeBin_rests s b).trans
            (putSet_rests_map ((findSet_freeBin s b i).trans h) (v := { r with bin := none }) rfl)
        · exact queueCarriage_rests s _
      · exact .refl s

theorem removalTest_rests (i : SetId) : s.rackRests (s.removalTest i) := by
  unfold State.removalTest
  split
  · exact .refl s
  · split
    · exact removeSet_rests s i
    · exact .refl s

theorem undoPage_rests (g : PageRef) : s.rackRests (s.undoPage g) := by
  unfold State.undoPage
  split
  · exact .refl s
  · split
    · exact setAbsent_rests s _ _
    · exact .refl s

theorem undoReservation_rests (k : Nat) (i : SetId) (p : Nat) : s.rackRests (s.undoReservation k i p) := fun a => by
  rw [State.undoReservation, if_neg (a.pockets k i p)]
  exact ⟨a, rfl⟩

theorem undoAction_rests (e : Entry) : s.rackRests (s.undoAction e) := by
  unfold State.undoAction
  split
  · exact undoPage_rests s _
  · exact (undoPage_rests s _).trans (undoReservation_rests _ _ _ _)
  · exact .refl s

theorem rewriteSet_rests (i : SetId) : s.rackRests (s.rewriteSet i) :=
  (rackRests_foldl State.undoAction undoAction_rests _ s).trans (rackRests_of_same rfl rfl)

theorem redirect_rests (i : SetId) : s.rackRests (s.redirect i) := fun a => by
  have same : (s.redirect i).hr = s.hr := by
    unfold State.redirect
    dsimp only
    rw [a.releases, List.map_nil, ← a.releases]
  exact ⟨⟨by rw [same, a.service], fun k => by rw [same]; exact a.pockets k, by rw [same, a.releases], a.pages⟩, same⟩

theorem releaseToFeeder_rests (i : SetId) (p : Nat) : s.rackRests (s.releaseToFeeder i p) := fun a => by
  have same : s.releaseToFeeder i p = s := by
    unfold State.releaseToFeeder
    split
    · rfl
    · rename_i r h
      split
      · exact absurd ‹_› (shareless_held (a.pages r (findSet_mem h)) p _)
      · rfl
  rw [same]
  exact ⟨a, rfl⟩

theorem releaseTest_rests (i : SetId) : s.rackRests (s.releaseTest i) := fun a => by
  have same : s.releaseTest i = s := by
    cases h : s.findSet i with
    | none => simp only [State.releaseTest, h]
    | some r =>
      obtain e | ⟨p, k, d, held, _⟩ := releaseTest_record s h
      · exact e
      · exact absurd held (shareless_held (a.pages r (findSet_mem h)) p k)
  rw [same]
  exact ⟨a, rfl⟩

theorem beginSurrender_rests {i : SetId} {r : SetRecord} (h : s.findSet i = some r) : s.rackRests (s.beginSurrender r) := by
  have claimless : s.rackRests (s.claimless r) := by
    refine rackRests_of_same ?_ (by rw [claimless_co])
    unfold State.claimless
    split
    · exact (withdrawClaim_frame s _).hr (by decide)
    · rfl
  have there : (s.claimless r).findSet i = some r := (findSet_of_co (claimless_co s r) i).trans h
  have counted : s.rackRests ((s.claimless r).putSet r.surrendered).countSurrender :=
    (claimless.trans (putSet_rests_map there (v := r.surrendered) rfl)).trans (rackRests_of_same rfl rfl)
  rw [beginSurrender_eq]
  split
  · exact counted.trans (withdrawCarriage_rests _ _ _)
  · exact counted

theorem endSurrender_rests (r : SetRecord) (y : Option YieldReason) : s.rackRests (s.endSurrender r y) := by
  refine .trans ?_ (removalTest_rests _ _)
  refine .trans ?_ (unloadTest_rests _ _)
  refine .trans ?_ (rackRests_foldl _ (fun t p => releaseToFeeder_rests t r.id p) _ _)
  refine .trans (.trans ?_ (rewriteSet_rests _ _)) (redirect_rests _ _)
  split
  · split
    · exact .refl s
    · exact rackRests_of_same ((dueYield_frame _ _ _).hr (by decide)) (by rw [dueYield_co])
  · exact .refl s

theorem surrender_rests (i : SetId) (y : Option YieldReason) : s.rackRests (s.surrender i y) := by
  unfold State.surrender
  split
  · exact .refl s
  · exact (beginSurrender_rests s ‹_›).trans (endSurrender_rests _ _ y)

theorem completeSet_rests {i : SetId} {r : SetRecord} (h : s.findSet i = some r) (x : Bool) : s.rackRests (s.completeSet r x) :=
  (putSet_rests_map h (v := r.completed x) rfl).trans (queueCarriage_rests _ _)

theorem completionTest_rests (i : SetId) : s.rackRests (s.completionTest i) := by
  unfold State.completionTest
  split
  · exact .refl s
  · split
    · split
      · exact completeSet_rests s ‹_› _
      · exact .refl s
    · split
      · exact .refl s
      · split
        · exact surrender_rests s i _
        · exact completeSet_rests s ‹_› _
    · exact .refl s

theorem afterChange_rests (i : SetId) : s.rackRests (s.afterChange i) := by
  have filling := (releaseTest_rests s i).trans (completionTest_rests _ i)
  unfold State.afterChange
  split
  · exact .refl s
  · split
    · exact filling
    · exact filling
    · exact filling
    · exact (unloadTest_rests s i).trans (removalTest_rests _ i)
    · exact .refl s
    · exact .refl s
    · exact .refl s

theorem afterRackFault_rests (i : SetId) : s.rackRests (s.afterRackFault i) := by
  unfold State.afterRackFault
  split
  · exact .refl s
  · split
    · exact afterChange_rests s i
    · exact .refl s

theorem rewriteRack_rests : s.rackRests s.rewriteRack :=
  (rackRests_foldl State.undoAction undoAction_rests _ s).trans (rackRests_of_same rfl rfl)

/-! ### Every rack page lost (R48) -/

theorem rackLost_shareless (r : SetRecord) : r.rackLost.shareless := by
  intro m hm
  obtain ⟨x, _, rfl⟩ := List.mem_map.mp hm
  split
  · rfl
  · exact Bool.eq_false_iff.mpr ‹_›

theorem updSet_sets {i : SetId} {f : SetRecord → SetRecord} (keeps : ∀ r, (f r).id = r.id) {q : SetRecord}
    (h : q ∈ (s.updSet i f).co.sets) : (q ∈ s.co.sets ∧ q.id ≠ i) ∨ ∃ r ∈ s.co.sets, r.id = i ∧ q = f r := by
  unfold State.updSet at h
  split at h
  · rename_i none
    refine .inl ⟨h, fun e => ?_⟩
    simpa [e] using List.find?_eq_none.mp none q h
  · rename_i r hr
    have id := findSet_id hr
    unfold State.putSet at h
    rw [keeps, id, hr] at h
    dsimp only at h
    rw [tell_sets] at h
    obtain ⟨x, hx, rfl⟩ := List.mem_map.mp h
    split
    · exact .inr ⟨r, findSet_mem hr, id, rfl⟩
    · exact .inl ⟨hx, ‹_›⟩

/-- R48: the fold over the set table's sets reaches every record. -/
theorem rackLost_foldl : ∀ (ids : List SetId) (s : State), (∀ q ∈ s.co.sets, q.shareless ∨ q.id ∈ ids) →
    ∀ q ∈ (ids.foldl (fun (v : State) i => v.updSet i SetRecord.rackLost) s).co.sets, q.shareless
  | [], s, h => fun q hq => (h q hq).elim id nofun
  | i :: ids, s, h => by
    refine rackLost_foldl ids _ fun q hq => ?_
    obtain ⟨old, other⟩ | ⟨r, _, _, rfl⟩ := updSet_sets s (f := SetRecord.rackLost) (fun _ => rfl) hq
    · exact (h q old).imp id fun m => (List.mem_cons.mp m).resolve_left other
    · exact .inl (rackLost_shareless r)

theorem rackPagesLost_hr : s.rackPagesLost.hr = s.hr.faulted s.rackDiversionInFlight :=
  (sameBut_foldl (fun (t : State) i => t.updSet i SetRecord.rackLost) (fun t i => updSet_frame t i SetRecord.rackLost)
    (s.co.sets.map (fun (r : SetRecord) => r.id)) s.rackOut).hr (by decide)

theorem nth1_map_numbers {α : Type} (f : Nat → α) {n k : Nat} (low : 1 ≤ k) (high : k ≤ n) :
    nth1 ((numbers n).map f) k = some (f k) := by
  obtain ⟨j, rfl⟩ : ∃ j, k = j + 1 := ⟨k - 1, by omega⟩
  simp [nth1, numbers, show j < n by omega]

/-- R67: a pocket at a rack fault. -/
theorem nth1_faulted {h : Rack} {d : Bool} {k : Nat} {x : PocketState} (e : nth1 h.pockets k = some x) :
    nth1 (h.faulted d).pockets k = some (x.faulted (h.storePocket == some k)) := by
  obtain ⟨low, high⟩ := (nth1_isSome_iff h.pockets k).mp (by rw [e]; rfl)
  unfold Rack.faulted
  dsimp only
  rw [nth1_map_numbers _ low high, e, Option.getD_some]

theorem faulted_not_reserved (x : PocketState) (b : Bool) (i : SetId) (p : Nat) : x.faulted b ≠ .reserved i p := by
  cases x <;> cases b <;> simp [PocketState.faulted]

theorem rackPagesLost_rackless : s.rackPagesLost.rackless := by
  refine ⟨by rw [rackPagesLost_hr]; rfl, fun k i p => ?_, by rw [rackPagesLost_hr]; rfl, ?_⟩
  · rw [rackPagesLost_hr]
    intro e
    have inside := (nth1_isSome_iff _ _).mp (show (nth1 _ k).isSome = true by rw [e]; rfl)
    have len : (s.hr.faulted s.rackDiversionInFlight).pockets.length = s.hr.pockets.length := by simp [Rack.faulted]
    rw [len] at inside
    obtain ⟨x, hx⟩ := Option.isSome_iff_exists.mp ((nth1_isSome_iff s.hr.pockets k).mpr inside)
    rw [nth1_faulted hx] at e
    exact faulted_not_reserved _ _ i p (Option.some.inj e)
  · exact rackLost_foldl _ s.rackOut fun q hq => .inr (List.mem_map.mpr ⟨q, hq, rfl⟩)

/-- R67, R48: the rack fault leaves the rack as its own first step does, and no page in it. -/
theorem rackFault_rests : s.rackFault.rackless ∧ s.rackFault.hr = s.hr.faulted s.rackDiversionInFlight := by
  have tested : s.rackPagesLost.rackRests s.rackTested :=
    (rewriteRack_rests _).trans (rackRests_foldl State.afterRackFault afterRackFault_rests _ _)
  have fault : s.rackPagesLost.rackRests s.rackFault := by
    rw [rackFault_eq]
    split
    · exact tested.trans (roomReport_rests _)
    · exact tested
  obtain ⟨rackless, hr⟩ := fault (rackPagesLost_rackless s)
  exact ⟨rackless, hr.trans (rackPagesLost_hr s)⟩

/-! ### The approach entries (R14, R67) -/

theorem forall₂_eases_noRack {p q : List Entry} (h : List.Forall₂ Entry.eases p q) (none : ∀ e ∈ p, e.action.isRack = false) :
    ∀ e ∈ q, e.action.isRack = false := by
  induction h with
  | nil => exact nofun
  | @cons x y p q hx _ ih =>
    intro e he
    obtain rfl | he := List.mem_cons.mp he
    · obtain rfl | rfl := hx
      · exact none _ (List.mem_cons_self ..)
      · rfl
    · exact ih (fun x hx => none x (List.mem_cons_of_mem _ hx)) e he

theorem rewriteRack_noRack : ∀ e ∈ s.rewriteRack.gc.queue, e.action.isRack = false := by
  intro e he
  obtain ⟨x, _, rfl⟩ := List.mem_map.mp he
  split
  · rfl
  · exact Bool.eq_false_iff.mpr ‹_›

theorem rackFault_noRack : ∀ e ∈ s.rackFault.gc.queue, e.action.isRack = false := by
  have tested := steady_foldl State.afterRackFault afterRackFault_steady (s.co.sets.map (fun r => r.id))
    s.rackPagesLost.rewriteRack
  have after : s.rackPagesLost.rewriteRack.steady s.rackFault := by
    rw [rackFault_eq]
    split
    · exact tested.trans (roomReport_steady _)
    · exact tested
  exact forall₂_eases_noRack after.gate.2 (rewriteRack_noRack _)

end Sys2Proof.Machine

open Sys2Proof Sys2Proof.Machine

/-- Settles O32: the rack of a rack fault is that of its first step, which nothing that follows touches. -/
theorem rackFaults : Obligations.RackFaults := by
  refine ⟨?_, ?_, ?_, ?_⟩
  · intro s y busy
    obtain ⟨rackless, hr⟩ := rackFault_rests s
    have fault : exec .rackLimitExpiry s = .next s.rackFault := by
      change execRackLimitExpiry s = _
      simp only [execRackLimitExpiry, busy]
    have pocket : ∀ {k : Nat} {x : PocketState}, nth1 s.hr.pockets k = some x →
        nth1 s.rackFault.hr.pockets k = some (x.faulted (s.hr.storePocket == some k)) := by
      intro k x h
      rw [hr]
      exact nth1_faulted h
    refine ⟨_, fault, by rw [hr]; rfl, by rw [hr]; rfl, by rw [hr]; rfl, by rw [hr]; rfl, by rw [hr]; rfl, by rw [hr]; rfl,
      by rw [hr]; simp [Rack.faulted], ?_, ?_, ?_, ?_, rackless.pages, rackFault_noRack s⟩
    · intro k i p h
      exact pocket h
    · intro k store low high
      obtain ⟨x, hx⟩ := Option.isSome_iff_exists.mp ((nth1_isSome_iff s.hr.pockets k).mpr ⟨low, high⟩)
      rw [pocket hx, store, beq_self_eq_true]
      cases x <;> rfl
    · intro k i p h store
      rw [pocket h, beq_eq_false_iff_ne.mpr store]
      rfl
    · intro k h store
      obtain h | h := h <;> rw [pocket h, beq_eq_false_iff_ne.mpr store, h] <;> rfl
  · intro s e st busy
    have fault : exec .rackLimitExpiry s = .next s.rackFault := by
      change execRackLimitExpiry s = _
      simp only [execRackLimitExpiry, busy]
    rw [fault]
    constructor
    · change execStored .fault s = _
      simp only [execStored, busy]
    · change execReleased st s = _
      cases st <;> simp only [execReleased, busy]
  · intro s x st busy
    have fault : exec .rackLimitExpiry s = .next s.rackFault := by
      change execRackLimitExpiry s = _
      simp only [execRackLimitExpiry, busy]
    rw [fault]
    constructor
    · change execReleased .fault s = _
      simp only [execReleased, busy]
    · change execStored st s = _
      cases st <;> simp only [execStored, busy]
  · intro s idle
    change execRackLimitExpiry s = _
    obtain h | h := idle <;> simp only [execRackLimitExpiry, h]

end

section
/-! ## The Reader Interface apart from the rest

Nothing but the reader's own commands reads the Reader Interface: each operation commutes with writing it. -/

namespace Sys2Proof.Machine

/-! ### What a LAP does -/

/-- The state with the Reader Interface and Gate Control written. -/
def State.withFront (s : State) (x : Reader) (g : Gate) : State := { s with ri := x, gc := g }

section
variable (s : State) (x : Reader) (g : Gate)

@[simp] theorem withFront_co : (s.withFront x g).co = s.co := rfl
@[simp] theorem findSet_withFront (i : SetId) : (s.withFront x g).findSet i = s.findSet i := rfl
@[simp] theorem stateContent_withFront : (s.withFront x g).stateContent = s.stateContent := rfl

theorem foldl_withFront {α : Type} (f : State → α → State) (h : ∀ (s : State) a, f (s.withFront x g) a = (f s a).withFront x g) :
    ∀ (as : List α) (s : State), as.foldl f (s.withFront x g) = (as.foldl f s).withFront x g
  | [], _ => rfl
  | a :: as, s => by rw [List.foldl_cons, List.foldl_cons, h, foldl_withFront f h as]

theorem addDue_withFront (k : DueKind) : (s.withFront x g).addDue k = (s.addDue k).withFront x g := by
  unfold State.addDue
  simp only [apply_ite (State.withFront · x g)]
  rfl

theorem wantState_withFront : (s.withFront x g).wantState = s.wantState.withFront x g := by
  simp only [State.wantState, apply_ite (State.withFront · x g), ← addDue_withFront]
  rfl

theorem tell_withFront {a b : State} (h : a = b.withFront x g) : (s.withFront x g).tell a = (s.tell b).withFront x g := by
  rw [h]
  simp only [State.tell, apply_ite (State.withFront · x g), stateContent_withFront, wantState_withFront]

theorem putSet_withFront (r : SetRecord) : (s.withFront x g).putSet r = (s.putSet r).withFront x g := by
  simp only [State.putSet, findSet_withFront]
  cases s.findSet r.id with
  | none => rfl
  | some old => exact tell_withFront s x g rfl

theorem updSet_withFront (i : SetId) (f : SetRecord → SetRecord) :
    (s.withFront x g).updSet i f = (s.updSet i f).withFront x g := by
  simp only [State.updSet, findSet_withFront]
  cases s.findSet i with
  | none => rfl
  | some r => exact putSet_withFront s x g _

theorem offerReprint_withFront (r : SetRecord) (k : ReprintWait) :
    (s.withFront x g).offerReprint r k = (s.offerReprint r k).withFront x g := by
  have pushed : (s.withFront x g).pushRoutine (.reprint r.id r.reprintPages)
      = (s.pushRoutine (.reprint r.id r.reprintPages)).withFront x g := rfl
  simp only [State.offerReprint, pushed, putSet_withFront, apply_ite (State.withFront · x g)]
  rfl

theorem offerWaiting_withFront (l : List SetId) (i : SetId) :
    (s.withFront x g).offerWaiting l i = (s.offerWaiting l i).withFront x g := by
  unfold State.offerWaiting
  rw [findSet_withFront]
  cases s.findSet i with
  | none => rfl
  | some r =>
    dsimp only
    cases r.waiting <;> simp only [offerReprint_withFront, putSet_withFront, apply_ite (State.withFront · x g)]

theorem offerDue_withFront (l : List SetId) (i : SetId) : (s.withFront x g).offerDue l i = (s.offerDue l i).withFront x g := by
  unfold State.offerDue
  rw [findSet_withFront]
  cases s.findSet i with
  | none => rfl
  | some r => simp only [offerReprint_withFront, apply_ite (State.withFront · x g)]

theorem strand_withFront (l : List SetId) (i : SetId) : (s.withFront x g).strand l i = (s.strand l i).withFront x g := by
  unfold State.strand
  rw [findSet_withFront]
  cases s.findSet i with
  | none => rfl
  | some r =>
    simp only [putSet_withFront, apply_ite (State.withFront · x g)]
    rfl

theorem lap_withFront : (s.withFront x g).lap = s.lap.withFront x g := by
  unfold State.lap
  dsimp only
  rw [withFront_co, foldl_withFront x g _ (fun t i => updSet_withFront t x g i _),
    foldl_withFront x g _ (fun t i => offerWaiting_withFront t x g _ i),
    foldl_withFront x g _ (fun t i => offerDue_withFront t x g _ i),
    foldl_withFront x g _ (fun t i => strand_withFront t x g _ i)]

end

/-- The state with the Reader Interface written. -/
def State.withRi (s : State) (x : Reader) : State := s.withFront x s.gc

section
variable (s : State) (x : Reader)

@[simp] theorem withRi_ri : (s.withRi x).ri = x := rfl
@[simp] theorem withRi_gc : (s.withRi x).gc = s.gc := rfl
@[simp] theorem withRi_jt : (s.withRi x).jt = s.jt := rfl
@[simp] theorem withRi_cu : (s.withRi x).cu = s.cu := rfl
@[simp] theorem withRi_co : (s.withRi x).co = s.co := rfl
@[simp] theorem withRi_hr : (s.withRi x).hr = s.hr := rfl
@[simp] theorem withRi_rf : (s.withRi x).rf = s.rf := rfl
@[simp] theorem withRi_pw : (s.withRi x).pw = s.pw := rfl
@[simp] theorem withRi_sc : (s.withRi x).sc = s.sc := rfl
@[simp] theorem withRi_dc : (s.withRi x).dc = s.dc := rfl
@[simp] theorem withRi_lc : (s.withRi x).lc = s.lc := rfl
@[simp] theorem withRi_bs : (s.withRi x).bs = s.bs := rfl
@[simp] theorem withRi_pending : (s.withRi x).pending = s.pending := rfl
@[simp] theorem findSet_withRi (i : SetId) : (s.withRi x).findSet i = s.findSet i := rfl
@[simp] theorem findJob_withRi (j : Nat) : (s.withRi x).findJob j = s.findJob j := rfl
@[simp] theorem recordOf_withRi (t : PageRef) : (s.withRi x).recordOf t = s.recordOf t := rfl
@[simp] theorem stateContent_withRi : (s.withRi x).stateContent = s.stateContent := rfl
@[simp] theorem urgentRoom_withRi : (s.withRi x).urgentRoom = s.urgentRoom := rfl
@[simp] theorem binState_withRi (b : Nat) : (s.withRi x).binState b = s.binState b := rfl
@[simp] theorem hasRoom_withRi (m : Nat) : (s.withRi x).hasRoom m = s.hasRoom m := rfl

theorem foldl_withRi {α : Type} (f : State → α → State) (h : ∀ (s : State) a, f (s.withRi x) a = (f s a).withRi x) :
    ∀ (as : List α) (s : State), as.foldl f (s.withRi x) = (as.foldl f s).withRi x
  | [], _ => rfl
  | a :: as, s => by rw [List.foldl_cons, List.foldl_cons, h, foldl_withRi f h as]

/-! ### Notices, bins and pockets -/

theorem withRi_of_front {f : State → State} (front : ∀ s x g, f (State.withFront s x g) = (f s).withFront x g)
    (gc : ∀ s, (f s).gc = s.gc) : f (s.withRi x) = (f s).withRi x := by
  unfold State.withRi
  rw [front, gc]

@[simp] theorem addDue_withRi (k : DueKind) : (s.withRi x).addDue k = (s.addDue k).withRi x :=
  withRi_of_front s x (f := (State.addDue · k)) (fun s x g => addDue_withFront s x g k)
    fun s => (addDue_frame s k).gc (by decide)

@[simp] theorem wantState_withRi : (s.withRi x).wantState = s.wantState.withRi x :=
  withRi_of_front s x wantState_withFront fun s => (wantState_frame s).gc (by decide)

@[simp] theorem wantHello_withRi : (s.withRi x).wantHello = s.wantHello.withRi x := by
  simp only [State.wantHello, apply_ite (State.withRi · x), ← addDue_withRi]
  rfl

theorem tell_withRi {a b : State} (h : a = b.withRi x) : (s.withRi x).tell a = (s.tell b).withRi x := by
  rw [h]
  simp only [State.tell, apply_ite (State.withRi · x), stateContent_withRi, wantState_withRi]

@[simp] theorem setBin_withRi (b : Nat) (y : BinState) : (s.withRi x).setBin b y = (s.setBin b y).withRi x :=
  tell_withRi s x rfl

@[simp] theorem freeBin_withRi (b : Nat) : (s.withRi x).freeBin b = (s.freeBin b).withRi x := by
  simp only [State.freeBin, apply_ite (State.withRi · x), setBin_withRi, binState_withRi]

@[simp] theorem changePocket_withRi (p : Nat) (f : Pocket → Pocket) :
    (s.withRi x).changePocket p f = (s.changePocket p f).withRi x :=
  tell_withRi s x rfl

@[simp] theorem unbindingTest_withRi (p : Nat) : (s.withRi x).unbindingTest p = (s.unbindingTest p).withRi x := by
  simp only [State.unbindingTest, withRi_dc]
  cases nth1 s.dc.pockets p with
  | none => rfl
  | some y =>
    simp only [apply_ite (State.withRi · x), ← changePocket_withRi]
    rfl

/-! ### Set records -/

@[simp] theorem putSet_withRi (r : SetRecord) : (s.withRi x).putSet r = (s.putSet r).withRi x :=
  withRi_of_front s x (f := (State.putSet · r)) (fun s x g => putSet_withFront s x g r)
    fun s => (putSet_frame s r).gc (by decide)

@[simp] theorem updSet_withRi (i : SetId) (f : SetRecord → SetRecord) :
    (s.withRi x).updSet i f = (s.updSet i f).withRi x :=
  withRi_of_front s x (f := (State.updSet · i f)) (fun s x g => updSet_withFront s x g i f)
    fun s => (updSet_frame s i f).gc (by decide)

@[simp] theorem setPage_withRi (i : SetId) (p : Nat) (y : PageStatus) :
    (s.withRi x).setPage i p y = (s.setPage i p y).withRi x := updSet_withRi s x i _

@[simp] theorem sighting_withRi (i : SetId) : (s.withRi x).sighting i = (s.sighting i).withRi x := updSet_withRi s x i _

@[simp] theorem addSet_withRi (r : SetRecord) : (s.withRi x).addSet r = (s.addSet r).withRi x := tell_withRi s x rfl

@[simp] theorem dropSet_withRi (r : SetRecord) : (s.withRi x).dropSet r = (s.dropSet r).withRi x := by
  unfold State.dropSet
  rw [← unbindingTest_withRi]
  exact congrArg (State.unbindingTest · r.pocket) (tell_withRi s x rfl)

/-! ### The rack's, the carriage's and the link's requests -/

@[simp] theorem arbiterIssue_withRi : (s.withRi x).arbiterIssue = s.arbiterIssue.withRi x := by
  unfold State.arbiterIssue
  by_cases idle : s.hr.rack = .idle
  · rw [if_pos idle, if_pos (show (s.withRi x).hr.rack = .idle from idle)]
    simp only [withRi_hr, withRi_rf, hasRoom_withRi]
    cases s.hr.inlet with
    | cons e l => rfl
    | nil =>
      cases s.hr.releases with
      | nil => rfl
      | cons r l =>
        dsimp only
        cases r.dest with
        | bin b => rfl
        | feeder =>
          simp only [apply_ite (State.withRi · x)]
          rfl
  · rw [if_neg idle, if_neg (show (s.withRi x).hr.rack ≠ .idle from idle)]

@[simp] theorem setJaw_withRi (j : JawName) (y : JawState) : (s.withRi x).setJaw j y = (s.setJaw j y).withRi x := by
  cases j <;> rfl

@[simp] theorem carriageIssue_withRi : (s.withRi x).carriageIssue = s.carriageIssue.withRi x := by
  simp only [State.carriageIssue, withRi_sc, withRi_rf, hasRoom_withRi, show (s.withRi x).chooseJaw = s.chooseJaw from rfl,
    show (s.withRi x).jawsInUse = s.jawsInUse from rfl]
  by_cases idle : s.sc.carriage = .idle
  · rw [if_pos idle, if_pos idle]
    cases s.sc.carriageQueue with
    | nil => rfl
    | cons d l =>
      cases d with
      | transfer i b =>
        cases s.chooseJaw with
        | none => rfl
        | some j =>
          simp only [apply_ite (State.withRi · x), ← setJaw_withRi]
          rfl
      | unload i b m =>
        simp only [apply_ite (State.withRi · x)]
        rfl
  · rw [if_neg idle, if_neg idle]

@[simp] theorem arbiter_withRi : (s.withRi x).arbiter = s.arbiter.withRi x := by
  simp only [State.arbiter, arbiterIssue_withRi, withRi_rf, carriageIssue_withRi, apply_ite (State.withRi · x)]

@[simp] theorem startTest_withRi : (s.withRi x).startTest = s.startTest.withRi x := by
  simp only [State.startTest, arbiterIssue_withRi, withRi_rf, carriageIssue_withRi, apply_ite (State.withRi · x)]

@[simp] theorem queueRelease_withRi (r : Release) : (s.withRi x).queueRelease r = (s.queueRelease r).withRi x := by
  unfold State.queueRelease
  rw [← arbiter_withRi]
  rfl

@[simp] theorem queueCarriage_withRi (d : CarriageRequest) :
    (s.withRi x).queueCarriage d = (s.queueCarriage d).withRi x := by
  simp only [State.queueCarriage, apply_ite (State.withRi · x), ← startTest_withRi]
  rfl

@[simp] theorem withdrawCarriage_withRi (i : SetId) (y : Bool) :
    (s.withRi x).withdrawCarriage i y = (s.withdrawCarriage i y).withRi x := by
  simp only [State.withdrawCarriage, apply_ite (State.withRi · x), ← startTest_withRi]
  rfl

@[simp] theorem formHeld_withRi (l : List Waiting) : (s.withRi x).formHeld l = (s.formHeld l).withRi x := by
  simp only [State.formHeld, apply_ite (State.withRi · x)]
  rfl

@[simp] theorem queueWaiting_withRi : (s.withRi x).queueWaiting = s.queueWaiting.withRi x := by
  simp only [State.queueWaiting, withRi_cu, urgentRoom_withRi, formHeld_withRi]
  by_cases room : s.urgentRoom = true
  · rw [if_pos room, if_pos room]
    cases s.cu.waiting with
    | nil => rfl
    | cons w l => cases w <;> rfl
  · rw [if_neg room, if_neg room]

theorem queueWaitings_withRi : ∀ (n : Nat) (s : State),
    State.queueWaitings n (s.withRi x) = (State.queueWaitings n s).withRi x
  | 0, _ => rfl
  | n + 1, s => by rw [State.queueWaitings, State.queueWaitings, queueWaiting_withRi, queueWaitings_withRi n]

@[simp] theorem refillUrgent_withRi : (s.withRi x).refillUrgent = s.refillUrgent.withRi x := queueWaitings_withRi x _ s

@[simp] theorem dueYield_withRi (i : SetId) (y : YieldReason) : (s.withRi x).dueYield i y = (s.dueYield i y).withRi x := by
  unfold State.dueYield
  rw [← refillUrgent_withRi]
  rfl

@[simp] theorem withdrawClaim_withRi (i : SetId) : (s.withRi x).withdrawClaim i = (s.withdrawClaim i).withRi x := by
  simp only [State.withdrawClaim, State.withdrawUrgent, apply_ite (State.withRi · x), ← refillUrgent_withRi]
  rfl

/-! ### Bay states and the course of a set -/

@[simp] theorem setBay_withRi (y : BayState) : (s.withRi x).setBay y = (s.setBay y).withRi x := by
  unfold State.setBay
  rw [← wantState_withRi]
  rfl

@[simp] theorem enterJoining_withRi : (s.withRi x).enterJoining = s.enterJoining.withRi x := by
  unfold State.enterJoining
  rw [← wantHello_withRi, setBay_withRi]
  rfl

@[simp] theorem drainTest_withRi : (s.withRi x).drainTest = s.drainTest.withRi x := by
  simp only [State.drainTest, withRi_bs, withRi_co, setBay_withRi, apply_ite (State.withRi · x)]

@[simp] theorem rejoinTest_withRi : (s.withRi x).rejoinTest = s.rejoinTest.withRi x := by
  simp only [State.rejoinTest, withRi_bs, withRi_co, enterJoining_withRi, apply_ite (State.withRi · x)]

@[simp] theorem removeSet_withRi (i : SetId) : (s.withRi x).removeSet i = (s.removeSet i).withRi x := by
  simp only [State.removeSet, findSet_withRi]
  cases s.findSet i with
  | none => rfl
  | some r => simp only [dropSet_withRi, drainTest_withRi, rejoinTest_withRi]

@[simp] theorem unloadTest_withRi (i : SetId) : (s.withRi x).unloadTest i = (s.unloadTest i).withRi x := by
  simp only [State.unloadTest, findSet_withRi]
  cases s.findSet i with
  | none => rfl
  | some r =>
    dsimp only
    cases r.bin with
    | none => rfl
    | some b =>
      simp only [freeBin_withRi, putSet_withRi, queueCarriage_withRi, apply_ite (State.withRi · x)]
      rfl

@[simp] theorem removalTest_withRi (i : SetId) : (s.withRi x).removalTest i = (s.removalTest i).withRi x := by
  simp only [State.removalTest, findSet_withRi]
  cases s.findSet i with
  | none => rfl
  | some r =>
    simp only [removeSet_withRi, apply_ite (State.withRi · x)]
    rfl

@[simp] theorem undoReservation_withRi (k : Nat) (i : SetId) (p : Nat) :
    (s.withRi x).undoReservation k i p = (s.undoReservation k i p).withRi x := by
  simp only [State.undoReservation, apply_ite (State.withRi · x)]
  rfl

@[simp] theorem undoPage_withRi (t : PageRef) : (s.withRi x).undoPage t = (s.undoPage t).withRi x := by
  simp only [State.undoPage, recordOf_withRi]
  cases s.recordOf t with
  | none => rfl
  | some r => simp only [setPage_withRi, apply_ite (State.withRi · x)]

@[simp] theorem undoAction_withRi (e : Entry) : (s.withRi x).undoAction e = (s.undoAction e).withRi x := by
  unfold State.undoAction
  split
  · exact undoPage_withRi s x _
  · simp only [undoPage_withRi, undoReservation_withRi]
  · rfl

@[simp] theorem rewriteSet_withRi (i : SetId) : (s.withRi x).rewriteSet i = (s.rewriteSet i).withRi x := by
  unfold State.rewriteSet
  simp only [withRi_gc, foldl_withRi x State.undoAction (fun t e => undoAction_withRi t x e)]
  rfl

@[simp] theorem redirect_withRi (i : SetId) : (s.withRi x).redirect i = (s.redirect i).withRi x := rfl

@[simp] theorem releaseToFeeder_withRi (i : SetId) (p : Nat) :
    (s.withRi x).releaseToFeeder i p = (s.releaseToFeeder i p).withRi x := by
  simp only [State.releaseToFeeder, findSet_withRi]
  cases s.findSet i with
  | none => rfl
  | some r =>
    dsimp only
    split
    · simp only [setPage_withRi, queueRelease_withRi]
    · rfl

@[simp] theorem beginSurrender_withRi (r : SetRecord) : (s.withRi x).beginSurrender r = (s.beginSurrender r).withRi x := by
  simp only [State.beginSurrender]
  by_cases claiming : r.state = .claiming
  · simp only [claiming, reduceCtorEq, if_true, if_false, withdrawClaim_withRi, putSet_withRi]
    rfl
  · simp only [claiming, if_false, putSet_withRi, apply_ite (State.withRi · x), ← withdrawCarriage_withRi]
    rfl

@[simp] theorem endSurrender_withRi (r : SetRecord) (y : Option YieldReason) :
    (s.withRi x).endSurrender r y = (s.endSurrender r y).withRi x := by
  have due : ∀ z, (if r.state = .claiming then s.withRi x else (s.withRi x).dueYield r.id z)
      = (if r.state = .claiming then s else s.dueYield r.id z).withRi x := fun z => by
    simp only [dueYield_withRi, apply_ite (State.withRi · x)]
  cases y with
  | none =>
    simp only [State.endSurrender, rewriteSet_withRi, redirect_withRi, unloadTest_withRi, removalTest_withRi,
      foldl_withRi x (fun (t : State) p => t.releaseToFeeder r.id p) (fun t p => releaseToFeeder_withRi t x r.id p)]
  | some z =>
    simp only [State.endSurrender, due, rewriteSet_withRi, redirect_withRi, unloadTest_withRi, removalTest_withRi,
      foldl_withRi x (fun (t : State) p => t.releaseToFeeder r.id p) (fun t p => releaseToFeeder_withRi t x r.id p)]

@[simp] theorem surrender_withRi (i : SetId) (y : Option YieldReason) :
    (s.withRi x).surrender i y = (s.surrender i y).withRi x := by
  simp only [State.surrender, findSet_withRi]
  cases s.findSet i with
  | none => rfl
  | some r => simp only [beginSurrender_withRi, endSurrender_withRi]

@[simp] theorem releaseTest_withRi (i : SetId) : (s.withRi x).releaseTest i = (s.releaseTest i).withRi x := by
  simp only [State.releaseTest, findSet_withRi]
  cases s.findSet i with
  | none => rfl
  | some r =>
    dsimp only
    split
    · simp only [setPage_withRi, queueRelease_withRi]
    · rfl

@[simp] theorem completeSet_withRi (r : SetRecord) (y : Bool) :
    (s.withRi x).completeSet r y = (s.completeSet r y).withRi x := by
  simp only [State.completeSet, putSet_withRi, queueCarriage_withRi]

@[simp] theorem completionTest_withRi (i : SetId) : (s.withRi x).completionTest i = (s.completionTest i).withRi x := by
  simp only [State.completionTest, findSet_withRi]
  cases s.findSet i with
  | none => rfl
  | some r =>
    dsimp only
    split
    · simp only [completeSet_withRi, apply_ite (State.withRi · x)]
    · simp only [completeSet_withRi, surrender_withRi, apply_ite (State.withRi · x)]
    · rfl

@[simp] theorem afterChange_withRi (i : SetId) : (s.withRi x).afterChange i = (s.afterChange i).withRi x := by
  simp only [State.afterChange, findSet_withRi]
  cases s.findSet i with
  | none => rfl
  | some r =>
    cases h : r.state <;> simp only [h, releaseTest_withRi, completionTest_withRi, unloadTest_withRi, removalTest_withRi]

@[simp] theorem undoEntry_withRi (e : Entry) : (s.withRi x).undoEntry e = (s.undoEntry e).withRi x := by
  simp only [State.undoEntry, undoAction_withRi]
  cases e.target with
  | none => rfl
  | some g => simp only [recordOf_withRi, afterChange_withRi, apply_ite (State.withRi · x)]

theorem lapse_withRi (e : Entry) : (s.withRi x).lapse e = (s.lapse e).withRi x := by
  simp only [State.lapse, undoEntry_withRi]
  rfl

theorem lapseOldest_withRi : (s.withRi x).lapseOldest = s.lapseOldest.withRi x := by
  simp only [State.lapseOldest, withRi_gc]
  cases s.gc.queue with
  | nil => rfl
  | cons e rest =>
    simp only [← lapse_withRi]
    rfl

theorem makeRoom_withRi : (s.withRi x).makeRoom = s.makeRoom.withRi x := by
  simp only [State.makeRoom, lapseOldest_withRi, withRi_gc, apply_ite (State.withRi · x)]

/-! ### The choice of the gate action -/

/-- A choice with the Reader Interface written in its state. -/
def Chosen.withRi (c : Chosen) (x : Reader) : Chosen := { c with state := c.state.withRi x }

theorem routeOpen_withRi (r : SetRecord) (m : Mark) : (s.withRi x).routeOpen r m = (s.routeOpen r m).withRi x := by
  simp only [State.routeOpen, withRi_gc, show (s.withRi x).lowestFree = s.lowestFree from rfl,
    show (s.withRi x).rackAdmits = s.rackAdmits from rfl]
  split
  · rfl
  · split
    · rfl
    · split
      · rfl
      · split
        · simp only [setPage_withRi, Chosen.withRi]
        · split
          · simp only [Chosen.withRi, ← setPage_withRi]
            rfl
          · rfl

theorem route_withRi (r : SetRecord) (m : Mark) : (s.withRi x).route r m = (s.route r m).withRi x := by
  unfold State.route
  split
  · exact routeOpen_withRi s x r m
  · exact routeOpen_withRi s x r m
  · rfl
  iterate 3
    · simp only [apply_ite (Chosen.withRi · x)]
      rfl
  · rfl

theorem makeClaim_withRi (j : JobRecord) (m : Mark) (b p : Nat) :
    (s.withRi x).makeClaim j m b p = (s.makeClaim j m b p).withRi x := by
  have made : (s.withRi x).claimMade j m b p = (s.claimMade j m b p).withRi x := by
    unfold State.claimMade State.bindPocket
    change State.pushUrgent (((State.withRi { s with co := { s.co with searchPtr := _ } } x).setBin b .assigned).addSet _
      |>.changePocket p _) _ = _
    rw [setBin_withRi, addSet_withRi, changePocket_withRi]
    rfl
  rw [makeClaim_eq, makeClaim_eq, ← route_withRi, made]
  rfl

theorem claimDecision_withRi (j : JobRecord) (m : Mark) :
    (s.withRi x).claimDecision j m = (s.claimDecision j m).withRi x := by
  unfold State.claimDecision
  rw [show (s.withRi x).mayClaim j = s.mayClaim j from rfl,
    show (s.withRi x).pocketFor j m.pages = s.pocketFor j m.pages from rfl,
    show (s.withRi x).searchBin = s.searchBin from rfl]
  split
  · exact makeClaim_withRi s x j m _ _
  · rfl

theorem chooseMarked_withRi (m : Mark) : (s.withRi x).chooseMarked m = (s.chooseMarked m).withRi x := by
  unfold State.chooseMarked
  rw [show (s.withRi x).passesMarked = s.passesMarked from rfl, findJob_withRi]
  by_cases passes : s.passesMarked = true
  · rw [if_pos passes, if_pos passes]
    rfl
  · rw [if_neg passes, if_neg passes]
    cases s.findJob m.id.job with
    | none => rfl
    | some j =>
      dsimp only
      by_cases done : j.doneMap.contains m.id.num = true
      · rw [if_pos done, if_pos done]
        rfl
      · rw [if_neg done, if_neg done, findSet_withRi]
        cases s.findSet m.id with
        | some r => exact route_withRi s x r m
        | none =>
          simp only [claimDecision_withRi, apply_ite (Chosen.withRi · x)]
          rfl

theorem chooseRead_withRi (c : ReadContent) : (s.withRi x).chooseRead c = (s.chooseRead c).withRi x := by
  unfold State.chooseRead
  cases c with
  | empty => rfl
  | unreadable u => cases u <;> rfl
  | marked m =>
    dsimp only
    rw [chooseMarked_withRi]
    simp only [Chosen.withRi, sighting_withRi]

theorem carrierRead_withRi (n : Nat) (c : ReadContent) : (s.withRi x).carrierRead n c = (s.carrierRead n c).withRi x := by
  unfold State.carrierRead
  rw [makeRoom_withRi, chooseRead_withRi]
  rfl

/-! ### A LAP and the tests it takes -/

theorem watch_frame (w : Watch) : s.sameBut [.co, .dc, .lc, .pw] { s with pw := w } := by simp [State.sameBut]

theorem offerReprint_frame (r : SetRecord) (k : ReprintWait) : s.sameBut [.co, .dc, .lc, .pw] (s.offerReprint r k) := by
  unfold State.offerReprint
  split
  · refine sameBut_trans ?_ (watch_frame _ _)
    exact sameBut_trans (by simp [State.sameBut]) (sameBut_mono (putSet_frame _ _) (by decide))
  · exact sameBut_trans (sameBut_mono (putSet_frame s _) (by decide)) (watch_frame _ _)

theorem offerWaiting_frame (l : List SetId) (i : SetId) : s.sameBut [.co, .dc, .lc, .pw] (s.offerWaiting l i) := by
  have put : ∀ r, s.sameBut [.co, .dc, .lc, .pw] (s.putSet r) := fun r => sameBut_mono (putSet_frame s r) (by decide)
  unfold State.offerWaiting
  split
  · exact sameBut_refl _ s
  · split
    · exact sameBut_refl _ s
    · split
      · exact sameBut_refl _ s
      · split
        · exact offerReprint_frame s _ _
        · exact put _
      · split
        · exact offerReprint_frame s _ _
        · exact put _

theorem offerDue_frame (l : List SetId) (i : SetId) : s.sameBut [.co, .dc, .lc, .pw] (s.offerDue l i) := by
  unfold State.offerDue
  split
  · exact sameBut_refl _ s
  · split
    · exact offerReprint_frame s _ _
    · exact sameBut_refl _ s

theorem strand_frame (l : List SetId) (i : SetId) : s.sameBut [.co, .dc, .lc, .pw] (s.strand l i) := by
  unfold State.strand
  split
  · exact sameBut_refl _ s
  · split
    · exact sameBut_trans (sameBut_mono (putSet_frame s _) (by decide)) (watch_frame _ _)
    · exact sameBut_refl _ s

theorem lap_frame : s.sameBut [.co, .dc, .lc, .pw] s.lap := by
  refine sameBut_trans ?_ (sameBut_foldl _ (fun t i => strand_frame t _ i) _ _)
  refine sameBut_trans ?_ (sameBut_foldl _ (fun t i => offerDue_frame t _ i) _ _)
  refine sameBut_trans ?_ (sameBut_foldl _ (fun t i => offerWaiting_frame t _ i) _ _)
  exact sameBut_foldl _ (fun t i => sameBut_mono (updSet_frame t i SetRecord.lap) (by decide)) _ _

theorem lap_withRi : (s.withRi x).lap = s.lap.withRi x :=
  withRi_of_front s x lap_withFront fun s => (lap_frame s).gc (by decide)

end

end Sys2Proof.Machine
end

section
/-! ## The closing of a window (R2, R4, R5, R11) -/

namespace Sys2Proof.Machine

/-- What a closing window does but for the Reader Interface: the LAP of a carrier 0 and the CARRIER READ. -/
def State.reads (s : State) (w : Window) : State :=
  (if w.number = some 0 then s.lap else s).carrierRead (w.number.getD 255) w.content

/-- The Reader Interface with the window closed, before its read. -/
def Reader.closed (x : Reader) (b : Bool) : Reader :=
  { x with carrier := false, sheet := agreedAfter x.sheet (x.lastSample.map (·.2)) b, lastSample := some (false, b)
           window := none }

variable {s : State} {w : Window} {b : Bool}

theorem reads_withRi (s : State) (w : Window) (x : Reader) : (s.withRi x).reads w = (s.reads w).withRi x := by
  unfold State.reads
  rw [lap_withRi, ← carrierRead_withRi, apply_ite (State.withRi · x)]

theorem windowCloses_withRi (x : Reader) :
    (s.withRi x).windowCloses w = (s.reads w).withRi (x.readDone w.number w.content) :=
  reads_withRi s w _

/-- The sample that closes a window, with the Reader Interface apart from the rest. -/
theorem exec_closing (h : s.closing w) (b : Bool) : exec (.readerSample false b) s
    = .next ((s.reads w).withRi ((s.ri.closed b).readDone w.number w.content)) := by
  obtain ⟨high, last, open'⟩ := h
  have c : agreedAfter s.ri.carrier (s.ri.lastSample.map (·.1)) false = false := agreedAfter_eq last
  refine next_congr ?_
  rw [← windowCloses_withRi]
  unfold State.sample
  dsimp only
  rw [c, if_neg (by simp), if_pos ⟨high, rfl⟩, open']
  rfl

theorem readDone_window (x : Reader) (number : Option Nat) (c : ReadContent) :
    (x.readDone number c).window = x.window ∧ (x.readDone number c).carrier = x.carrier := by
  unfold Reader.readDone
  cases number with
  | none => cases c <;> exact ⟨rfl, rfl⟩
  | some n =>
    dsimp only
    split <;> cases c <;> exact ⟨rfl, rfl⟩

theorem gap_of_known {x : Reader} {c l : Nat} (n : Nat) (loop : x.loopSize = some c) (last : x.lastNumber = some l) :
    x.gap n = (n != (l + 1) % c) := by
  unfold Reader.gap
  rw [loop, last]

theorem gap_of_unknown {x : Reader} (n : Nat) (h : x.loopSize = none ∨ x.lastNumber = none) : x.gap n = false := by
  unfold Reader.gap
  split
  · rename_i c l loop last
    obtain e | e := h
    · rw [e] at loop; cases loop
    · rw [e] at last; cases last
  · rfl

theorem relearned_of_known {x : Reader} {l : Nat} (last : x.lastNumber = some l) :
    x.relearned = if 47 ≤ l ∧ l ≤ 239 then some (l + 1) else x.loopSize := by
  unfold Reader.relearned
  rw [last]

theorem relearned_of_unknown {x : Reader} (last : x.lastNumber = none) : x.relearned = x.loopSize := by
  unfold Reader.relearned
  rw [last]

theorem reads_queue (s : State) (w : Window) :
    ∃ q e, (s.reads w).gc.queue = q ++ [e] ∧ e.carrier = w.number.getD 255 := ⟨_, _, rfl, rfl⟩

/-! ### A reset leaves the reader as after reset -/

theorem resetPart_ri (s : State) (x : Straps) (v : Sensors) : (s.resetPart x v).ri = State.reset.ri := by
  unfold State.resetPart
  dsimp only
  split
  · exact (enterJoining_frame _).ri (by decide)
  · rfl

theorem heardSteps_bs (s : State) (kind : BitVec 6) (f : Frame) : (s.heardSteps kind f).bs = s.bs := by
  have left : (if s.ownAttempt kind f then ({ s with lc := { s.lc with spoilMark := false } } : State).leaveLine
      else { s with lc := { s.lc with spoilMark := false } }).bs = s.bs := by
    split
    · exact (leaveLine_frame _).bs (by decide)
    · rfl
  unfold State.heardSteps
  dsimp only at left ⊢
  split
  · exact ((markPresent_frame _ _).bs (by decide)).trans left
  · exact left

/-- A heard and accepted notice is acted on after the steps of its hearing. -/
theorem hear_of_hears {k : NoticeKind} {f : Frame} (h : s.hears k f) (act : State → State) :
    s.hear k f act = State.afterHeard s (act (s.heardSteps k.code f)) := by
  obtain ⟨awake, other, _, ok⟩ := h
  unfold State.hear
  rw [if_neg awake, if_neg (by simp [State.clashes, other])]
  dsimp only
  rw [if_pos ok]

end Sys2Proof.Machine

open Sys2Proof Sys2Proof.Machine

/-- Settles O19: the Reader Interface of a read is that of `Reader.readDone`, and nothing else reads it. -/
theorem carrierNumberHandled : Obligations.CarrierNumberHandled := by
  refine ⟨?_, ?_, ?_, ?_, ?_, ?_⟩
  · intro s w n b closing number low
    obtain ⟨last, loop, gap⟩ := readDone_usable (s.ri.closed b) w.content low
    obtain ⟨window, carrier⟩ := readDone_window (s.ri.closed b) w.number w.content
    refine ⟨_, exec_closing closing b, by rw [number]; exact last, window, carrier, ?_, ?_, ?_, ?_, ?_⟩
    · intro c l known known'
      rw [number]
      refine gap.trans ?_
      rw [gap_of_known (x := s.ri.closed b) n known known']
      by_cases expected : n = (l + 1) % c <;> simp [expected] <;> rfl
    · intro unknown
      rw [number]
      refine gap.trans ?_
      rw [gap_of_unknown (x := s.ri.closed b) n unknown]
      rfl
    · intro l known
      rw [number]
      refine loop.trans ?_
      rw [relearned_of_known (x := s.ri.closed b) known]
      by_cases zero : n = 0
      · simp only [zero, true_and, if_true]
        rfl
      · simp only [zero, false_and, if_false]
        rfl
    · intro unknown
      rw [number]
      refine loop.trans ?_
      rw [relearned_of_unknown (x := s.ri.closed b) unknown, ite_self]
      rfl
    · obtain ⟨q, e, hq, he⟩ := reads_queue s w
      exact ⟨q, e, hq, by rw [he, number]; rfl⟩
  · intro s w b closing unusable
    obtain ⟨last, loop, gap⟩ := readDone_unusable (s.ri.closed b) w.content unusable
    obtain ⟨window, carrier⟩ := readDone_window (s.ri.closed b) w.number w.content
    obtain ⟨q, e, hq, he⟩ := reads_queue s w
    refine ⟨_, exec_closing closing b, last, gap, loop, window, carrier, q, e, hq, ?_⟩
    rintro n number
    rw [he, Option.mem_def.mp number]
    rfl
  · intro s w b l c g closing
    refine ⟨_, _, exec_closing closing b, exec_closing (s := s.withRi { s.ri with lastNumber := l, loopSize := c, readGap := g })
      closing b, ?_⟩
    rw [reads_withRi]
    simp [State.sameBut]
  · intro s t step last loop
    exact (step_keeps step).reader ⟨last, loop⟩
  · intro s x v
    have ri := resetPart_ri s x v
    exact ⟨_, rfl, by rw [ri]; rfl, by rw [ri]; rfl⟩
  · intro s f x v hears station takes
    have restart : (State.onRestart x v (s.heardSteps NoticeKind.service.code f)).ri = State.reset.ri := by
      unfold State.onRestart
      rw [heardSteps_bs, if_pos]
      · exact resetPart_ri _ x v
      · obtain e | ⟨c, e⟩ := takes <;> rw [e] <;> rfl
    have ri : (s.hear .service f (State.onService f (State.onRestart x v))).ri = State.reset.ri := by
      rw [hear_of_hears hears, (afterHeard_steady s _).reader]
      unfold State.onService
      rw [if_pos, restart]
      rw [station, State.station, State.station, heardSteps_bs]
    exact ⟨_, rfl, by rw [ri]; rfl, by rw [ri]; rfl⟩

end

section
/-! ## Records rewritten without a word to the link

A record rewritten with its state, its STRANDED mark and its cost as they were changes nothing but itself. -/

namespace Sys2Proof.Machine

variable {s : State} {r old q : SetRecord} {i : SetId}

/-- One record for each set (R29). -/
def State.distinct (s : State) : Prop := s.co.sets.Pairwise (fun a b => a.id ≠ b.id)

theorem SetId.before_irrefl (i : SetId) : i.before i = false := by simp [SetId.before]

theorem distinct_of_sound (h : s.setTableSound) : s.distinct :=
  h.2.imp fun {a b} before e => by
    rw [e, SetId.before_irrefl] at before
    cases before

theorem findSet_of_mem (d : s.distinct) (m : q ∈ s.co.sets) : s.findSet q.id = some q := by
  unfold State.distinct at d
  unfold State.findSet
  generalize s.co.sets = l at d m
  induction l with
  | nil => cases m
  | cons x l ih =>
    obtain ⟨first, rest⟩ := List.pairwise_cons.mp d
    obtain rfl | m := List.mem_cons.mp m
    · simp
    · have other : (x.id == q.id) = false := beq_eq_false_iff_ne.mpr (first q m)
      rw [List.find?_cons, other]
      exact ih rest m

theorem mem_unique (d : s.distinct) (m : q ∈ s.co.sets) (h : s.findSet q.id = some r) : q = r :=
  Option.some.inj ((findSet_of_mem d m).symm.trans h)

theorem distinct_of_ids {t : State} (ids : t.setIds.Sublist s.setIds) (d : s.distinct) : t.distinct :=
  List.pairwise_map.mp (ids.nodup (List.pairwise_map.mpr d))

theorem putSet_distinct (d : s.distinct) (r : SetRecord) : (s.putSet r).distinct :=
  distinct_of_ids (by rw [putSet_ids]) d

theorem map_modify1 {α β : Type} (l : List α) (i : Nat) {f : α → α} {g : α → β} (h : ∀ x, g (f x) = g x) :
    (modify1 l i f).map g = l.map g := by
  unfold modify1
  split
  · rfl
  · rename_i a e
    cases i with
    | zero => rfl
    | succ k =>
      apply List.ext_getElem?
      intro n
      simp only [set1, List.getElem?_map, List.getElem?_set]
      by_cases same : k = n
      · subst same
        obtain ⟨inside, _⟩ := List.getElem?_eq_some_iff.mp e
        rw [if_pos rfl, if_pos inside, show l[k]? = some a from e, Option.map_some, Option.map_some, h]
      · rw [if_neg same]

theorem modify1_eq_self {α : Type} (l : List α) (i : Nat) {f : α → α} (h : ∀ x, f x = x) : modify1 l i f = l := by
  have := map_modify1 (g := id) l i h
  rwa [List.map_id, List.map_id] at this

/-- R112: the record counts among the stranded. -/
def SetRecord.countsStranded (r : SetRecord) : Bool := r.state == .collecting && r.stranded

theorem strandedCount_map {f : SetRecord → SetRecord} (l : List SetRecord)
    (h : ∀ q ∈ l, (f q).countsStranded = q.countsStranded) :
    ((l.map f).filter (fun r => r.state == .collecting && r.stranded)).length
      = (l.filter (fun r => r.state == .collecting && r.stranded)).length := by
  induction l with
  | nil => rfl
  | cons x l ih =>
    have head := h x (List.mem_cons_self ..)
    unfold SetRecord.countsStranded at head
    simp only [List.map_cons, List.filter_cons, head]
    split <;> simp [ih fun q m => h q (List.mem_cons_of_mem _ m)]

/-- R152: a STATE is told of a rewritten record only when it joins or leaves the stranded. -/
theorem putSet_eq (d : s.distinct) (h : s.findSet r.id = some old) (stranded : r.countsStranded = old.countsStranded) :
    s.putSet r = { s with
      co := { s.co with sets := s.co.sets.map (fun q => if q.id = r.id then r else q) }
      dc := { s.dc with
        pockets := modify1 s.dc.pockets r.pocket (fun p => { p with committed := p.committed + r.load - old.load }) } } := by
  have same : ∀ q ∈ s.co.sets, (if q.id = r.id then r else q).countsStranded = q.countsStranded := fun q m => by
    split
    · rename_i e
      rw [stranded, mem_unique d m (e ▸ h)]
    · rfl
  unfold State.putSet
  rw [h]
  dsimp only
  unfold State.tell
  rw [if_pos]
  unfold State.stateContent State.strandedCount
  dsimp only
  rw [strandedCount_map _ same, map_modify1]
  · rfl
  · exact fun _ => rfl

theorem putSet_lc (d : s.distinct) (h : s.findSet r.id = some old) (stranded : r.countsStranded = old.countsStranded) :
    (s.putSet r).lc = s.lc := by rw [putSet_eq d h stranded]

/-- R139: with its cost as it was, the pocket's committed load is too. -/
theorem putSet_quiet (d : s.distinct) (h : s.findSet r.id = some old) (stranded : r.countsStranded = old.countsStranded)
    (load : r.load = old.load) :
    s.putSet r = { s with co := { s.co with sets := s.co.sets.map (fun q => if q.id = r.id then r else q) } } := by
  rw [putSet_eq d h stranded, modify1_eq_self _ _ fun p => by rw [load, Nat.add_sub_cancel]]

theorem putSet_self (d : s.distinct) (h : s.findSet i = some r) : s.putSet r = s := by
  have id := findSet_id h
  subst id
  have same : s.co.sets.map (fun q => if q.id = r.id then r else q) = s.co.sets := by
    refine (List.map_congr_left fun q m => ?_).trans (List.map_id _)
    split
    · rename_i e
      exact (mem_unique d m (e ▸ h)).symm
    · rfl
  rw [putSet_quiet d h rfl rfl, same]

theorem setPage_distinct (d : s.distinct) (i : SetId) (p : Nat) (x : PageStatus) : (s.setPage i p x).distinct := by
  unfold State.setPage State.updSet
  split
  · exact d
  · exact putSet_distinct d _

theorem setPage_lc (d : s.distinct) (i : SetId) (p : Nat) (x : PageStatus) : (s.setPage i p x).lc = s.lc := by
  unfold State.setPage State.updSet
  split
  · rfl
  · rename_i r h
    have id := findSet_id h
    subst id
    exact putSet_lc d (r := r.setStatus p x) h rfl

/-! ### A LAP with no set COLLECTING (R106) -/

theorem lap_of_lapless (h : s.lapless) : s.lap = s := by
  obtain ⟨sound, idle⟩ := h
  have d := distinct_of_sound sound
  have quiet : ∀ {i : SetId} {r : SetRecord}, s.findSet i = some r → r.state ≠ .collecting := fun h =>
    idle _ (findSet_mem h)
  have counted : (s.co.sets.filter (fun r => r.counted)).map (fun r => r.id) = [] := by
    rw [List.map_eq_nil_iff, List.filter_eq_nil_iff]
    intro r m
    simp [SetRecord.counted, idle r m]
  have first : ∀ i, s.updSet i SetRecord.lap = s := fun i => by
    unfold State.updSet
    split
    · rfl
    · rename_i r h
      rw [SetRecord.lap, if_neg (quiet h)]
      exact putSet_self d h
  have second : ∀ i, s.offerWaiting [] i = s := fun i => by
    unfold State.offerWaiting
    split
    · rfl
    · rw [if_pos (quiet ‹_›)]
  have third : ∀ i, s.offerDue [] i = s := fun i => by
    unfold State.offerDue
    split
    · rfl
    · rw [if_neg (by simp)]
  have last : ∀ i, s.strand [] i = s := fun i => by
    unfold State.strand
    split
    · rfl
    · rw [if_neg (by simp)]
  unfold State.lap
  dsimp only
  rw [counted, List.foldl_fixed' (f := fun (u : State) i => u.updSet i SetRecord.lap) first,
    List.foldl_fixed' second, List.foldl_fixed' third, List.foldl_fixed' last]

end Sys2Proof.Machine
end

section
/-! ## Carrier reads (R2, R8, R9, R11) -/

namespace Sys2Proof.Machine

variable {s : State} {w : Window} {n : Nat} {e : Entry} {q : List Entry}

/-! ### The content of a read (R2) -/

theorem content_empty (number : w.number = some n) (low : n < 240) (blank : w.sensed = false) : w.content = .empty := by
  have ok : usable w.number = true := by rw [number]; exact decide_eq_true low
  rw [Window.content, if_pos ok, blank]
  rfl

theorem content_unusable (h : w.number = none ∨ 240 ≤ w.number.getD 0) : w.content = .unreadable false := by
  have bad : ¬usable w.number = true := by
    cases e : w.number with
    | none => simp [usable]
    | some k =>
      rw [e] at h
      have high : 240 ≤ k := h.resolve_left nofun
      simp [usable, high]
  rw [Window.content, if_neg bad]

theorem content_unreadable (number : w.number = some n) (low : n < 240) (sensed : w.sensed = true)
    (invalid : ∀ m, w.first = some (.strip m) → w.second = some (.strip m) → m.valid = false) :
    w.content = .unreadable true := by
  have ok : usable w.number = true := by rw [number]; exact decide_eq_true low
  rw [Window.content, if_pos ok, if_pos sensed]
  split
  · rename_i m m' first second
    rw [if_neg]
    rintro ⟨rfl, valid⟩
    rw [invalid m first second] at valid
    cases valid
  · rfl

/-- R2: which usable number it is says nothing of the content. -/
theorem content_number {m : Nat} (number : w.number = some m) (low : m < 240) (low' : n < 240) :
    ({ w with number := some n } : Window).content = w.content := by
  have ok : usable w.number = true := by rw [number]; exact decide_eq_true low
  have ok' : usable (some n) = true := decide_eq_true low'
  rw [Window.content, Window.content, if_pos ok, if_pos ok']

/-! ### A read that has room, and one that finds the queue full (R11, R13) -/

theorem carrierRead_room (room : s.gc.queue.length < 3) (n : Nat) (c : ReadContent) :
    s.carrierRead n c = { (s.chooseRead c).state with
      gc := { (s.chooseRead c).state.gc with
        queue := (s.chooseRead c).state.gc.queue
          ++ [{ carrier := n, action := (s.chooseRead c).action, target := (s.chooseRead c).target }] } } := by
  have there : s.makeRoom = s := if_pos room
  rw [State.carrierRead, there]

/-- A read that chooses an action and changes nothing else. -/
theorem carrierRead_choose {c : ReadContent} {a : Action} (room : s.gc.queue.length < 3) (choice : s.chooseRead c = s.choose a) :
    s.carrierRead n c = { s with gc := { s.gc with queue := s.gc.queue ++ [Entry.bare n a] } } := by
  rw [carrierRead_room room, choice]
  rfl

theorem makeRoom_full (h : s.gc.queue = e :: q) (full : 3 ≤ s.gc.queue.length) : s.makeRoom = (s.withQueue q).lapse e := by
  have oldest : s.makeRoom = s.lapseOldest := if_neg (Nat.not_lt.mpr full)
  rw [oldest, State.lapseOldest, h]
  rfl

/-- A read of a full queue is that of the queue with its oldest entry lapsed. -/
theorem carrierRead_full (h : s.gc.queue = e :: q) (full : 3 ≤ s.gc.queue.length)
    (room : ((s.withQueue q).lapse e).gc.queue.length < 3) (n : Nat) (c : ReadContent) :
    s.carrierRead n c = ((s.withQueue q).lapse e).carrierRead n c := by
  have there : ((s.withQueue q).lapse e).makeRoom = (s.withQueue q).lapse e := if_pos room
  rw [State.carrierRead, State.carrierRead, makeRoom_full h full, there]

theorem reads_lapless (number : w.number = some n) (still : 1 ≤ n ∨ s.lapless) : s.reads w = s.carrierRead n w.content := by
  unfold State.reads
  rw [number]
  obtain high | lapless := still
  · rw [if_neg (by simp; omega)]
    rfl
  · rw [lap_of_lapless lapless, ite_self]
    rfl

theorem reads_other (number : w.number ≠ some 0) : s.reads w = s.carrierRead (w.number.getD 255) w.content := by
  rw [State.reads, if_neg number]

theorem withFront_of_ri {x : Reader} (h : s.ri = x) (g : Gate) : s.withFront x g = { s with gc := g } := by
  subst h
  rfl

/-- R6, R11: the LAP of carrier 0 and the lapse of an entry that holds nothing do not touch each other. -/
theorem reads_full_bare (h : s.gc.queue = e :: q) (full : 3 ≤ s.gc.queue.length) (room : q.length < 3)
    (action : e.action = .pass ∨ e.action = .reject ∨ e.action = .fill) (target : e.target = none) :
    s.reads w = State.reads { s with gc := { s.gc with queue := q, lapsed := count s.gc.lapsed } } w := by
  have read : ∀ t : State, t.ri = s.ri → t.gc = s.gc → t.carrierRead (w.number.getD 255) w.content
      = (t.withFront s.ri { s.gc with queue := q, lapsed := count s.gc.lapsed }).carrierRead (w.number.getD 255) w.content := by
    intro t ri gc
    have lapsed : (t.withQueue q).lapse e = _ := lapse_bare action target
    rw [carrierRead_full (gc ▸ h) (gc ▸ full) (by rw [lapsed]; exact room), lapsed, withFront_of_ri ri, ← gc]
    rfl
  by_cases zero : w.number = some 0
  · have lapped := lap_withFront s s.ri { s.gc with queue := q, lapsed := count s.gc.lapsed }
    unfold State.reads
    rw [if_pos zero, if_pos zero, read s.lap ((lap_frame s).ri (by decide)) ((lap_frame s).gc (by decide)), ← lapped]
    rfl
  · rw [reads_other zero, reads_other zero]
    exact read s rfl rfl

theorem readDone_unreadable (x : Reader) (number : Option Nat) (c : ReadContent) :
    (x.readDone number c).unreadable
      = match c with
        | .unreadable _ => count x.unreadable
        | _ => x.unreadable := by
  unfold Reader.readDone
  cases number with
  | none => cases c <;> rfl
  | some k => dsimp only; split <;> cases c <;> rfl

/-! ### Admissions (R8) -/

theorem commitments_eq (s : State) (a : Action) :
    s.commitments a = (s.gateEntries.filter (fun e => e.action = a)).length := by
  unfold State.commitments State.gateEntries
  rw [List.filter_append, List.length_append]
  congr 1
  cases s.gc.gate with
  | idle => rfl
  | faulted => rfl
  | busy e =>
    by_cases same : e.action = a <;> simp [GateState.carries, same]

theorem gateShut_iff (s : State) :
    s.gateShut = false ↔ s.bs.state ≠ .dormant ∧ s.bs.state ≠ .fault .gate ∧ s.gc.gate ≠ .faulted := by
  simp [State.gateShut, and_assoc]

theorem rejectAdmission_iff (s : State) : s.rejectAdmission = true ↔ s.bs.state ≠ .dormant ∧ s.bs.state ≠ .fault .gate
    ∧ s.gc.gate ≠ .faulted ∧ s.gc.tray + (s.gateEntries.filter (fun e => e.action = .reject)).length < 50 := by
  rw [State.rejectAdmission, Bool.and_eq_true_iff, Bool.not_eq_true', gateShut_iff, commitments_eq, decide_eq_true_iff,
    and_assoc, and_assoc]
  rfl

theorem fillAdmission_iff (s : State) : s.fillAdmission = true ↔ s.bs.state ≠ .dormant ∧ s.bs.state ≠ .fault .gate
    ∧ s.gc.gate ≠ .faulted ∧ (s.gateEntries.filter (fun e => e.action = .fill)).length < s.rf.count := by
  rw [State.fillAdmission, Bool.and_eq_true_iff, Bool.not_eq_true', gateShut_iff, commitments_eq, decide_eq_true_iff,
    and_assoc, and_assoc]

theorem State.sameBut.without_lc {l : List Block} {t : State} (h : s.sameBut (.lc :: l) t) (lc : t.lc = s.lc) :
    s.sameBut l t := by
  simp only [State.sameBut, List.mem_cons, reduceCtorEq, false_or, true_or, not_true_eq_false, false_implies, true_and] at h ⊢
  obtain ⟨ri, gc, jt, cu, co, hr, rf, pw, sc, dc, bs, queue⟩ := h
  exact ⟨ri, gc, jt, cu, co, hr, rf, pw, sc, dc, fun _ => lc, bs, queue⟩

/-! ### The lapse of a diversion of a CLAIMING or COLLECTING set (R44) -/

theorem releaseTest_lc (d : s.distinct) (i : SetId) : (s.releaseTest i).lc = s.lc := by
  cases h : s.findSet i with
  | none => simp only [State.releaseTest, h]
  | some r =>
    obtain e | ⟨p, k, x, _, e⟩ := releaseTest_record s h
    · rw [e]
    · rw [e, (queueRelease_frame _ _).lc (by decide), setPage_lc d]

theorem undoEntry_filling_lc {g : PageRef} {r : SetRecord} (d : s.distinct) (h : s.diverting e g r)
    (filling : r.state = .claiming ∨ r.state = .collecting) : (s.undoEntry e).lc = s.lc := by
  have undone : (s.undoAction e).distinct ∧ (s.undoAction e).lc = s.lc := by
    obtain ⟨b, bin⟩ | ⟨k, rack⟩ := h.action
    · rw [undoAction_bin_eq h bin]
      exact ⟨setPage_distinct d _ _ _, setPage_lc d _ _ _⟩
    · have frame := undoReservation_frame (s.setPage g.id g.page .absent) k g.id g.page
      rw [undoAction_rack_eq h rack]
      refine ⟨?_, by rw [frame.lc (by decide), setPage_lc d]⟩
      unfold State.distinct
      rw [frame.co (by decide)]
      exact setPage_distinct d _ _ _
  obtain ⟨distinct, lc⟩ := undone
  rw [undoEntry_filling h filling, releaseTest_lc distinct, lc]

/-- R11, R13, R44: the state after the lapse of the oldest entry, the diversion of a page of a CLAIMING or COLLECTING set. -/
theorem lapse_filling {g : PageRef} {r : SetRecord} (sound : s.setTableSound) (h : s.diverting e g r)
    (filling : r.state = .claiming ∨ r.state = .collecting) (q : List Entry) :
    (∃ v, ((s.withQueue q).lapse e).findSet g.id = some v ∧ v.status g.page = .absent ∧ v.bin = r.bin)
      ∧ s.setsBut [g.id] ((s.withQueue q).lapse e)
      ∧ ((s.withQueue q).lapse e).gc = { s.gc with queue := q, lapsed := count s.gc.lapsed }
      ∧ s.sameBut [.gc, .co, .hr, .rf, .sc, .dc] ((s.withQueue q).lapse e) := by
  have there := withQueue_diverting h q
  have frame := undoEntry_filling_frame there filling
  have lc := undoEntry_filling_lc (s := s.withQueue q) (distinct_of_sound sound) there filling
  refine ⟨findSet_undoEntry_filling there filling, (undoEntry_courses _ (diverting_isOf there)).1,
    lapse_gc_filling there filling, ?_⟩
  have counted : s.sameBut [.lc, .gc, .co, .hr, .rf, .sc, .dc] ((s.withQueue q).lapse e) := by
    refine sameBut_trans (t := s.withQueue q) (by simp [State.sameBut, State.withQueue]) ?_
    exact sameBut_trans (sameBut_mono frame (by decide)) (by simp [State.sameBut, State.lapse])
  exact counted.without_lc lc

/-- R11: a closing read that finds the queue full is that of the state after the lapse. -/
theorem exec_closing_full (closing : s.closing w) (number : w.number ≠ some 0) (h : s.gc.queue = e :: q)
    (full : 3 ≤ s.gc.queue.length) (room : ((s.withQueue q).lapse e).gc.queue.length < 3)
    (ri : ((s.withQueue q).lapse e).ri = s.ri) (b : Bool) :
    exec (.readerSample false b) s = exec (.readerSample false b) ((s.withQueue q).lapse e) := by
  have there : ((s.withQueue q).lapse e).closing w := by rw [State.closing, ri]; exact closing
  rw [exec_closing closing, exec_closing there, ri, reads_other number, reads_other number, carrierRead_full h full room]

end Sys2Proof.Machine

open Sys2Proof Sys2Proof.Machine

/-- Settles O18: a read is its choice of action (`carrierRead_room`), after the lapse of the oldest entry of a full queue
(`carrierRead_full`) and, at carrier 0, after the LAP. -/
theorem readClassifiedAtClosing : Obligations.ReadClassifiedAtClosing := by
  refine ⟨?_, ?_, ?_, ?_, ?_, ?_, ?_, ?_, rejectAdmission_iff, fillAdmission_iff⟩
  · intro s w n b closing number still low blank room
    have read := reads_lapless number still
    rw [content_empty number low blank, carrierRead_choose room rfl] at read
    refine ⟨_, exec_closing closing b, by rw [read]; rfl, ?_, by rw [read]; simp [State.sameBut]⟩
    rw [withRi_ri, readDone_unreadable, content_empty number low blank]
    rfl
  · intro s w n b closing number still low sensed invalid room
    have read := reads_lapless number still
    rw [content_unreadable number low sensed invalid, carrierRead_choose room rfl] at read
    refine ⟨_, exec_closing closing b, by rw [read]; rfl, ?_, by rw [read]; simp [State.sameBut]⟩
    rw [withRi_ri, readDone_unreadable, content_unreadable number low sensed invalid]
    rfl
  · intro s w b closing unusable room
    have other : w.number ≠ some 0 := by
      intro e
      rw [e] at unusable
      simp at unusable
    have read := reads_other (s := s) other
    rw [content_unusable unusable, carrierRead_choose room rfl] at read
    refine ⟨_, exec_closing closing b, by rw [read]; rfl, ?_, by rw [read]; simp [State.sameBut]⟩
    rw [withRi_ri, readDone_unreadable, content_unusable unusable]
    rfl
  · intro s w n b e q closing number still low blank h full room pass target
    have lapsed : (s.withQueue q).lapse e = _ := lapse_bare (.inl pass) target
    have read := reads_lapless number still
    rw [carrierRead_full h full (by rw [lapsed]; exact room), lapsed, content_empty number low blank,
      carrierRead_choose room rfl] at read
    have admission : ({ s.withQueue q with gc := { (s.withQueue q).gc with lapsed := count (s.withQueue q).gc.lapsed } } :
        State).fillAdmission = s.fillAdmission := by
      simp only [State.fillAdmission, State.commitments, h, List.filter_cons, pass, beq_iff_eq, reduceCtorEq, if_false]
      rfl
    rw [admission] at read
    refine ⟨_, exec_closing closing b, by rw [read]; rfl, by rw [read]; simp [State.sameBut, State.withQueue]⟩
  · intro s w b e q closing h full room action target
    have there : ({ s with gc := { s.gc with queue := q, lapsed := count s.gc.lapsed } } : State).closing w := closing
    rw [exec_closing closing, exec_closing there, reads_full_bare h full room action target]
  · intro s w b e q g r c closing number h full room action target record filling page sound
    have div := diverting_of_bin action target record page
    obtain ⟨found, others, gc, frame⟩ := lapse_filling sound div filling q
    exact ⟨_, found, others, gc, frame,
      exec_closing_full closing number h full (by rw [gc]; exact room) (frame.ri (by decide)) b⟩
  · intro s w b e q g r k closing number h full room action target record filling page sound pocket
    have div := diverting_of_rack action target record page
    obtain ⟨found, others, gc, frame⟩ := lapse_filling sound div filling q
    obtain ⟨free, places⟩ := undoEntry_pocket_filling (withQueue_diverting div q) action pocket filling
    exact ⟨_, found, others, gc, frame, free, places,
      exec_closing_full closing number h full (by rw [gc]; exact room) (frame.ri (by decide)) b⟩
  · intro s w n b closing number high low
    have there : (s.lap.withRi { s.ri with window := some { w with number := some n } }).closing
        { w with number := some n } := ⟨closing.1, closing.2.1, rfl⟩
    have content := content_number (n := n) number (by decide) low
    have read : s.reads w = s.lap.carrierRead 0 w.content := by rw [State.reads, number, if_pos rfl]; rfl
    have read' : (s.lap.withRi { s.ri with window := some { w with number := some n } }).reads { w with number := some n }
        = (s.lap.carrierRead n w.content).withRi { s.ri with window := some { w with number := some n } } := by
      rw [reads_other (by simp; omega), content]
      exact carrierRead_withRi s.lap _ n w.content
    refine ⟨_, _, _, _, exec_closing closing b, exec_closing there b, by rw [read']; rfl, by rw [read, read']; rfl, ?_⟩
    rw [withRi_ri, withRi_ri, readDone_unreadable, readDone_unreadable, content]
    rfl

end

section
/-! ## MARKED reads without a route and without a claim (R10, R70, R107) -/

namespace Sys2Proof.Machine

variable {s : State} {m : Mark} {n : Nat} {j : JobRecord}

/-! ### The sighting (R107) -/

theorem sighting_absent {i : SetId} (h : s.findSet i = none) : s.sighting i = s := by
  simp only [State.sighting, State.updSet, h]

theorem findSet_sighting (s : State) (i : SetId) :
    (s.sighting i).findSet i = (s.findSet i).map (fun r => { r with watch := 0 }) := by
  cases h : s.findSet i with
  | none => rw [sighting_absent h, h]; rfl
  | some r => exact findSet_updSet_same h (show r.id = i from findSet_id h)

theorem sighting_setsBut (s : State) (i : SetId) : s.setsBut [i] (s.sighting i) :=
  fun _ n => findSet_updSet_other s _ (by simpa using n) fun r h => (show r.id = i from findSet_id h)

/-- A sighting changes nothing but the watch of its set. -/
theorem sighting_quiet (d : s.distinct) (i : SetId) :
    s.sighting i = { s with co := { s.co with sets := (s.sighting i).co.sets } } := by
  cases h : s.findSet i with
  | none => rw [sighting_absent h]
  | some r =>
    have id := findSet_id h
    subst id
    have put : s.sighting r.id = s.putSet { r with watch := 0 } := by simp only [State.sighting, State.updSet, h]
    rw [put, putSet_quiet d (r := { r with watch := 0 }) h rfl rfl]

/-! ### The cases of R10 -/

theorem passesMarked_iff (s : State) : s.passesMarked = true ↔ s.bs.state = .dormant ∨ s.bs.state = .joining
    ∨ s.bs.state = .service ∨ s.bs.state = .fault .gate := by
  simp [State.passesMarked, or_assoc]

theorem chooseMarked_passes (h : s.passesMarked = true) : s.chooseMarked m = s.choose .pass := if_pos h

theorem chooseMarked_jobless (open' : s.passesMarked = false) (h : s.findJob m.id.job = none) :
    s.chooseMarked m = s.choose .pass := by
  simp only [State.chooseMarked, open', Bool.false_eq_true, if_false, h]

theorem chooseMarked_done (open' : s.passesMarked = false) (h : s.findJob m.id.job = some j) (done : m.id.num ∈ j.doneMap) :
    s.chooseMarked m = s.countLate.choose s.rejectOrPass := by
  have done' : j.doneMap.contains m.id.num = true := List.contains_iff_mem.mpr done
  simp only [State.chooseMarked, open', Bool.false_eq_true, if_false, h, done', if_true]

/-- R10 cases 4 to 7: a sheet of a set that has no record here and is not done. -/
theorem chooseMarked_unheld (open' : s.passesMarked = false) (h : s.findJob m.id.job = some j) (undone : m.id.num ∉ j.doneMap)
    (unheld : s.findSet m.id = none) : s.chooseMarked m =
      if s.standing m.id then s.choose .pass
      else if j.state ≠ .opened then s.countLate.choose s.rejectOrPass
      else if s.gc.gate = .faulted then s.choose .pass
      else s.claimDecision j m := by
  have undone' : ¬j.doneMap.contains m.id.num = true := fun c => undone (List.contains_iff_mem.mp c)
  simp only [State.chooseMarked, open', Bool.false_eq_true, if_false, h, if_neg undone', unheld]

theorem claimDecision_declines (h : s.mayClaim j = false ∨ s.pocketFor j m.pages = none ∨ s.searchBin = none) :
    s.claimDecision j m = s.choose .pass := by
  unfold State.claimDecision
  split
  · rename_i may pocket bin
    rw [may, pocket, bin] at h
    simp at h
  · rfl

theorem rejectOrPass_faulted (h : s.gc.gate = .faulted) : s.rejectOrPass = .pass := by
  have shut : s.gateShut = true := by simp [State.gateShut, h]
  simp only [State.rejectOrPass, State.rejectAdmission, shut, Bool.not_true, Bool.false_and, Bool.false_eq_true, if_false]

theorem standing_iff (s : State) (i : SetId) : s.standing i = true ↔ (∃ e ∈ s.cu.foreign, e.id = i)
    ∨ (∃ e ∈ s.cu.late, e.id = i) ∨ ∃ r ∈ s.co.sets, r.id = i ∧ r.state ≠ .surrendering := by
  simp [State.standing, or_assoc]

/-! ### The read of a marked sheet -/

/-- A marked read whose choice changes the gate's counters at most. -/
theorem exec_marks {g : Gate} {a : Action} (h : s.marks n m) (queue : g.queue = s.gc.queue)
    (choice : s.chooseMarked m = ({ s with gc := g } : State).choose a) (b : Bool) :
    ∃ x, exec (.readerSample false b) s
      = .next ((s.sighting m.id).withFront x { g with queue := s.gc.queue ++ [Entry.bare n a] }) := by
  obtain ⟨room, still, low, high, last, number, content⟩ := h
  obtain ⟨w, window⟩ : ∃ w, s.ri.window = some w := by
    cases e : s.ri.window with
    | none => rw [e] at number; cases number
    | some w => exact ⟨w, rfl⟩
  rw [window] at number content
  have closing : s.closing w := ⟨high, last, window⟩
  have content' : w.content = .marked m := Option.some.inj content
  have sighted : State.sighting { s with gc := g } m.id = (s.sighting m.id).withFront s.ri g :=
    updSet_withFront s s.ri g m.id _
  have chosen : s.chooseRead (.marked m) =
      { state := (s.sighting m.id).withFront s.ri g, action := a, target := none } := by
    unfold State.chooseRead
    dsimp only
    rw [choice, ← sighted]
    rfl
  have read : s.reads w = (s.sighting m.id).withFront s.ri { g with queue := s.gc.queue ++ [Entry.bare n a] } := by
    rw [reads_lapless number still, content', carrierRead_room room, chosen, ← queue]
    rfl
  exact ⟨_, by rw [exec_closing closing b, read]; rfl⟩

/-- What the clauses say of such a read where the set may have a record. -/
theorem exec_marks_held {g : Gate} {a : Action} (h : s.marks n m) (sound : s.setTableSound) (queue : g.queue = s.gc.queue)
    (choice : s.chooseMarked m = ({ s with gc := g } : State).choose a) (b : Bool) :
    ∃ t, exec (.readerSample false b) s = .next t
      ∧ t.gc = { g with queue := s.gc.queue ++ [Entry.bare n a] }
      ∧ t.findSet m.id = (s.findSet m.id).map (fun r => { r with watch := 0 })
      ∧ t.co = { s.co with sets := t.co.sets }
      ∧ s.setsBut [m.id] t
      ∧ s.sameBut [.ri, .gc, .co] t := by
  obtain ⟨x, read⟩ := exec_marks h queue choice b
  have quiet := sighting_quiet (distinct_of_sound sound) m.id
  refine ⟨_, read, rfl, findSet_sighting s m.id, ?_, sighting_setsBut s m.id, ?_⟩
  · exact congrArg State.co quiet
  · rw [quiet]
    simp [State.sameBut, State.withFront]

/-- What they say where it has none. -/
theorem exec_marks_unheld {g : Gate} {a : Action} (h : s.marks n m) (unheld : s.findSet m.id = none)
    (queue : g.queue = s.gc.queue) (choice : s.chooseMarked m = ({ s with gc := g } : State).choose a) (b : Bool) :
    ∃ t, exec (.readerSample false b) s = .next t
      ∧ t.gc = { g with queue := s.gc.queue ++ [Entry.bare n a] } ∧ s.sameBut [.ri, .gc] t := by
  obtain ⟨x, read⟩ := exec_marks h queue choice b
  rw [sighting_absent unheld] at read
  exact ⟨_, read, rfl, by simp [State.sameBut, State.withFront]⟩

end Sys2Proof.Machine

open Sys2Proof Sys2Proof.Machine

/-- Settles O21: the cases of R10 in their order, each read by `exec_marks`. -/
theorem markedReadCases : Obligations.MarkedReadCases := by
  refine ⟨?_, ?_, ?_, ?_, ?_, ?_, ?_, standing_iff, passesMarked_iff⟩
  · intro s n m b marks sound state
    exact exec_marks_held marks sound rfl (chooseMarked_passes ((passesMarked_iff s).mpr state)) b
  · intro s n m b marks sound open' job
    exact exec_marks_held marks sound rfl (chooseMarked_jobless open' job) b
  · intro s n m j b marks sound open' job done
    exact exec_marks_held (g := { s.gc with late := count s.gc.late }) marks sound rfl (chooseMarked_done open' job done) b
  · intro s n m j b marks open' job undone unheld standing
    exact exec_marks_unheld marks unheld rfl (by rw [chooseMarked_unheld open' job undone unheld, if_pos standing]) b
  · intro s n m j b marks open' job undone unheld standing closed
    have choice := chooseMarked_unheld open' job undone unheld
    rw [standing, if_neg Bool.false_ne_true, if_pos closed] at choice
    exact exec_marks_unheld (g := { s.gc with late := count s.gc.late }) marks unheld rfl choice b
  · intro s n m j b marks open' job undone unheld standing opened declines
    have choice := chooseMarked_unheld open' job undone unheld
    rw [standing, if_neg Bool.false_ne_true, if_neg (by simp [opened])] at choice
    have pass : s.chooseMarked m = s.choose .pass := by
      rw [choice]
      split
      · rfl
      · exact claimDecision_declines (declines.resolve_left ‹_›)
    exact exec_marks_unheld marks unheld rfl pass b
  · intro s n m j b marks open' faulted job late sound
    have choice : s.chooseMarked m = s.countLate.choose .pass := by
      rw [← rejectOrPass_faulted faulted]
      obtain done | ⟨unheld, standing, closed⟩ := late
      · exact chooseMarked_done open' job done
      · by_cases done : m.id.num ∈ j.doneMap
        · exact chooseMarked_done open' job done
        · rw [chooseMarked_unheld open' job done unheld, standing, if_neg Bool.false_ne_true, if_pos closed]
    exact exec_marks_held (g := { s.gc with late := count s.gc.late }) marks sound rfl choice b

end

section
/-! ## A LAP, record by record (R105, R106, R110, R112) -/

namespace Sys2Proof.Machine

variable {s t : State} {r v w : SetRecord} {i j : SetId} {c : Bool}

/-! ### Folds over the sets, each step on its own set -/

theorem updSet_setsBut (s : State) (i : SetId) {f : SetRecord → SetRecord} (keeps : ∀ r, (f r).id = r.id) :
    s.setsBut [i] (s.updSet i f) :=
  fun _ n => findSet_updSet_other s f (by simpa using n) fun r h => (keeps r).trans (findSet_id h)

theorem foldl_setsBut {f : State → SetId → State} (own : ∀ t j, State.setsBut [j] t (f t j)) :
    ∀ (ids : List SetId) (s : State), i ∉ ids → (ids.foldl f s).findSet i = s.findSet i
  | [], _, _ => rfl
  | j :: ids, s, n => by
    obtain ⟨head, tail⟩ := not_or.mp (mt List.mem_cons.mpr n)
    rw [List.foldl_cons, foldl_setsBut own ids (f s j) tail, own s j i (by simpa using head)]

/-- The step on a set finds its record as the fold does. -/
theorem foldl_at {f : State → SetId → State} (own : ∀ t j, State.setsBut [j] t (f t j)) :
    ∀ (ids : List SetId) (s : State), ids.Nodup → i ∈ ids →
      ∃ t, t.findSet i = s.findSet i ∧ (ids.foldl f s).findSet i = (f t i).findSet i
  | [], _, _, m => nomatch m
  | j :: ids, s, nodup, m => by
    obtain ⟨first, rest⟩ := List.nodup_cons.mp nodup
    rw [List.foldl_cons]
    obtain rfl | later := List.mem_cons.mp m
    · exact ⟨s, rfl, foldl_setsBut own ids _ first⟩
    · obtain ⟨t, ht, out⟩ := foldl_at own ids (f s j) rest later
      have other : i ∉ [j] := fun e => first (List.mem_singleton.mp e ▸ later)
      exact ⟨t, ht.trans (own s j i other), out⟩

theorem nodup_ids (d : s.distinct) : (s.co.sets.map (fun r => r.id)).Nodup := List.pairwise_map.mpr d

/-- R106: whether step 2 was taken for a set. -/
theorem counted_contains (d : s.distinct) (h : s.findSet i = some r) :
    ((s.co.sets.filter (fun r => r.counted)).map (fun r => r.id)).contains i = r.counted := by
  rw [Bool.eq_iff_iff, List.contains_iff_mem, List.mem_map]
  constructor
  · rintro ⟨q, m, e⟩
    obtain ⟨mem, counted⟩ := List.mem_filter.mp m
    rwa [mem_unique d mem (e ▸ h)] at counted
  · exact fun counted => ⟨r, List.mem_filter.mpr ⟨findSet_mem h, counted⟩, findSet_id h⟩

/-! ### What each pass makes of a record -/

/-- R110, R113: the record after a REPRINT was offered for it. -/
def SetRecord.offered (r : SetRecord) (k : ReprintWait) (v : SetRecord) : Prop :=
  v = r.reprinted k ∨ v = { r with waiting := k }

/-- R110: the record of a COLLECTING set after the first pass; `c` says step 2 of R106 was taken for it. -/
def SetRecord.passedFirst (c : Bool) (r v : SetRecord) : Prop :=
  r.waiting = .retry ∧ r.anyAbsent = true ∧ r.offered .retry v
    ∨ r.waiting = .policy ∧ (c && r.due) = true ∧ r.offered .policy v
    ∨ v = { r with waiting := .none }

/-- R110: the record after the second pass. -/
def SetRecord.passedSecond (c : Bool) (r v : SetRecord) : Prop := v = r ∨ (c && r.due) = true ∧ r.offered .policy v

/-- R112: the record after the STRANDED test. -/
def SetRecord.passedLast (c : Bool) (r v : SetRecord) : Prop := v = r ∨ c = true ∧ v = { r with stranded := true }

theorem offerReprint_setsBut (s : State) (r : SetRecord) (k : ReprintWait) : s.setsBut [r.id] (s.offerReprint r k) := by
  unfold State.offerReprint
  split
  · exact State.setsBut.trans (t := s.pushRoutine (.reprint r.id r.reprintPages)) (setsBut_of_co rfl) (putSet_setsBut _ rfl)
  · exact putSet_setsBut s rfl

theorem offerReprint_record (h : s.findSet r.id = some r) (k : ReprintWait) :
    ∃ v, (s.offerReprint r k).findSet r.id = some v ∧ r.offered k v := by
  unfold State.offerReprint
  split
  · exact ⟨_, findSet_putSet_same (s := s.pushRoutine (.reprint r.id r.reprintPages)) (r := r.reprinted k) h, .inl rfl⟩
  · exact ⟨_, findSet_putSet_same (r := { r with waiting := k }) h, .inr rfl⟩

theorem offerWaiting_setsBut (s : State) (l : List SetId) (i : SetId) : s.setsBut [i] (s.offerWaiting l i) := by
  unfold State.offerWaiting
  split
  · exact .refl _ s
  · rename_i r h
    have id := findSet_id h
    subst id
    have put : s.setsBut [r.id] (s.putSet { r with waiting := .none }) := putSet_setsBut s rfl
    split
    · exact .refl _ s
    · split
      · exact .refl _ s
      · split
        · exact offerReprint_setsBut s r _
        · exact put
      · split
        · exact offerReprint_setsBut s r _
        · exact put

theorem offerWaiting_record {l : List SetId} (h : s.findSet i = some r) (collecting : r.state = .collecting)
    (counted : l.contains i = c) : ∃ v, (s.offerWaiting l i).findSet i = some v ∧ r.passedFirst c v := by
  have id := findSet_id h
  subst id
  have put : (s.putSet { r with waiting := .none }).findSet r.id = some { r with waiting := .none } :=
    findSet_putSet_same (r := { r with waiting := .none }) h
  unfold State.offerWaiting
  rw [h, counted]
  dsimp only
  rw [if_neg (not_not.mpr collecting)]
  split
  · rename_i none
    exact ⟨r, h, .inr (.inr (by rw [← none]))⟩
  · rename_i retry
    split
    · obtain ⟨v, hv, offered⟩ := offerReprint_record h .retry
      exact ⟨v, hv, .inl ⟨retry, ‹_›, offered⟩⟩
    · exact ⟨_, put, .inr (.inr rfl)⟩
  · rename_i policy
    split
    · obtain ⟨v, hv, offered⟩ := offerReprint_record h .policy
      exact ⟨v, hv, .inr (.inl ⟨policy, ‹_›, offered⟩)⟩
    · exact ⟨_, put, .inr (.inr rfl)⟩

theorem offerDue_setsBut (s : State) (l : List SetId) (i : SetId) : s.setsBut [i] (s.offerDue l i) := by
  unfold State.offerDue
  split
  · exact .refl _ s
  · rename_i r h
    have id := findSet_id h
    subst id
    split
    · exact offerReprint_setsBut s r _
    · exact .refl _ s

theorem offerDue_record {l : List SetId} (h : s.findSet i = some r) (counted : l.contains i = c) :
    ∃ v, (s.offerDue l i).findSet i = some v ∧ r.passedSecond c v := by
  have id := findSet_id h
  subst id
  unfold State.offerDue
  rw [h, counted]
  dsimp only
  split
  · rename_i due
    obtain ⟨v, hv, offered⟩ := offerReprint_record h .policy
    exact ⟨v, hv, .inr ⟨due.2, offered⟩⟩
  · exact ⟨r, h, .inl rfl⟩

theorem strand_setsBut (s : State) (l : List SetId) (i : SetId) : s.setsBut [i] (s.strand l i) := by
  unfold State.strand
  split
  · exact .refl _ s
  · rename_i r h
    have id := findSet_id h
    subst id
    split
    · exact putSet_setsBut s (r := { r with stranded := true }) rfl
    · exact .refl _ s

theorem strand_record {l : List SetId} (h : s.findSet i = some r) (counted : l.contains i = c) :
    ∃ v, (s.strand l i).findSet i = some v ∧ r.passedLast c v := by
  have id := findSet_id h
  subst id
  unfold State.strand
  rw [h, counted]
  dsimp only
  split
  · rename_i test
    exact ⟨_, findSet_putSet_same (r := { r with stranded := true }) h, .inr ⟨(Bool.and_eq_true_iff.mp test).1, rfl⟩⟩
  · exact ⟨r, h, .inl rfl⟩

theorem lap_id (r : SetRecord) : r.lap.id = r.id := by
  unfold SetRecord.lap
  repeat' split
  all_goals rfl

theorem lap_collecting (collecting : r.state = .collecting) :
    r.lap = if r.skipPending then { r with skipPending := false }
      else { r with watch := r.lapWatch, countdown := r.countdown - 1 } := by
  unfold SetRecord.lap
  rw [if_pos collecting]
  rfl

theorem lap_other (other : r.state ≠ .collecting) : r.lap = r := if_neg other

/-- R106, R110, R112: a COLLECTING record goes through the four passes of a LAP. -/
theorem lap_record (d : s.distinct) (h : s.findSet i = some r) (collecting : r.state = .collecting) :
    ∃ a b q, s.lap.findSet i = some q
      ∧ r.lap.passedFirst r.counted a ∧ a.passedSecond r.counted b ∧ b.passedLast r.counted q := by
  have nodup := nodup_ids d
  have mem : i ∈ s.co.sets.map (fun r => r.id) := List.mem_map.mpr ⟨r, findSet_mem h, findSet_id h⟩
  have counted := counted_contains d h
  have lapped : r.lap.state = .collecting := by rw [lap_collecting collecting]; split <;> exact collecting
  obtain ⟨t₁, ht₁, out₁⟩ := foldl_at (f := fun (u : State) i => u.updSet i SetRecord.lap)
    (fun t j => updSet_setsBut t j lap_id) _ s nodup mem
  rw [h] at ht₁
  rw [findSet_updSet_same ht₁ ((lap_id r).trans (findSet_id h))] at out₁
  obtain ⟨t₂, ht₂, out₂⟩ := foldl_at (fun t j => offerWaiting_setsBut t _ j) _ _ nodup mem
  obtain ⟨a, ha, first⟩ := offerWaiting_record (ht₂.trans out₁) lapped counted
  obtain ⟨t₃, ht₃, out₃⟩ := foldl_at (fun t j => offerDue_setsBut t _ j) _ _ nodup mem
  obtain ⟨b, hb, second⟩ := offerDue_record (ht₃.trans (out₂.trans ha)) counted
  obtain ⟨t₄, ht₄, out₄⟩ := foldl_at (fun t j => strand_setsBut t _ j) _ _ nodup mem
  obtain ⟨q, hq, last⟩ := strand_record (ht₄.trans (out₃.trans hb)) counted
  exact ⟨a, b, q, out₄.trans hq, first, second, last⟩

theorem offerWaiting_other {l : List SetId} (h : s.findSet i = some r) (other : r.state ≠ .collecting) :
    s.offerWaiting l i = s := by
  simp only [State.offerWaiting, h, if_pos other]

/-- R106: a record in another state goes through a LAP unchanged. -/
theorem lap_record_other (d : s.distinct) (h : s.findSet i = some r) (other : r.state ≠ .collecting) :
    s.lap.findSet i = some r := by
  have nodup := nodup_ids d
  have mem : i ∈ s.co.sets.map (fun r => r.id) := List.mem_map.mpr ⟨r, findSet_mem h, findSet_id h⟩
  have uncounted : r.counted = false := by simp [SetRecord.counted, other]
  have counted := (counted_contains d h).trans uncounted
  obtain ⟨t₁, ht₁, out₁⟩ := foldl_at (f := fun (u : State) i => u.updSet i SetRecord.lap)
    (fun t j => updSet_setsBut t j lap_id) _ s nodup mem
  rw [h] at ht₁
  rw [findSet_updSet_same ht₁ ((lap_id r).trans (findSet_id h)), lap_other other] at out₁
  obtain ⟨t₂, ht₂, out₂⟩ := foldl_at (fun t j => offerWaiting_setsBut t _ j) _ _ nodup mem
  rw [offerWaiting_other (ht₂.trans out₁) other, ht₂, out₁] at out₂
  obtain ⟨t₃, ht₃, out₃⟩ := foldl_at (fun t j => offerDue_setsBut t _ j) _ _ nodup mem
  obtain ⟨b, hb, same | ⟨due, _⟩⟩ := offerDue_record (ht₃.trans out₂) counted
  · rw [same] at hb
    obtain ⟨t₄, ht₄, out₄⟩ := foldl_at (fun t j => strand_setsBut t _ j) _ _ nodup mem
    obtain ⟨q, hq, same' | ⟨no, _⟩⟩ := strand_record (ht₄.trans (out₃.trans hb)) counted
    · exact out₄.trans (same' ▸ hq)
    · cases no
  · cases due

/-! ### What the passes keep of a record -/

/-- What the passes of a LAP leave as it was, with STRANDED kept once set. -/
structure SetRecord.lapKeeps (r v : SetRecord) : Prop where
  state : v.state = r.state
  map : v.map = r.map
  policy : v.policy = r.policy
  skip : v.skipPending = r.skipPending
  watch : v.watch = r.watch
  stranded : r.stranded = true → v.stranded = true

theorem SetRecord.lapKeeps.trans (h : r.lapKeeps v) (k : v.lapKeeps w) : r.lapKeeps w :=
  ⟨k.state.trans h.state, k.map.trans h.map, k.policy.trans h.policy, k.skip.trans h.skip, k.watch.trans h.watch,
    k.stranded ∘ h.stranded⟩

theorem offered_keeps {k : ReprintWait} (h : r.offered k v) : r.lapKeeps v := by
  obtain rfl | rfl := h <;> exact ⟨rfl, rfl, rfl, rfl, rfl, id⟩

theorem passedFirst_keeps (h : r.passedFirst c v) : r.lapKeeps v := by
  obtain ⟨_, _, offered⟩ | ⟨_, _, offered⟩ | rfl := h
  · exact offered_keeps offered
  · exact offered_keeps offered
  · exact ⟨rfl, rfl, rfl, rfl, rfl, id⟩

theorem passedSecond_keeps (h : r.passedSecond c v) : r.lapKeeps v := by
  obtain rfl | ⟨_, offered⟩ := h
  · exact ⟨rfl, rfl, rfl, rfl, rfl, id⟩
  · exact offered_keeps offered

theorem passedLast_keeps (h : r.passedLast c v) : r.lapKeeps v := by
  obtain rfl | ⟨_, rfl⟩ := h
  · exact ⟨rfl, rfl, rfl, rfl, rfl, id⟩
  · exact ⟨rfl, rfl, rfl, rfl, rfl, fun _ => rfl⟩

/-- R106: where step 2 was not taken, the first pass keeps the attempts and STRANDED, and the others everything. -/
theorem passed_uncounted {a b q : SetRecord} (first : r.passedFirst false a) (second : a.passedSecond false b)
    (last : b.passedLast false q) : q = a ∧ a.attempts = r.attempts ∧ a.stranded = r.stranded := by
  obtain rfl | ⟨no, _⟩ := second
  · obtain rfl | ⟨no, _⟩ := last
    · obtain ⟨_, _, rfl | rfl⟩ | ⟨_, no, _⟩ | rfl := first
      · exact ⟨rfl, rfl, rfl⟩
      · exact ⟨rfl, rfl, rfl⟩
      · cases no
      · exact ⟨rfl, rfl, rfl⟩
    · cases no
  · cases no

/-- R110: with no REPRINT to offer in it, the first pass only ends a waiting one. -/
theorem passedFirst_idle (h : r.passedFirst c v) (due : (c && r.due) = false)
    (retry : r.waiting ≠ .retry ∨ r.anyAbsent = false) :
    v = { r with waiting := .none } := by
  obtain ⟨w, absent, _⟩ | ⟨_, due', _⟩ | e := h
  · rw [w, absent] at retry
    simp at retry
  · rw [due] at due'
    cases due'
  · exact e

theorem anyAbsent_iff : r.anyAbsent = true ↔ .absent ∈ r.map := by
  simp [SetRecord.anyAbsent, SetRecord.anyPage]

/-- R109: a REPRINT due for the record as the LAP has stepped it. -/
theorem due_lap_iff (collecting : r.state = .collecting) : (r.counted && r.lap.due) = true ↔ r.dueAtLap := by
  rw [lap_collecting collecting]
  cases skip : r.skipPending with
  | true => simp [SetRecord.counted, skip, SetRecord.dueAtLap]
  | false =>
    simp only [SetRecord.counted, skip, SetRecord.due, Bool.and_eq_true, anyAbsent_iff, Bool.false_eq_true, if_false,
      decide_eq_true_eq, beq_iff_eq, SetRecord.dueAtLap, true_and, Bool.not_false, and_assoc, Nat.sub_eq_zero_iff_le]

/-- R110, R112: where no REPRINT is due and no RETRY is to be served, the passes end a waiting one and test STRANDED. -/
theorem passed_idle {a b q : SetRecord} (due : (c && r.due) = false) (retry : r.waiting ≠ .retry ∨ r.anyAbsent = false)
    (first : r.passedFirst c a) (second : a.passedSecond c b) (last : b.passedLast c q) :
    q = { r with waiting := .none, stranded := q.stranded } := by
  have ended := passedFirst_idle first due retry
  subst ended
  obtain rfl | ⟨due', _⟩ := second
  · obtain rfl | ⟨_, rfl⟩ := last <;> rfl
  · have : (c && r.due) = true := due'
    rw [due] at this
    cases this

/-! ### What a LAP leaves of the Delivery Controller -/

theorem putSet_dc (h : s.findSet r.id = some v) (load : r.load = v.load) : (s.putSet r).dc = s.dc := by
  unfold State.putSet
  rw [h]
  dsimp only
  rw [(tell_frame _ _).dc (by decide)]
  dsimp only
  rw [modify1_eq_self _ _ fun p => by rw [load, Nat.add_sub_cancel]]

theorem lap_load (r : SetRecord) : r.lap.load = r.load := by
  unfold SetRecord.lap
  repeat' split
  all_goals rfl

theorem offerReprint_dc (h : s.findSet r.id = some r) (k : ReprintWait) : (s.offerReprint r k).dc = s.dc := by
  unfold State.offerReprint
  split
  · exact putSet_dc (s := s.pushRoutine (.reprint r.id r.reprintPages)) (r := r.reprinted k) h rfl
  · exact putSet_dc (r := { r with waiting := k }) h rfl

theorem updSet_lap_dc (s : State) (i : SetId) : (s.updSet i SetRecord.lap).dc = s.dc := by
  unfold State.updSet
  split
  · rfl
  · rename_i r h
    have id := findSet_id h
    subst id
    exact putSet_dc (by rwa [lap_id]) (lap_load r)

theorem offerWaiting_dc (s : State) (l : List SetId) (i : SetId) : (s.offerWaiting l i).dc = s.dc := by
  unfold State.offerWaiting
  split
  · rfl
  · rename_i r h
    have id := findSet_id h
    subst id
    have put : (s.putSet { r with waiting := .none }).dc = s.dc := putSet_dc (r := { r with waiting := .none }) h rfl
    split
    · rfl
    · split
      · rfl
      · split
        · exact offerReprint_dc h _
        · exact put
      · split
        · exact offerReprint_dc h _
        · exact put

theorem offerDue_dc (s : State) (l : List SetId) (i : SetId) : (s.offerDue l i).dc = s.dc := by
  unfold State.offerDue
  split
  · rfl
  · rename_i r h
    have id := findSet_id h
    subst id
    split
    · exact offerReprint_dc h _
    · rfl

theorem strand_dc (s : State) (l : List SetId) (i : SetId) : (s.strand l i).dc = s.dc := by
  unfold State.strand
  split
  · rfl
  · rename_i r h
    have id := findSet_id h
    subst id
    split
    · exact putSet_dc (r := { r with stranded := true }) h rfl
    · rfl

theorem foldl_dc {f : State → SetId → State} (keeps : ∀ t j, (f t j).dc = State.dc t) :
    ∀ (ids : List SetId) (s : State), (ids.foldl f s).dc = s.dc
  | [], _ => rfl
  | j :: ids, s => (foldl_dc keeps ids (f s j)).trans (keeps s j)

theorem lap_dc (s : State) : s.lap.dc = s.dc := by
  unfold State.lap
  dsimp only
  rw [foldl_dc fun t j => strand_dc t _ j, foldl_dc fun t j => offerDue_dc t _ j, foldl_dc fun t j => offerWaiting_dc t _ j,
    foldl_dc updSet_lap_dc]

theorem State.sameBut.without_dc {l : List Block} (h : s.sameBut (.dc :: l) t) (dc : t.dc = s.dc) : s.sameBut l t := by
  simp only [State.sameBut, List.mem_cons, reduceCtorEq, false_or, true_or, not_true_eq_false, false_implies, true_and] at h ⊢
  obtain ⟨ri, gc, jt, cu, co, hr, rf, pw, sc, lc, bs, queue⟩ := h
  exact ⟨ri, gc, jt, cu, co, hr, rf, pw, sc, fun _ => dc, lc, bs, queue⟩

/-- R6: the read of an EMPTY carrier 0 is the LAP, the entry that joins the approach queue, and the Reader Interface. -/
theorem exec_lap {w : Window} (closing : s.closing w) (number : w.number = some 0) (blank : w.sensed = false)
    (room : s.gc.queue.length < 3) (b : Bool) : ∃ x g, exec (.readerSample false b) s = .next (s.lap.withFront x g) := by
  have gc := (lap_frame s).gc (by decide)
  have read : s.reads w = s.lap.carrierRead 0 .empty := by
    rw [State.reads, number, if_pos rfl, content_empty number (by decide) blank]
    rfl
  rw [carrierRead_choose (by rw [gc]; exact room) rfl] at read
  exact ⟨_, _, by rw [exec_closing closing b, read]; rfl⟩

end Sys2Proof.Machine

open Sys2Proof Sys2Proof.Machine

/-- Settles O23: the passes of the LAP, record by record. -/
theorem lapCountsWatch : Obligations.LapCountsWatch := by
  refine ⟨?_, ?_⟩
  · intro s w b i r closing number blank room sound h collecting
    obtain ⟨x, g, read⟩ := exec_lap closing number blank room b
    obtain ⟨p, m, q, hq, first, second, last⟩ := lap_record (distinct_of_sound sound) h collecting
    have keeps := ((passedFirst_keeps first).trans (passedSecond_keeps second)).trans (passedLast_keeps last)
    have frame : s.sameBut [.ri, .gc, .co, .pw, .lc] (s.lap.withFront x g) :=
      State.sameBut.without_dc (sameBut_trans (sameBut_mono (lap_frame s) (by decide))
        (by simp [State.sameBut, State.withFront]))
        (lap_dc s)
    refine ⟨_, read, ⟨q, hq, ?_⟩, frame⟩
    have stepped := lap_collecting collecting
    by_cases skip : r.skipPending = true
    · have uncounted : r.counted = false := by simp [SetRecord.counted, skip]
      rw [if_pos skip] at stepped
      rw [uncounted] at first second last
      rw [stepped] at first keeps
      obtain ⟨rfl, attempts, stranded⟩ := passed_uncounted first second last
      refine ⟨keeps.state.trans collecting, keeps.map, keeps.policy, keeps.skip, ?_,
        fun _ => ⟨attempts, stranded⟩, fun _ idle => ?_,
        fun no => absurd skip (by simp [no]), keeps.stranded⟩
      · rw [if_pos (.inl skip)]
        exact keeps.watch
      · exact passedFirst_idle first rfl (idle.imp id fun n => Bool.eq_false_iff.mpr fun a => n (anyAbsent_iff.mp a))
    · rw [if_neg skip] at stepped
      have watch : q.watch = if r.skipPending = true ∨ 15 ≤ r.watch then r.watch else r.watch + 1 := by
        rw [keeps.watch, stepped]
        change r.lapWatch = _
        by_cases low : r.watch < 15
        · simp [SetRecord.lapWatch, low, skip, Nat.not_le.mpr low]
        · simp [SetRecord.lapWatch, low, Nat.not_lt.mp low]
      have idle : ¬r.dueAtLap → r.waiting ≠ .retry ∨ .absent ∉ r.map →
          q = { r with watch := q.watch, countdown := r.countdown - 1, waiting := .none, stranded := q.stranded } := by
        intro due retry
        have due' : (r.counted && r.lap.due) = false := Bool.eq_false_iff.mpr fun d => due ((due_lap_iff collecting).mp d)
        refine (passed_idle due' ?_ first second last).trans ?_
        · rw [stepped]
          exact retry.imp id fun n => Bool.eq_false_iff.mpr fun a => n (anyAbsent_iff.mp a)
        · rw [keeps.watch, stepped]
      rw [stepped] at keeps
      exact ⟨keeps.state.trans collecting, keeps.map, keeps.policy, keeps.skip.trans (Bool.eq_false_iff.mpr skip), watch,
        fun yes => absurd yes skip, fun yes => absurd yes skip, fun _ => idle, keeps.stranded⟩
  · intro s w b i r closing number blank room sound h other
    obtain ⟨x, g, read⟩ := exec_lap closing number blank room b
    exact ⟨_, read, lap_record_other (distinct_of_sound sound) h other⟩

end

section
/-! ## What a surrender leaves of the other sets: their YIELDs and their TRANSFERs (R94, R96, R117, R118) -/

namespace Sys2Proof.Machine

/-- No TRANSFER of the set is in flight, and none can start as things stand. -/
def State.transferWaits (i : SetId) (s : State) : Prop := s.transfersWait ∧ s.transferInFlight i = false

/-- No TRANSFER of the set is queued. -/
def State.transferless (i : SetId) (s : State) : Prop := ∀ q ∈ s.sc.carriageQueue, q.id = i → q.isUnload = true

/-- The operation brings the set no YIELD, takes none from it, and does not touch its TRANSFER. -/
structure State.spares (i : SetId) (s t : State) : Prop where
  due : ∀ y, t.yieldDue i y ↔ s.yieldDue i y
  flight : s.transferInFlight i = true → t.transferInFlight i = true
  wait : s.transferWaits i → t.transferWaits i
  queue : s.transferless i → t.transferless i

/-- The operation leaves the Stapler Controller, the Claim Unit and the urgent queue as they are. -/
def State.still (s t : State) : Prop := t.sc = s.sc ∧ t.cu = s.cu ∧ t.lc.urgent = s.lc.urgent

variable {s t u : State} {i j : SetId} {r : SetRecord}

theorem State.spares.refl (i : SetId) (s : State) : s.spares i s := ⟨fun _ => .rfl, id, id, id⟩

theorem State.spares.trans (h : s.spares i t) (k : t.spares i u) : s.spares i u :=
  ⟨fun y => (k.due y).trans (h.due y), k.flight ∘ h.flight, k.wait ∘ h.wait, k.queue ∘ h.queue⟩

theorem spares_foldl {α : Type} (f : State → α → State) (h : ∀ t x, State.spares i t (f t x)) :
    ∀ (xs : List α) (s : State), s.spares i (xs.foldl f s)
  | [], s => .refl i s
  | x :: xs, s => (h s x).trans (spares_foldl f h xs (f s x))

theorem transferInFlight_of_carriage (h : t.sc.carriage = s.sc.carriage) : t.transferInFlight i = s.transferInFlight i := by
  simp only [State.transferInFlight, State.carriageInFlight, h]

/-- An operation on notices. -/
theorem spares_of_due (sc : t.sc = s.sc) (due : ∀ y, t.yieldDue i y ↔ s.yieldDue i y) : s.spares i t := by
  have flight : t.transferInFlight i = s.transferInFlight i := transferInFlight_of_carriage (by rw [sc])
  have wait : t.transfersWait ↔ s.transfersWait := by simp only [State.transfersWait, State.jawsInUse, sc]
  exact ⟨due, fun h => flight.trans h, fun h => ⟨wait.mpr h.1, flight.trans h.2⟩,
    fun h => by rw [State.transferless, sc]; exact h⟩

theorem State.still.spares (h : s.still t) (i : SetId) : s.spares i t := by
  obtain ⟨sc, cu, urgent⟩ := h
  exact spares_of_due sc fun y => by simp only [State.yieldDue, cu, urgent]

theorem State.still.refl (s : State) : s.still s := ⟨rfl, rfl, rfl⟩

theorem State.still.trans (h : s.still t) (k : t.still u) : s.still u :=
  ⟨k.1.trans h.1, k.2.1.trans h.2.1, k.2.2.trans h.2.2⟩

theorem still_foldl {α : Type} (f : State → α → State) (h : ∀ t x, State.still t (f t x)) :
    ∀ (xs : List α) (s : State), s.still (xs.foldl f s)
  | [], s => .refl s
  | x :: xs, s => (h s x).trans (still_foldl f h xs (f s x))

/-! ### Operations that queue no urgent notice and no carriage request -/

variable (s)

theorem addDue_urgent (k : DueKind) : (s.addDue k).lc.urgent = s.lc.urgent := by
  unfold State.addDue
  split <;> rfl

theorem wantState_urgent : s.wantState.lc.urgent = s.lc.urgent := by
  unfold State.wantState
  split
  · rfl
  · split
    · rfl
    · split
      · rfl
      · exact addDue_urgent s _

theorem wantHello_urgent : s.wantHello.lc.urgent = s.lc.urgent := by
  unfold State.wantHello
  split
  · rfl
  · split
    · rfl
    · exact addDue_urgent s _

theorem tell_still (old new : State) : new.still (State.tell old new) :=
  have frame := tell_frame old new
  ⟨frame.sc (by decide), frame.cu (by decide), tell_urgent old new⟩

theorem setBin_still (b : Nat) (x : BinState) : s.still (s.setBin b x) := tell_still s _

theorem freeBin_still (b : Nat) : s.still (s.freeBin b) := by
  unfold State.freeBin
  split
  · exact setBin_still s b _
  · exact .refl s

theorem unbindingTest_still (p : Nat) : s.still (s.unbindingTest p) := by
  unfold State.unbindingTest
  split
  · exact .refl s
  · split
    · exact tell_still s _
    · exact .refl s

theorem putSet_still (r : SetRecord) : s.still (s.putSet r) := by
  unfold State.putSet
  split
  · exact .refl s
  · exact tell_still s _

theorem setPage_still (i : SetId) (p : Nat) (x : PageStatus) : s.still (s.setPage i p x) := by
  unfold State.setPage State.updSet
  split
  · exact .refl s
  · exact putSet_still s _

theorem dropSet_still (r : SetRecord) : s.still (s.dropSet r) := by
  refine .trans ?_ (unbindingTest_still _ _)
  exact tell_still s _

theorem setBay_still (x : BayState) : s.still (s.setBay x) :=
  have frame := setBay_frame s x
  ⟨frame.sc (by decide), frame.cu (by decide), wantState_urgent _⟩

theorem drainTest_still : s.still s.drainTest := by
  unfold State.drainTest
  split
  · exact setBay_still s _
  · exact .refl s

theorem undoReservation_still (k : Nat) (i : SetId) (p : Nat) : s.still (s.undoReservation k i p) := by
  unfold State.undoReservation
  split
  · exact .refl s
  · exact .refl s

theorem undoPage_still (g : PageRef) : s.still (s.undoPage g) := by
  unfold State.undoPage
  split
  · exact .refl s
  · split
    · exact setPage_still s _ _ _
    · exact .refl s

theorem undoAction_still (e : Entry) : s.still (s.undoAction e) := by
  unfold State.undoAction
  split
  · exact undoPage_still s _
  · exact (undoPage_still s _).trans (undoReservation_still _ _ _ _)
  · exact .refl s

theorem rewriteSet_still (i : SetId) : s.still (s.rewriteSet i) :=
  still_foldl State.undoAction undoAction_still _ s

theorem arbiterIssue_still : s.still s.arbiterIssue :=
  have frame := arbiterIssue_frame s
  ⟨frame.sc (by decide), frame.cu (by decide), by rw [frame.lc (by decide)]⟩

/-! ### The carriage's requests -/

theorem setJaw_sc (j : JawName) (x : JawState) : (s.setJaw j x).sc.carriage = s.sc.carriage
    ∧ (s.setJaw j x).sc.carriageQueue = s.sc.carriageQueue := by
  cases j <;> exact ⟨rfl, rfl⟩

theorem chooseJaw_none (h : s.sc.jawA ≠ .free ∧ s.sc.jawB ≠ .free) : s.chooseJaw = none := by
  have taken : ∀ j, s.jaw j ≠ .free := fun j => by cases j; exact h.1; exact h.2
  simp only [State.chooseJaw, if_neg (taken _)]

/-- R118: with no TRANSFER able to start, none does. -/
theorem carriageIssue_transfer {b : Nat} {rest : List CarriageRequest} (wait : s.transfersWait) (idle : s.sc.carriage = .idle)
    (head : s.sc.carriageQueue = .transfer j b :: rest) : s.carriageIssue = s := by
  unfold State.carriageIssue
  rw [if_pos idle, head]
  dsimp only
  obtain busy | jaws | full | unload := wait
  · exact absurd idle busy
  · rw [chooseJaw_none s jaws]
  · split
    · rfl
    · rw [if_neg]
      change ¬s.sc.doneList.length < 8 - s.jawsInUse
      omega
  · rw [head] at unload
    cases unload _ rfl

theorem carriageIssue_spares (i : SetId) : s.spares i s.carriageIssue := by
  by_cases idle : s.sc.carriage = .idle
  · have grounded : s.transferInFlight i = false := by simp only [State.transferInFlight, State.carriageInFlight, idle]
    have frame := carriageIssue_frame s
    refine ⟨fun y => ?_, fun h => ?_, fun ⟨wait, _⟩ => ?_, fun less => ?_⟩
    · simp only [State.yieldDue, frame.cu (by decide), frame.lc (by decide)]
    · rw [grounded] at h
      cases h
    · cases queue : s.sc.carriageQueue with
      | nil => rw [carriageIssue_of_empty queue]; exact ⟨wait, grounded⟩
      | cons d rest =>
        cases d with
        | transfer j b => rw [carriageIssue_transfer s wait idle queue]; exact ⟨wait, grounded⟩
        | unload j b m =>
          unfold State.carriageIssue
          rw [if_pos idle, queue]
          dsimp only
          split
          · exact ⟨.inl nofun, rfl⟩
          · exact ⟨wait, grounded⟩
    · unfold State.carriageIssue
      rw [if_pos idle]
      cases queue : s.sc.carriageQueue with
      | nil => exact less
      | cons d rest =>
        have tail : ∀ q ∈ rest, q.id = i → q.isUnload = true := fun q m => less q (queue ▸ List.mem_cons_of_mem _ m)
        cases d with
        | transfer j b =>
          dsimp only
          split
          · exact less
          · split
            · rw [State.transferless, (setJaw_sc _ _ _).2]
              exact tail
            · exact less
        | unload j b m =>
          dsimp only
          split
          · exact tail
          · exact less
  · rw [carriageIssue_of_busy idle]
    exact .refl i s

theorem arbiter_spares (i : SetId) : s.spares i s.arbiter := by
  unfold State.arbiter
  dsimp only
  split
  · exact (arbiterIssue_still s).spares i
  · exact ((arbiterIssue_still s).spares i).trans (carriageIssue_spares _ i)

theorem startTest_spares (i : SetId) : s.spares i s.startTest := by
  unfold State.startTest
  dsimp only
  split
  · exact carriageIssue_spares s i
  · exact (carriageIssue_spares s i).trans ((arbiterIssue_still _).spares i)

theorem queueRelease_spares (d : Release) (i : SetId) : s.spares i (s.queueRelease d) := by
  have queued : s.still { s with hr := { s.hr with releases := s.hr.releases ++ [d] } } := ⟨rfl, rfl, rfl⟩
  exact (queued.spares i).trans (arbiter_spares _ i)

/-- R119: a FREE jaw is chosen. -/
theorem chooseJaw_some (h : ¬(s.sc.jawA ≠ .free ∧ s.sc.jawB ≠ .free)) : ∃ j, s.chooseJaw = some j := by
  unfold State.chooseJaw
  split
  · exact ⟨_, rfl⟩
  · split
    · exact ⟨_, rfl⟩
    · rename_i other last
      refine absurd ?_ h
      cases e : s.sc.lastJaw <;> rw [e] at other last
      · exact ⟨last, other⟩
      · exact ⟨other, last⟩

/-- The carriage queue written. -/
def State.withCarriage (s : State) (l : List CarriageRequest) : State := { s with sc := { s.sc with carriageQueue := l } }

theorem queueCarriage_eq (d : CarriageRequest) : s.queueCarriage d =
    if s.sc.carriageQueue = [] then (s.withCarriage (s.sc.carriageQueue ++ [d])).startTest
    else s.withCarriage (s.sc.carriageQueue ++ [d]) := rfl

theorem withdrawCarriage_eq (i : SetId) (x : Bool) : s.withdrawCarriage i x =
    if s.sc.carriageQueue.head?.any (fun r => r.id == i && r.isUnload == x) then
      (s.withCarriage (s.sc.carriageQueue.filter (fun r => !(r.id == i && r.isUnload == x)))).startTest
    else s.withCarriage (s.sc.carriageQueue.filter (fun r => !(r.id == i && r.isUnload == x))) := rfl

/-- A change of the carriage queue that keeps an UNLOAD at its head and brings no TRANSFER of the set. -/
theorem withCarriage_spares {l : List CarriageRequest} (i : SetId)
    (head : (∀ q ∈ s.sc.carriageQueue.head?, q.isUnload = true) → ∀ q ∈ l.head?, q.isUnload = true)
    (less : s.transferless i → ∀ q ∈ l, q.id = i → q.isUnload = true) : s.spares i (s.withCarriage l) :=
  ⟨fun _ => .rfl, id, fun ⟨wait, grounded⟩ => ⟨wait.imp id (Or.imp id (Or.imp id head)), grounded⟩, less⟩

/-- R118: the TRANSFER at the head of the queue of an IDLE carriage starts, unless it has to wait. -/
theorem startTest_starts {b : Nat} {rest : List CarriageRequest} (head : s.sc.carriageQueue = .transfer j b :: rest)
    (start : ¬s.transfersWait) : ∃ x, s.startTest.sc.carriage = .busy (.transfer j b) x := by
  simp only [State.transfersWait, not_or, not_not] at start
  obtain ⟨idle, jaws, room, _⟩ := start
  obtain ⟨jaw, chosen⟩ := chooseJaw_some s jaws
  have below : s.sc.doneList.length < Config.doneMax - s.jawsInUse := by
    change s.sc.doneList.length < 8 - s.jawsInUse
    omega
  have issue : s.carriageIssue = State.setJaw { s with sc := { s.sc with
      carriageQueue := rest, carriage := .busy (.transfer j b) (some jaw), lastJaw := jaw } } jaw (.loading j) := by
    unfold State.carriageIssue
    rw [if_pos idle, head]
    dsimp only
    rw [chosen]
    exact if_pos below
  have same : s.startTest = s.carriageIssue := by
    unfold State.startTest
    dsimp only
    rw [issue, if_pos]
    exact congrArg Feeder.onWay ((setJaw_frame _ _ _).rf (by decide))
  exact ⟨some jaw, by rw [same, issue, (setJaw_sc _ _ _).1]⟩

/-- R117, R118: a request that is no TRANSFER of the set joins the carriage queue. -/
theorem queueCarriage_spares {d : CarriageRequest} (i : SetId) (other : d.id = i → d.isUnload = true) :
    s.spares i (s.queueCarriage d) := by
  have less : s.transferless i → ∀ q ∈ s.sc.carriageQueue ++ [d], q.id = i → q.isUnload = true := by
    intro less q m
    obtain m | m := List.mem_append.mp m
    · exact less q m
    · rw [List.mem_singleton.mp m]
      exact other
  rw [queueCarriage_eq]
  split
  · rename_i empty
    have tested := startTest_spares (s.withCarriage (s.sc.carriageQueue ++ [d])) i
    cases d with
    | unload j b m =>
      refine .trans (withCarriage_spares s i (fun _ => ?_) less) tested
      rw [empty]
      rintro q ⟨⟩
      rfl
    | transfer j b =>
      refine ⟨tested.due, tested.flight, fun ⟨_, grounded⟩ => ?_, fun l => tested.queue (less l)⟩
      by_cases wait : (s.withCarriage (s.sc.carriageQueue ++ [.transfer j b])).transfersWait
      · exact tested.wait ⟨wait, grounded⟩
      · have head : (s.withCarriage (s.sc.carriageQueue ++ [.transfer j b])).sc.carriageQueue = [.transfer j b] := by
          change s.sc.carriageQueue ++ _ = _
          rw [empty, List.nil_append]
        obtain ⟨x, busy⟩ := startTest_starts _ head wait
        refine ⟨.inl (by rw [busy]; nofun), ?_⟩
        have distinct : j ≠ i := fun e => nomatch other e
        simp [State.transferInFlight, State.carriageInFlight, busy, CarriageRequest.isUnload, CarriageRequest.id, distinct]
  · rename_i filled
    refine withCarriage_spares s i (fun head => ?_) less
    cases queue : s.sc.carriageQueue with
    | nil => exact absurd queue filled
    | cons x l =>
      rw [queue] at head
      exact head

theorem withdrawCarriage_spares (j i : SetId) : s.spares i (s.withdrawCarriage j false) := by
  have left : s.spares i (s.withCarriage (s.sc.carriageQueue.filter (fun r => !(r.id == j && r.isUnload == false)))) := by
    refine withCarriage_spares s i (fun head => ?_) fun less q m => less q (List.mem_of_mem_filter m)
    cases queue : s.sc.carriageQueue with
    | nil => exact nofun
    | cons x l =>
      rw [queue] at head
      have unload : x.isUnload = true := head x rfl
      rw [List.filter_cons, if_pos (by simp [unload])]
      rintro q ⟨⟩
      exact unload
  rw [withdrawCarriage_eq]
  split
  · exact left.trans (startTest_spares _ i)
  · exact left

theorem withdrawCarriage_transferless (i : SetId) : (s.withdrawCarriage i false).transferless i := by
  have left : (s.withCarriage (s.sc.carriageQueue.filter (fun r => !(r.id == i && r.isUnload == false)))).transferless i := by
    intro q m e
    simpa [e] using (List.mem_filter.mp m).2
  rw [withdrawCarriage_eq]
  split
  · exact (startTest_spares _ i).queue left
  · exact left

/-! ### The Claim Unit's waiting notices (R82, R88, R94) -/

theorem markQueued_waiting (c : ClaimUnit) (i : SetId) : (c.markQueued i).waiting = c.waiting := rfl

theorem formHeld_due {rest : List Waiting} (head : s.cu.waiting = .helds :: rest) (i : SetId) (y : YieldReason) :
    (s.formHeld rest).yieldDue i y ↔ s.yieldDue i y := by
  unfold State.formHeld State.yieldDue
  dsimp only
  rw [head]
  split <;> split <;> simp [TxEntry.fresh]

theorem queueWaiting_spares (i : SetId) : s.spares i s.queueWaiting := by
  refine spares_of_due ((queueWaiting_frame s).sc (by decide)) fun y => ?_
  unfold State.queueWaiting
  split
  · split
    · rfl
    · rename_i j z rest head
      simp only [State.yieldDue, State.pushUrgent_lc, State.pushUrgent_cu, apply_ite ClaimUnit.waiting, markQueued_waiting,
        ite_self, head, List.mem_append, List.mem_cons, Waiting.yield.injEq]
      simp [or_and_right, exists_or, TxEntry.fresh, or_assoc, eq_comm]
    · exact formHeld_due s ‹_› i y
  · rfl

theorem queueWaitings_spares (i : SetId) : ∀ (n : Nat) (s : State), s.spares i (State.queueWaitings n s)
  | 0, s => .refl i s
  | n + 1, s => (queueWaiting_spares s i).trans (queueWaitings_spares i n _)

theorem refillUrgent_spares (i : SetId) : s.spares i s.refillUrgent := queueWaitings_spares i _ s

/-- R94: the YIELD of a set is due once it was made due. -/
theorem dueYield_due (i : SetId) (y : YieldReason) : (s.dueYield i y).yieldDue i y := by
  unfold State.dueYield
  refine ((refillUrgent_spares _ i).due y).mpr (.inr ?_)
  simp

theorem dueYield_spares {i j : SetId} (other : j ≠ i) (y : YieldReason) : s.spares i (s.dueYield j y) := by
  refine .trans ?_ (refillUrgent_spares _ i)
  refine spares_of_due rfl fun z => ?_
  simp [State.yieldDue, Ne.symm other]

theorem withdrawClaim_spares (j i : SetId) : s.spares i (s.withdrawClaim j) := by
  have left : s.spares i { s with lc := { s.lc with urgent := withdrawFrom s.lc.urgent (Notice.isClaimOf j) } } := by
    have kept : ∀ y, (∃ e ∈ withdrawFrom s.lc.urgent (Notice.isClaimOf j), e.notice = .yield i y)
        ↔ ∃ e ∈ s.lc.urgent, e.notice = .yield i y := by
      intro y
      unfold withdrawFrom dropWaiting
      constructor
      · rintro ⟨x, m, h⟩
        obtain ⟨e, me, rfl⟩ := List.mem_map.mp m
        refine ⟨e, List.mem_of_mem_filter me, ?_⟩
        rw [← h]
        split <;> rfl
      · rintro ⟨e, m, h⟩
        have spared : Notice.isClaimOf j e.notice = false := by rw [h]; rfl
        refine ⟨_, List.mem_map.mpr ⟨e, List.mem_filter.mpr ⟨m, ?_⟩, rfl⟩, ?_⟩
        · rw [spared]; rfl
        · rw [spared]; exact h
    exact spares_of_due rfl fun y => or_congr_left (kept y)
  unfold State.withdrawClaim State.withdrawUrgent
  dsimp only
  split
  · exact left
  · exact left.trans (refillUrgent_spares _ i)

/-! ### Bay states and the course of a set -/

theorem enterJoining_spares (i : SetId) : s.spares i s.enterJoining := by
  have frame := enterJoining_frame s
  have waiting : ∀ y, .yield i y ∈ s.enterJoining.cu.waiting ↔ .yield i y ∈ s.cu.waiting := by
    intro y
    unfold State.enterJoining
    rw [(wantHello_frame _).cu (by decide)]
    change Waiting.yield i y ∈ (s.setBay .joining).cu.waiting.filter (· != .helds) ↔ _
    rw [(setBay_frame s .joining).cu (by decide), List.mem_filter]
    simp
  have urgent : s.enterJoining.lc.urgent = s.lc.urgent := by
    unfold State.enterJoining
    rw [wantHello_urgent]
    exact (setBay_still s .joining).2.2
  exact spares_of_due (frame.sc (by decide)) fun y => by rw [State.yieldDue, State.yieldDue, waiting, urgent]

theorem rejoinTest_spares (i : SetId) : s.spares i s.rejoinTest := by
  unfold State.rejoinTest
  split
  · exact enterJoining_spares s i
  · exact .refl i s

theorem removeSet_spares (j i : SetId) : s.spares i (s.removeSet j) := by
  unfold State.removeSet
  split
  · exact .refl i s
  · exact (((dropSet_still s _).trans (drainTest_still _)).spares i).trans (rejoinTest_spares _ i)

theorem removalTest_spares (j i : SetId) : s.spares i (s.removalTest j) := by
  unfold State.removalTest
  split
  · exact .refl i s
  · split
    · exact removeSet_spares s j i
    · exact .refl i s

theorem unloadTest_spares (j i : SetId) : s.spares i (s.unloadTest j) := by
  unfold State.unloadTest
  split
  · exact .refl i s
  · split
    · exact .refl i s
    · split
      · split
        · exact ((freeBin_still s _).trans (putSet_still _ _)).spares i
        · exact queueCarriage_spares s i fun _ => rfl
      · exact .refl i s

theorem releaseToFeeder_spares (j : SetId) (p : Nat) (i : SetId) : s.spares i (s.releaseToFeeder j p) := by
  unfold State.releaseToFeeder
  split
  · exact .refl i s
  · split
    · exact ((setPage_still s _ _ _).spares i).trans (queueRelease_spares _ _ i)
    · exact .refl i s

theorem releaseTest_spares (j i : SetId) : s.spares i (s.releaseTest j) := by
  unfold State.releaseTest
  split
  · exact .refl i s
  · split
    · exact ((setPage_still s _ _ _).spares i).trans (queueRelease_spares _ _ i)
    · exact .refl i s

theorem beginSurrender_spares (r : SetRecord) (i : SetId) : s.spares i (s.beginSurrender r) := by
  have claimless : s.spares i (s.claimless r) := by
    unfold State.claimless
    split
    · exact withdrawClaim_spares s _ i
    · exact .refl i s
  have counted : ((s.claimless r).putSet r.surrendered).still ((s.claimless r).putSet r.surrendered).countSurrender :=
    ⟨rfl, rfl, rfl⟩
  have begun := claimless.trans (((putSet_still _ r.surrendered).trans counted).spares i)
  rw [beginSurrender_eq]
  split
  · exact begun.trans (withdrawCarriage_spares _ _ i)
  · exact begun

/-- R93 steps 5 to 8. -/
def State.afterYield (s : State) (r : SetRecord) : State :=
  ((r.wanted.foldl (fun (t : State) p => t.releaseToFeeder r.id p) ((s.rewriteSet r.id).redirect r.id)).unloadTest
    r.id).removalTest r.id

theorem endSurrender_eq (r : SetRecord) (y : Option YieldReason) : s.endSurrender r y =
    match y with
    | some x => (if r.state = .claiming then s else s.dueYield r.id x).afterYield r
    | none => s.afterYield r := by
  cases y <;> rfl

theorem afterYield_spares (r : SetRecord) (i : SetId) : s.spares i (s.afterYield r) := by
  refine .trans ?_ (removalTest_spares _ _ i)
  refine .trans ?_ (unloadTest_spares _ _ i)
  refine .trans ?_ (spares_foldl _ (fun t p => releaseToFeeder_spares t r.id p i) _ _)
  have redirected : (s.rewriteSet r.id).still ((s.rewriteSet r.id).redirect r.id) := ⟨rfl, rfl, rfl⟩
  exact ((rewriteSet_still s r.id).trans redirected).spares i

variable {s}

/-- R81, R93: a surrender concerns another set's YIELDs and TRANSFER in nothing, and a CLAIMING set's neither. -/
theorem endSurrender_spares {y : Option YieldReason} (h : r.id ≠ i ∨ r.state = .claiming) :
    s.spares i (s.endSurrender r y) := by
  rw [endSurrender_eq]
  split
  · refine .trans ?_ (afterYield_spares _ r i)
    split
    · exact .refl i s
    · exact dueYield_spares s (h.resolve_right ‹_›) _
  · exact afterYield_spares s r i

theorem surrender_spares {y : Option YieldReason} (h : j ≠ i ∨ ∀ r, s.findSet j = some r → r.state = .claiming) :
    s.spares i (s.surrender j y) := by
  unfold State.surrender
  split
  · exact .refl i s
  · rename_i r found
    have id := findSet_id found
    subst id
    exact (beginSurrender_spares s r i).trans (endSurrender_spares (h.imp_right fun c => c r found))

/-- R93, R94: a surrender with a reason makes the YIELD due, of a set that was not CLAIMING. -/
theorem surrender_due {y : YieldReason} (found : s.findSet i = some r) (state : r.state ≠ .claiming) :
    (s.surrender i (some y)).yieldDue i y := by
  have id := findSet_id found
  subst id
  unfold State.surrender
  rw [found]
  dsimp only
  rw [endSurrender_eq]
  dsimp only
  rw [if_neg state]
  exact ((afterYield_spares _ r r.id).due y).mpr (dueYield_due _ _ _)

/-- R93 step 3: no TRANSFER of a COMPLETE set stays queued. -/
theorem surrender_transferless {y : Option YieldReason} (found : s.findSet i = some r) (state : r.state = .complete) :
    (s.surrender i y).transferless i := by
  have id := findSet_id found
  subst id
  have begun : (s.beginSurrender r).transferless r.id := by
    rw [beginSurrender_eq, if_pos state]
    exact withdrawCarriage_transferless _ _
  unfold State.surrender
  rw [found]
  dsimp only
  rw [endSurrender_eq]
  split
  · refine (afterYield_spares _ r r.id).queue ?_
    split
    · exact begun
    · rw [State.transferless, (dueYield_frame _ _ _).sc (by decide)]
      exact begun
  · exact (afterYield_spares _ r r.id).queue begun

theorem completeSet_spares {x : Bool} (other : r.id ≠ i) : s.spares i (s.completeSet r x) :=
  ((putSet_still s _).spares i).trans (queueCarriage_spares _ i fun e => absurd e other)

/-- No completion test completes or surrenders the record as it stands (R49, R51). -/
def SetRecord.unfinished (r : SetRecord) : Prop :=
  (r.state = .collecting → ∃ p ∈ numbers r.map.length, r.status p ≠ .placed) ∧ r.state ≠ .finishing

/-- R49, R51: the set, if it has a record, is not one that the completion test completes or surrenders. -/
def State.unfinished (i : SetId) (s : State) : Prop := ∀ r, s.findSet i = some r → r.unfinished

theorem unfinished_courses {r v : SetRecord} (h : r.courses v) (open' : r.unfinished) : v.unfinished := by
  obtain ⟨collecting, finishing⟩ := open'
  constructor
  · intro state
    have was : r.state = .collecting := by
      obtain e | e | ⟨e, _⟩ := h.state
      · exact e.symm.trans state
      · rw [state] at e; cases e
      · rw [state] at e; cases e
    obtain ⟨p, inside, unplaced⟩ := collecting was
    refine ⟨p, by rwa [h.length], fun placed => ?_⟩
    obtain e | e | ⟨_, _, e⟩ := h.page p
    · exact unplaced (e.symm.trans placed)
    · rw [placed] at e; cases e
    · rw [placed] at e; cases e
  · intro state
    obtain e | e | ⟨e, _⟩ := h.state
    · exact finishing (e.symm.trans state)
    · rw [state] at e; cases e
    · rw [state] at e; cases e

theorem State.courses.unfinished (h : s.courses j t) (open' : s.unfinished i) : t.unfinished i := by
  intro v hv
  by_cases e : i = j
  · subst e
    obtain ⟨r, hr, c⟩ := h.2 v hv
    exact unfinished_courses c (open' r hr)
  · rw [h.1 i (by simpa using e)] at hv
    exact open' v hv

theorem unfinished_unplaced (h : r.unfinished) (collecting : r.state = .collecting) : r.map.all (· == .placed) = false := by
  obtain ⟨p, inside, unplaced⟩ := h.1 collecting
  exact Bool.eq_false_iff.mpr fun all => unplaced (allPlaced_iff.mp all p inside)

theorem completionTest_spares (h : j ≠ i ∨ s.unfinished j) : s.spares i (s.completionTest j) := by
  unfold State.completionTest
  split
  · exact .refl i s
  · rename_i r found
    have id := findSet_id found
    subst id
    split
    · rename_i collecting
      split
      · rename_i all
        exact completeSet_spares (h.resolve_right fun c => by rw [unfinished_unplaced (c r found) collecting] at all; cases all)
      · exact .refl i s
    · rename_i finishing
      have other : r.id ≠ i := h.resolve_right fun c => (c r found).2 finishing
      split
      · exact .refl i s
      · split
        · exact surrender_spares (.inl other)
        · exact completeSet_spares other
    · exact .refl i s

theorem afterChange_spares (h : j ≠ i ∨ s.unfinished j) : s.spares i (s.afterChange j) := by
  have filling : s.spares i ((s.releaseTest j).completionTest j) :=
    (releaseTest_spares s j i).trans (completionTest_spares (h.imp_right (releaseTest_courses s j).unfinished))
  unfold State.afterChange
  split
  · exact .refl i s
  · split
    · exact filling
    · exact filling
    · exact filling
    · exact (unloadTest_spares s j i).trans (removalTest_spares _ j i)
    · exact .refl i s
    · exact .refl i s
    · exact .refl i s

theorem Entry.exists_isOf (e : Entry) : ∃ j, e.isOf j := by
  cases target : e.target with
  | none => exact ⟨⟨0, 0⟩, fun g hg => by rw [target] at hg; cases hg⟩
  | some g => exact ⟨g.id, fun x hx => by rw [target] at hx; cases hx; rfl⟩

/-- R44: the undoing of an entry keeps a set unfinished. -/
theorem undoEntry_unfinished {e : Entry} (h : s.unfinished i) : (s.undoEntry e).unfinished i := by
  obtain ⟨j, isOf⟩ := e.exists_isOf
  exact (undoEntry_courses s isOf).unfinished h

theorem undoEntry_spares {e : Entry} (h : (∀ g ∈ e.target, g.id ≠ i) ∨ s.unfinished i) : s.spares i (s.undoEntry e) := by
  have undone := (undoAction_still s e).spares i
  unfold State.undoEntry
  dsimp only
  split
  · exact undone
  · rename_i g target
    split
    · refine undone.trans (afterChange_spares ?_)
      by_cases own : g.id = i
      · subst own
        have isOf : e.isOf g.id := fun x hx => by rw [target] at hx; cases hx; rfl
        exact .inr ((undoAction_courses s isOf).unfinished (h.resolve_left fun n => n g target rfl))
      · exact .inl own
    · exact undone

/-! ### What becomes of a set that no test completes -/

theorem findSet_undoPage (h : s.findSet i = some r) (g : PageRef) :
    ∃ v, (s.undoPage g).findSet i = some v ∧ v.state = r.state := by
  unfold State.undoPage
  split
  · exact ⟨r, h, rfl⟩
  · split
    · by_cases own : g.id = i
      · rw [own]
        exact ⟨_, findSet_setPage_same g.page .absent h, rfl⟩
      · exact ⟨r, (setPage_setsBut s g.id g.page .absent i (by simpa using Ne.symm own)).trans h, rfl⟩
    · exact ⟨r, h, rfl⟩

theorem undoAction_record (h : s.findSet i = some r) (e : Entry) :
    ∃ v, (s.undoAction e).findSet i = some v ∧ v.state = r.state := by
  unfold State.undoAction
  split
  · exact findSet_undoPage h _
  · rename_i g _ _
    obtain ⟨v, hv, state⟩ := findSet_undoPage h g
    exact ⟨v, (findSet_of_co (undoReservation_co _ _ _ _) i).trans hv, state⟩
  · exact ⟨r, h, rfl⟩

/-- R49: the tests of a set that is not finished, nor SURRENDERING, keep its state. -/
theorem afterChange_record (h : s.findSet i = some r) (open' : r.unfinished) (standing : r.state ≠ .surrendering) :
    ∃ v, (s.afterChange i).findSet i = some v ∧ v.state = r.state := by
  have released : r.state = .claiming ∨ r.state = .collecting → ∃ v, ((s.releaseTest i).completionTest i).findSet i = some v
      ∧ v.state = r.state := by
    intro state
    obtain ⟨v, hv, e⟩ := findSet_releaseTest s h
    have same : v.state = r.state := by obtain rfl | ⟨p, k, _, rfl⟩ := e <;> rfl
    have still : (s.releaseTest i).completionTest i = s.releaseTest i := by
      have unfinished : v.unfinished :=
        (releaseTest_courses s i).unfinished (fun q hq => by rw [h] at hq; cases hq; exact open') v hv
      unfold State.completionTest
      rw [hv]
      dsimp only
      rw [same]
      obtain state | state := state <;> rw [state]
      dsimp only
      rw [unfinished_unplaced unfinished (same.trans state)]
      rfl
    exact ⟨v, by rw [still, hv], same⟩
  unfold State.afterChange
  rw [h]
  dsimp only
  split
  · exact released (.inl ‹_›)
  · exact released (.inr ‹_›)
  · exact absurd ‹_› open'.2
  · exact absurd ‹_› standing
  · exact ⟨r, h, rfl⟩
  · exact ⟨r, h, rfl⟩
  · exact ⟨r, h, rfl⟩

theorem undoEntry_record (h : s.findSet i = some r) (open' : r.unfinished) (standing : r.state ≠ .surrendering) (e : Entry) :
    ∃ v, (s.undoEntry e).findSet i = some v ∧ v.state = r.state := by
  obtain ⟨v, hv, state⟩ := undoAction_record h e
  unfold State.undoEntry
  dsimp only
  split
  · exact ⟨v, hv, state⟩
  · rename_i g target
    split
    · by_cases own : g.id = i
      · have isOf : e.isOf i := fun x hx => by rw [target] at hx; cases hx; exact own
        have unfinished : v.unfinished :=
          (undoAction_courses s isOf).unfinished (fun q hq => by rw [h] at hq; cases hq; exact open') v hv
        obtain ⟨w, hw, state'⟩ := afterChange_record hv unfinished (state ▸ standing)
        rw [own]
        exact ⟨w, hw, state'.trans state⟩
      · exact ⟨v, ((afterChange_courses _ g.id).1 i (by simpa using Ne.symm own)).trans hv, state⟩
    · exact ⟨v, hv, state⟩

end Sys2Proof.Machine
end

section
/-! ## The gate fault (R17, R166): the bay state, the approach queue and the steps before the fault is entered -/

namespace Sys2Proof.Machine

/-! ### The bay state -/

/-- What the operations on sets may do to Bay State Control (R164, R167): leave a state that GATE enters for another, and
nothing in FAULT(GATE). -/
structure BayControl.courses (a b : BayControl) : Prop where
  seen : b.seen = a.seen
  state : b.state = a.state ∨ a.state.faultEnters .gate = true ∧ b.state.faultEnters .gate = true
  fault : a.state = .fault .gate → b = a

theorem BayControl.courses.refl (a : BayControl) : a.courses a := ⟨rfl, .inl rfl, fun _ => rfl⟩

theorem BayControl.courses.of_eq {a b : BayControl} (h : b = a) : a.courses b := h ▸ .refl b

theorem BayControl.courses.trans {a b c : BayControl} (h : a.courses b) (k : b.courses c) : a.courses c := by
  refine ⟨k.seen.trans h.seen, ?_, fun f => ?_⟩
  · obtain e | ⟨enters, enters'⟩ := h.state
    · rw [← e]
      exact k.state
    · obtain e' | ⟨_, enters''⟩ := k.state
      · exact .inr ⟨enters, e' ▸ enters'⟩
      · exact .inr ⟨enters, enters''⟩
  · have same := h.fault f
    exact (k.fault (by rw [same, f])).trans same

variable (s : State)

theorem drainTest_bay : s.bs.courses s.drainTest.bs := by
  unfold State.drainTest
  split
  · rename_i draining
    have bs : (s.setBay .service).bs = { s.bs with state := .service, lamp := bayLamp s.bs.straps.good .service } :=
      (wantState_frame _).bs (by decide)
    rw [bs]
    exact ⟨rfl, .inr ⟨by rw [draining.1]; rfl, rfl⟩, fun f => by rw [draining.1] at f; cases f⟩
  · exact .refl _

theorem enterJoining_bs : s.enterJoining.bs =
    { s.bs with state := .joining, lamp := bayLamp s.bs.straps.good .joining, join := .awaitingEcho } := by
  unfold State.enterJoining
  rw [(wantHello_frame _).bs (by decide)]
  have bs : (s.setBay .joining).bs = { s.bs with state := .joining, lamp := bayLamp s.bs.straps.good .joining } :=
    (wantState_frame _).bs (by decide)
  dsimp only
  rw [bs]

theorem rejoinTest_bay : s.bs.courses s.rejoinTest.bs := by
  unfold State.rejoinTest
  split
  · rename_i rejoins
    have clearing := rejoins.1
    rw [enterJoining_bs]
    refine ⟨rfl, .inr ⟨?_, rfl⟩, fun f => ?_⟩
    · revert clearing
      cases s.bs.state with
      | fault c => cases c <;> decide
      | _ => decide
    · rw [f] at clearing
      cases clearing
  · exact .refl _

theorem removeSet_bay (i : SetId) : s.bs.courses (s.removeSet i).bs := by
  unfold State.removeSet
  split
  · exact .refl _
  · refine .trans ?_ (rejoinTest_bay _)
    refine .trans ?_ (drainTest_bay _)
    exact .of_eq ((dropSet_frame s _).bs (by decide))

theorem removalTest_bay (i : SetId) : s.bs.courses (s.removalTest i).bs := by
  unfold State.removalTest
  split
  · exact .refl _
  · split
    · exact removeSet_bay s i
    · exact .refl _

theorem bay_foldl {α : Type} (f : State → α → State) (h : ∀ (t : State) x, t.bs.courses (f t x).bs) :
    ∀ (xs : List α) (s : State), s.bs.courses (xs.foldl f s).bs
  | [], s => .refl s.bs
  | x :: xs, s => (h s x).trans (bay_foldl f h xs (f s x))

theorem unloadTest_bs (i : SetId) : (s.unloadTest i).bs = s.bs := (unloadTest_frame s i).bs (by decide)

theorem afterYield_bay (r : SetRecord) : s.bs.courses (s.afterYield r).bs := by
  refine .trans ?_ (removalTest_bay _ _)
  refine .of_eq ?_
  rw [unloadTest_bs, (sameBut_foldl _ (fun t p => releaseToFeeder_frame t r.id p) _ _).bs (by decide)]
  exact (rewriteSet_frame s r.id).bs (by decide)

theorem endSurrender_bay (r : SetRecord) (y : Option YieldReason) : s.bs.courses (s.endSurrender r y).bs := by
  rw [endSurrender_eq]
  split
  · refine .trans (.of_eq ?_) (afterYield_bay _ r)
    split
    · rfl
    · exact (dueYield_frame s _ _).bs (by decide)
  · exact afterYield_bay s r

theorem surrender_bay (i : SetId) (y : Option YieldReason) : s.bs.courses (s.surrender i y).bs := by
  unfold State.surrender
  split
  · exact .refl _
  · exact .trans (.of_eq ((beginSurrender_frame s _).bs (by decide))) (endSurrender_bay _ _ y)

theorem completionTest_bay (i : SetId) : s.bs.courses (s.completionTest i).bs := by
  have completed : ∀ r x, (s.completeSet r x).bs = s.bs := fun r x => (completeSet_frame s r x).bs (by decide)
  unfold State.completionTest
  split
  · exact .refl _
  · split
    · split
      · exact .of_eq (completed _ _)
      · exact .refl _
    · split
      · exact .refl _
      · split
        · exact surrender_bay s i _
        · exact .of_eq (completed _ _)
    · exact .refl _

theorem afterChange_bay (i : SetId) : s.bs.courses (s.afterChange i).bs := by
  have filling : s.bs.courses ((s.releaseTest i).completionTest i).bs :=
    .trans (.of_eq ((releaseTest_frame s i).bs (by decide))) (completionTest_bay _ i)
  unfold State.afterChange
  split
  · exact .refl _
  · split
    · exact filling
    · exact filling
    · exact filling
    · exact .trans (.of_eq (unloadTest_bs s i)) (removalTest_bay _ i)
    · exact .refl _
    · exact .refl _
    · exact .refl _

theorem undoEntry_bay (e : Entry) : s.bs.courses (s.undoEntry e).bs := by
  have undone : (s.undoAction e).bs = s.bs := (undoAction_frame s e).bs (by decide)
  unfold State.undoEntry
  dsimp only
  split
  · exact .of_eq undone
  · split
    · exact .trans (.of_eq undone) (afterChange_bay _ _)
    · exact .of_eq undone

/-! ### The steps of a gate fault before it is reported -/

/-- R17: the gate FAULTED, its operation and the approach entries undone. -/
def State.gateUndone (s : State) (e : Entry) : State :=
  let t := State.gateFailed { s with gc := { s.gc with gate := .faulted } } e
  (List.range t.gc.queue.length).foldl State.rewriteAt t

theorem gateFault_eq (e : Entry) : s.gateFault e = (s.gateUndone e).reportFault .gate := rfl

variable {s}

theorem forall₂_eases_all {C : Entry → Prop} (pass : ∀ x, C x → C x.asPass) {p q : List Entry}
    (h : List.Forall₂ Entry.eases p q) (all : ∀ x ∈ p, C x) : ∀ x ∈ q, C x := by
  induction h with
  | nil => exact nofun
  | @cons x y p q hx _ ih =>
    intro e he
    obtain rfl | he := List.mem_cons.mp he
    · have held := all x (List.mem_cons_self ..)
      obtain rfl | rfl := hx
      · exact held
      · exact pass x held
    · exact ih (fun x hx => all x (List.mem_cons_of_mem _ hx)) e he

/-- What holds of the steps of a gate fault: it survives a write of the gate, a FILL missed, and the undoing of an entry of the
kind that the gate's entries are of. -/
theorem gateUndone_induct {P : State → Prop} {C : Entry → Prop} {e : Entry} (pass : ∀ x, C x → C x.asPass)
    (gate : ∀ (t : State) g, P t → P { t with gc := g }) (missed : ∀ t : State, P t → P t.fillMissed)
    (undo : ∀ (t : State) x, P t → C x → P (t.undoEntry x)) (own : C e) (queued : ∀ x ∈ s.gc.queue, C x) (start : P s) :
    P (s.gateUndone e) := by
  have rewrites : ∀ (ks : List Nat) (t : State), P t → (∀ x ∈ t.gc.queue, C x) → P (ks.foldl State.rewriteAt t) := by
    intro ks
    induction ks with
    | nil => exact fun _ h _ => h
    | cons k ks ih =>
      intro t h all
      refine ih _ ?_ (forall₂_eases_all pass (rewriteAt_steady t k).gate.2 all)
      unfold State.rewriteAt
      split
      · exact h
      · rename_i x place
        exact undo _ x (gate t _ h) (all x (List.mem_of_getElem? place))
  have faulted := gate s { s.gc with gate := .faulted } start
  refine rewrites _ _ ?_ (forall₂_eases_all pass
    (gateFailed_steady { s with gc := { s.gc with gate := .faulted } } e).gate.2 queued)
  unfold State.gateFailed
  split
  · exact missed _ faulted
  · exact undo _ e faulted own

theorem gateUndone_bay (s : State) (e : Entry) : s.bs.courses (s.gateUndone e).bs :=
  gateUndone_induct (P := fun t => s.bs.courses t.bs) (C := fun _ => True) (fun _ _ => trivial) (fun _ _ h => h) (fun _ h => h)
    (fun t x h _ => h.trans (undoEntry_bay t x)) trivial (fun _ _ => trivial) (.refl _)

theorem gateUndone_ids (s : State) (e : Entry) : (s.gateUndone e).setIds.Sublist s.setIds := by
  have undone : ∀ (t : State) (x : Entry), (t.undoEntry x).setIds.Sublist t.setIds := fun t x => by
    obtain ⟨j, isOf⟩ := x.exists_isOf
    exact (undoEntry_courses t isOf).ids
  exact gateUndone_induct (P := fun t => t.setIds.Sublist s.setIds) (C := fun _ => True) (fun _ _ => trivial) (fun _ _ h => h)
    (fun _ h => h) (fun t x h _ => (undone t x).trans h) trivial (fun _ _ => trivial) (.refl _)

/-! ### The approach queue (R14) -/

theorem forall₂_getElem? {R : Entry → Entry → Prop} {p q : List Entry} (h : List.Forall₂ R p q) {k : Nat} {y : Entry}
    (e : q[k]? = some y) : ∃ x, p[k]? = some x ∧ R x y := by
  induction h generalizing k with
  | nil => cases e
  | @cons a b p q ab _ ih =>
    cases k with
    | zero =>
      simp only [List.getElem?_cons_zero, Option.some.injEq] at e
      exact ⟨a, rfl, e ▸ ab⟩
    | succ k => exact ih e

theorem eases_pass {g h : Gate} (eases : g.eases h) {k : Nat} (pass : ∀ x, g.queue[k]? = some x → x.action = .pass) :
    ∀ y, h.queue[k]? = some y → y.action = .pass := by
  intro y e
  obtain ⟨x, hx, xy⟩ := forall₂_getElem? eases.2 e
  exact xy.pass (pass x hx)

theorem rewriteAt_pass (s : State) (k : Nat) : ∀ x, (s.rewriteAt k).gc.queue[k]? = some x → x.action = .pass := by
  unfold State.rewriteAt
  split
  · rename_i out
    intro x e
    rw [out] at e
    cases e
  · rename_i e place
    refine eases_pass (undoEntry_steady _ e).gate fun x hx => ?_
    have written : (s.gc.queue.set k e.asPass)[k]? = some x := hx
    rw [List.getElem?_set_self (List.getElem?_eq_some_iff.mp place).1] at written
    cases written
    rfl

theorem rewrites_pass (s : State) (n : Nat) :
    ∀ k < n, ∀ x, ((List.range n).foldl State.rewriteAt s).gc.queue[k]? = some x → x.action = .pass := by
  induction n with
  | zero => exact nofun
  | succ n ih =>
    intro k below
    rw [List.range_succ, List.foldl_append]
    obtain earlier | rfl := Nat.lt_succ_iff_lt_or_eq.mp below
    · exact eases_pass (rewriteAt_steady _ n).gate (ih k earlier)
    · exact rewriteAt_pass _ k

/-- R14: after the undoing every approach entry is PASS. -/
theorem gateUndone_pass (s : State) (e : Entry) : ∀ x ∈ (s.gateUndone e).gc.queue, x.action = .pass := by
  intro x m
  obtain ⟨k, place⟩ := List.getElem?_of_mem m
  have inside := (List.getElem?_eq_some_iff.mp place).1
  refine rewrites_pass _ _ k ?_ x place
  rwa [State.gateUndone, (steady_foldl State.rewriteAt rewriteAt_steady _ _).gate.length] at inside

/-- R14, R17: the gate after the undoing: FAULTED, and as it was but for entries rewritten to PASS. -/
theorem gateUndone_gate (s : State) (e : Entry) : ({ s.gc with gate := .faulted } : Gate).eases (s.gateUndone e).gc :=
  (gateFailed_steady { s with gc := { s.gc with gate := .faulted } } e).gate.trans
    (steady_foldl State.rewriteAt rewriteAt_steady _ _).gate

end Sys2Proof.Machine
end

section
/-! ## Entry to FAULT(GATE), set by set (R96, R166) -/

namespace Sys2Proof.Machine

/-- The operation keeps the record of the set, its YIELDs and its TRANSFER. -/
def State.kept (i : SetId) (s t : State) : Prop := t.findSet i = s.findSet i ∧ s.spares i t

variable {s t u : State} {i j : SetId} {r v : SetRecord} {e : Entry} {y : YieldReason}

theorem State.kept.refl (i : SetId) (s : State) : s.kept i s := ⟨rfl, .refl i s⟩

theorem State.kept.trans (h : s.kept i t) (k : t.kept i u) : s.kept i u := ⟨k.1.trans h.1, h.2.trans k.2⟩

theorem kept_of_still (h : s.still t) (co : t.co = s.co) (i : SetId) : s.kept i t := ⟨findSet_of_co co i, h.spares i⟩

theorem State.kept.givenUp (h : s.kept i t) (g : s.givenUp i) : t.givenUp i := fun r hr => g r (h.1 ▸ hr)

theorem State.kept.setIs {x : SetState} (h : s.kept i t) (k : s.setIs i x) : t.setIs i x := by
  obtain ⟨r, hr, state⟩ := k
  exact ⟨r, h.1.trans hr, state⟩

theorem State.kept.due (h : s.kept i t) (d : s.yieldDue i y) : t.yieldDue i y := (h.2.due y).mpr d

theorem surrendering_courses (h : r.courses v) (state : r.state = .surrendering) : v.state = .surrendering := by
  obtain same | surrendering | ⟨_, collecting | finishing⟩ := h.state
  · exact same.trans state
  · exact surrendering
  · rw [state] at collecting; cases collecting
  · rw [state] at finishing; cases finishing

/-- R93: a set given up stays so. -/
theorem State.courses.givenUp (h : s.courses i t) (g : s.givenUp i) : t.givenUp i := by
  intro v hv
  obtain ⟨r, hr, c⟩ := h.own v hv
  exact surrendering_courses c (g r hr)

theorem surrender_givenUp (s : State) (i : SetId) (x : Option YieldReason) : (s.surrender i x).givenUp i := by
  cases found : s.findSet i with
  | none =>
    intro r hr
    rw [State.surrender, found] at hr
    rw [found] at hr
    cases hr
  | some r =>
    have begun : (s.beginSurrender r).givenUp i := fun v hv => by
      rw [(beginSurrender_findSet s found).1] at hv
      cases hv
      rfl
    rw [State.surrender, found]
    exact (endSurrender_courses (s.beginSurrender r) (findSet_id found) x).givenUp begun

/-! ### One set's turn among those surrendered (R96) -/

/-- R96: the turn of one set. -/
def State.surrenderTurn (x : Option YieldReason) (s : State) (i : SetId) : State :=
  if (s.findSet i).any s.surrenderable then s.surrender i x else s

theorem surrenderAll_eq (s : State) (x : Option YieldReason) :
    s.surrenderAll x = s.setIds.foldl (State.surrenderTurn x) s := rfl

theorem surrenderTurn_courses (x : Option YieldReason) (s : State) (i : SetId) : s.courses i (s.surrenderTurn x i) := by
  unfold State.surrenderTurn
  split
  · exact surrender_courses s i x
  · exact .refl i s

theorem surrenderTurn_bay (x : Option YieldReason) (s : State) (i : SetId) : s.bs.courses (s.surrenderTurn x i).bs := by
  unfold State.surrenderTurn
  split
  · exact surrender_bay s i x
  · exact .refl s.bs

theorem surrenderTurn_kept (x : Option YieldReason) (s : State) (other : j ≠ i) : s.kept i (s.surrenderTurn x j) := by
  refine ⟨(surrenderTurn_courses x s j).others i (by simpa using Ne.symm other), ?_⟩
  unfold State.surrenderTurn
  split
  · exact surrender_spares (.inl other)
  · exact .refl i s

theorem surrenderTurns_kept (x : Option YieldReason) :
    ∀ (ids : List SetId) (s : State), i ∉ ids → s.kept i (ids.foldl (State.surrenderTurn x) s)
  | [], s, _ => .refl i s
  | j :: ids, s, n => by
    obtain ⟨head, tail⟩ := not_or.mp (mt List.mem_cons.mpr n)
    exact (surrenderTurn_kept x s (Ne.symm head)).trans (surrenderTurns_kept x ids _ tail)

/-- What the others' turns leave of a set, before its own turn and after it. -/
theorem surrenderTurns_turn (x : Option YieldReason) :
    ∀ (ids : List SetId) (s : State), ids.Nodup → i ∈ ids →
      ∃ t, s.kept i t ∧ (t.surrenderTurn x i).kept i (ids.foldl (State.surrenderTurn x) s)
  | [], _, _, m => nomatch m
  | j :: ids, s, nodup, m => by
    obtain ⟨first, rest⟩ := List.nodup_cons.mp nodup
    by_cases own : j = i
    · subst own
      exact ⟨s, .refl j s, surrenderTurns_kept x ids _ first⟩
    · obtain ⟨t, before, after⟩ := surrenderTurns_turn x ids (s.surrenderTurn x j) rest
        ((List.mem_cons.mp m).resolve_left (Ne.symm own))
      exact ⟨t, (surrenderTurn_kept x s own).trans before, after⟩

theorem surrenderTurns_ids (x : Option YieldReason) :
    ∀ (ids : List SetId) (s : State), (ids.foldl (State.surrenderTurn x) s).setIds.Sublist s.setIds
  | [], _ => .refl _
  | j :: ids, s => (surrenderTurns_ids x ids _).trans (surrenderTurn_courses x s j).ids

theorem mem_setIds (h : s.findSet i = some r) : i ∈ s.setIds := by
  have id := findSet_id h
  subst id
  exact List.mem_map_of_mem (findSet_mem h)

theorem not_mem_setIds (h : s.findSet i = none) : i ∉ s.setIds := by
  intro m
  obtain ⟨r, hr, rfl⟩ := List.mem_map.mp m
  exact List.find?_eq_none.mp h r hr (by simp)

/-- R92, R96: at its turn a set that the fault may surrender is given up. -/
theorem surrenderTurn_of_surrenderable (x : Option YieldReason) (h : s.findSet i = some r) (k : s.surrenderable r = true) :
    s.surrenderTurn x i = s.surrender i x := by
  rw [State.surrenderTurn, h]
  exact if_pos k

theorem surrenderTurn_of_not (x : Option YieldReason) (h : s.findSet i = some r) (k : s.surrenderable r = false) :
    s.surrenderTurn x i = s := by
  rw [State.surrenderTurn, h]
  exact if_neg (by simp [k])

/-- R96: what a set's turn makes of it: it is given up, or it is one that the fault leaves behind. -/
theorem surrenderTurn_outlasts (x : Option YieldReason) (h : s.findSet i = some r) :
    (s.surrenderTurn x i).givenUp i ∨ s.surrenderTurn x i = s ∧ s.outlasts r := by
  have id := findSet_id h
  subst id
  cases k : s.surrenderable r with
  | true => rw [surrenderTurn_of_surrenderable x h k]; exact .inl (surrender_givenUp s r.id x)
  | false =>
    refine .inr ⟨surrenderTurn_of_not x h k, ?_⟩
    unfold State.surrenderable at k
    unfold State.outlasts SetRecord.inAJaw
    cases state : r.state <;> simp [state] at k ⊢
    exact k

/-! ### The entry -/

/-- R166: the bay in FAULT(GATE), before the sets are surrendered. -/
def State.faulting (s : State) : State :=
  let t := State.setBay { s with bs := { s.bs with seen := s.bs.seen.add .gate } } (.fault .gate)
  { t with bs := { t.bs with join := .stopped } }

theorem reportFault_gate (enters : s.bs.state.faultEnters .gate = true) :
    s.reportFault .gate = (s.faulting.surrenderAll (some .fault)).linkAtFault .gate s.bs.state.linkWatch := by
  unfold State.reportFault
  rw [if_pos enters]
  rfl

theorem reportFault_gate_of_not (enters : s.bs.state.faultEnters .gate = false) :
    s.reportFault .gate = { s with bs := { s.bs with seen := s.bs.seen.add .gate } } := by
  unfold State.reportFault
  rw [if_neg (by simp [enters])]
  exact if_neg nofun

theorem faulting_co (s : State) : s.faulting.co = s.co := (setBay_frame _ _).co (by decide)

theorem faulting_ids (s : State) : s.faulting.setIds = s.setIds := congrArg (fun c => c.sets.map SetRecord.id) (faulting_co s)

theorem faulting_bs (s : State) : s.faulting.bs = { s.bs with
    seen := { s.bs.seen with gate := true }, state := .fault .gate, lamp := .blinkFast, join := .stopped } := by
  have bs := (wantState_frame { s with bs := { s.bs with
    seen := s.bs.seen.add .gate, state := .fault .gate, lamp := bayLamp s.bs.straps.good (.fault .gate) } }).bs (by decide)
  unfold State.faulting State.setBay
  dsimp only
  rw [bs]
  rfl

theorem faulting_kept (s : State) (i : SetId) : s.kept i s.faulting := by
  refine kept_of_still ?_ (faulting_co s) i
  exact setBay_still { s with bs := { s.bs with seen := s.bs.seen.add .gate } } (.fault .gate)

theorem linkAtFault_gate_kept (s : State) (w : Bool) (i : SetId) : s.kept i (s.linkAtFault .gate w) := by
  unfold State.linkAtFault
  dsimp only
  split
  · exact .refl i s
  · refine kept_of_still ?_ ?_ i
    · exact ⟨rfl, rfl, rfl⟩
    · rfl

section
variable (d : s.distinct) (enters : s.bs.state.faultEnters .gate = true)
include enters

theorem reportFault_kept (h : s.findSet i = none) : s.kept i (s.reportFault .gate) := by
  rw [reportFault_gate enters]
  refine (faulting_kept s i).trans (.trans ?_ (linkAtFault_gate_kept _ _ i))
  exact surrenderTurns_kept _ s.faulting.setIds _ (by rw [faulting_ids]; exact not_mem_setIds h)

theorem reportFault_ids : (s.reportFault .gate).setIds.Sublist s.setIds := by
  have linked : ∀ (t : State) w, (t.linkAtFault .gate w).setIds = t.setIds := fun t w =>
    congrArg (fun c => c.sets.map SetRecord.id) ((linkAtFault_frame t .gate w).co (by decide))
  rw [reportFault_gate enters, linked, ← faulting_ids s]
  exact surrenderTurns_ids _ _ _

/-- R166, R169: the bay is in FAULT(GATE). -/
theorem reportFault_bay : s.faulting.bs = (s.reportFault .gate).bs := by
  rw [reportFault_gate enters, (linkAtFault_frame _ .gate _).bs (by decide), surrenderAll_eq]
  refine ((bay_foldl _ (surrenderTurn_bay _) _ s.faulting).fault ?_).symm
  rw [faulting_bs]

include d

/-- R96: a set of the table has its turn, between states that keep it. -/
theorem reportFault_turn (h : s.findSet i = some r) :
    ∃ t, s.kept i t ∧ (t.surrenderTurn (some .fault) i).kept i (s.reportFault .gate) := by
  obtain ⟨t, before, after⟩ := surrenderTurns_turn (i := i) (some .fault) s.faulting.setIds s.faulting
    (by rw [faulting_ids]; exact nodup_ids d) (by rw [faulting_ids]; exact mem_setIds h)
  rw [reportFault_gate enters]
  exact ⟨t, (faulting_kept s i).trans before, after.trans (linkAtFault_gate_kept _ _ i)⟩

/-- R96: every record left is one that a fault leaves behind. -/
theorem reportFault_outlasts (m : r ∈ (s.reportFault .gate).co.sets) : (s.reportFault .gate).outlasts r := by
  have found := findSet_of_mem (distinct_of_ids (reportFault_ids enters) d) m
  cases was : s.findSet r.id with
  | none =>
    rw [(reportFault_kept enters was).1, was] at found
    cases found
  | some q =>
    obtain ⟨t, before, after⟩ := reportFault_turn d enters was
    obtain given | ⟨same, left⟩ := surrenderTurn_outlasts (some .fault) (before.1.trans was)
    · exact .inl (after.givenUp given r found)
    · rw [same] at after
      have own : r = q := Option.some.inj (found.symm.trans (after.1.trans (before.1.trans was)))
      subst own
      exact left.imp id (Or.imp id (And.imp id after.2.flight))

/-- R92, R93: a CLAIMING, COLLECTING or FINISHING set is surrendered, and its YIELD due unless it was CLAIMING. -/
theorem reportFault_surrenders (h : s.findSet i = some r)
    (state : r.state = .claiming ∨ r.state = .collecting ∨ r.state = .finishing) :
    (s.reportFault .gate).givenUp i ∧ (r.state ≠ .claiming → (s.reportFault .gate).yieldDue i .fault) := by
  obtain ⟨t, before, after⟩ := reportFault_turn d enters h
  have there := before.1.trans h
  have able : t.surrenderable r = true := by
    unfold State.surrenderable
    obtain e | e | e := state <;> rw [e]
  rw [surrenderTurn_of_surrenderable _ there able] at after
  exact ⟨after.givenUp (surrender_givenUp t i _), fun other => after.due (surrender_due there other)⟩

/-- R81: the surrender of a CLAIMING set makes no YIELD due. -/
theorem reportFault_claim_spares (h : s.findSet i = some r) (state : r.state = .claiming) :
    s.spares i (s.reportFault .gate) := by
  obtain ⟨t, before, after⟩ := reportFault_turn d enters h
  have there := before.1.trans h
  rw [surrenderTurn_of_surrenderable _ there (by rw [State.surrenderable, state])] at after
  refine before.2.trans (.trans (surrender_spares (.inr fun q hq => ?_)) after.2)
  rw [there] at hq
  cases hq
  exact state

/-- R96: a COMPLETE set with its transfer in flight stays. -/
theorem reportFault_complete_stays (h : s.findSet i = some r) (state : r.state = .complete)
    (flight : s.transferInFlight i = true) :
    (s.reportFault .gate).findSet i = some r ∧ (s.reportFault .gate).transferInFlight i = true := by
  have id := findSet_id h
  subst id
  obtain ⟨t, before, after⟩ := reportFault_turn d enters h
  have there := before.1.trans h
  have flight' := before.2.flight flight
  rw [surrenderTurn_of_not _ there (by rw [State.surrenderable, state]; dsimp only; rw [flight']; rfl)] at after
  exact ⟨after.1.trans there, after.2.flight flight'⟩

/-- R93, R96: a COMPLETE set whose transfer is queued is surrendered at its turn, its transfer withdrawn. -/
theorem reportFault_complete_given (h : s.findSet i = some r) (state : r.state = .complete) (wait : s.transferWaits i) :
    (s.reportFault .gate).givenUp i ∧ (s.reportFault .gate).yieldDue i .fault ∧ (s.reportFault .gate).transferless i := by
  have id := findSet_id h
  subst id
  obtain ⟨t, before, after⟩ := reportFault_turn d enters h
  have there := before.1.trans h
  have grounded := (before.2.wait wait).2
  rw [surrenderTurn_of_surrenderable _ there (by rw [State.surrenderable, state]; dsimp only; rw [grounded]; rfl)] at after
  exact ⟨after.givenUp (surrender_givenUp t r.id _), after.due (surrender_due there (by rw [state]; nofun)),
    after.2.queue (surrender_transferless there state)⟩

/-- R96: a COMPLETE set stays with its transfer in flight, or is surrendered. -/
theorem reportFault_complete (h : s.findSet i = some r) (state : r.state = .complete) :
    (s.reportFault .gate).setIs i .complete ∧ (s.reportFault .gate).transferInFlight i = true
      ∨ (s.reportFault .gate).givenUp i ∧ (s.reportFault .gate).yieldDue i .fault := by
  have id := findSet_id h
  subst id
  obtain ⟨t, before, after⟩ := reportFault_turn d enters h
  have there := before.1.trans h
  cases able : t.surrenderable r with
  | true =>
    rw [surrenderTurn_of_surrenderable _ there able] at after
    exact .inr ⟨after.givenUp (surrender_givenUp t r.id _), after.due (surrender_due there (by rw [state]; nofun))⟩
  | false =>
    rw [surrenderTurn_of_not _ there able] at after
    have flight : t.transferInFlight r.id = true := by simpa [State.surrenderable, state] using able
    exact .inl ⟨⟨r, after.1.trans there, state⟩, after.2.flight flight⟩

end

end Sys2Proof.Machine
end

section
/-! ## The gate's limit, set by set (R17, R51, R96) -/

namespace Sys2Proof.Machine

variable {s t u : State} {i j : SetId} {r v : SetRecord} {e x : Entry} {y : YieldReason}

/-! ### Sets that the undoing leaves in their state -/

theorem withGate_still (s : State) (g : Gate) : s.still { s with gc := g } := ⟨rfl, rfl, rfl⟩

theorem fillMissed_still (s : State) : s.still s.fillMissed := ⟨rfl, rfl, rfl⟩

/-- The set's record is in the state it had, is not finished, and its YIELDs and its TRANSFER are as they were. -/
structure State.stays (i : SetId) (c : SetState) (s t : State) : Prop where
  state : t.setIs i c
  unfinished : t.unfinished i
  spares : s.spares i t

theorem undoEntry_stays {c : SetState} (standing : c ≠ .surrendering) (h : s.stays i c t) (x : Entry) :
    s.stays i c (t.undoEntry x) := by
  obtain ⟨⟨v, found, state⟩, unfinished, spares⟩ := h
  obtain ⟨w, found', state'⟩ := undoEntry_record found (unfinished v found) (state ▸ standing) x
  exact ⟨⟨w, found', state'.trans state⟩, undoEntry_unfinished unfinished, spares.trans (undoEntry_spares (.inr unfinished))⟩

/-- R17: a CLAIMING or COMPLETE set, and a COLLECTING one with a page not PLACED, keeps its state until the fault is
reported. -/
theorem gateUndone_stays (found : s.findSet i = some r) (unfinished : r.unfinished) (standing : r.state ≠ .surrendering)
    (e : Entry) : s.stays i r.state (s.gateUndone e) := by
  refine gateUndone_induct (P := s.stays i r.state) (C := fun _ => True) (fun _ _ => trivial) ?_ ?_ ?_ trivial
    (fun _ _ => trivial) ?_
  · exact fun t g h => ⟨h.state, h.unfinished, h.spares.trans ((withGate_still t g).spares i)⟩
  · exact fun t h => ⟨h.state, h.unfinished, h.spares.trans ((fillMissed_still t).spares i)⟩
  · exact fun t x h _ => undoEntry_stays standing h x
  · refine ⟨⟨r, found, rfl⟩, fun q hq => ?_, .refl i s⟩
    rw [found] at hq
    cases hq
    exact unfinished

theorem undoEntry_kept (h : ∀ g ∈ x.target, g.id ≠ i) : s.kept i (s.undoEntry x) := by
  refine ⟨?_, undoEntry_spares (.inl h)⟩
  cases target : x.target with
  | none =>
    have undone : s.undoEntry x = s := by
      unfold State.undoEntry State.undoAction
      rw [target]
      cases x.action <;> rfl
    rw [undone]
  | some g =>
    have isOf : x.isOf g.id := fun z hz => by rw [target] at hz; cases hz; rfl
    exact (undoEntry_courses s isOf).others i (by simpa using Ne.symm (h g target))

/-- R17: a set with no entry at the gate is untouched until the fault is reported. -/
theorem gateUndone_kept (busy : s.gc.gate = .busy e) (h : ∀ x ∈ s.gateEntries, ∀ g ∈ x.target, g.id ≠ i) :
    s.kept i (s.gateUndone e) := by
  have entries : s.gateEntries = s.gc.queue ++ [e] := by rw [State.gateEntries, busy]
  rw [entries] at h
  refine gateUndone_induct (P := fun t => s.kept i t) (C := fun x => ∀ g ∈ x.target, g.id ≠ i) (fun x _ => nofun) ?_ ?_ ?_
    (h e (by simp)) (fun x m => h x (List.mem_append_left _ m)) (.refl i s)
  · exact fun t g k => k.trans (kept_of_still (withGate_still t g) rfl i)
  · exact fun t k => k.trans (kept_of_still (fillMissed_still t) rfl i)
  · exact fun t x k other => k.trans (undoEntry_kept other)

/-! ### A FINISHING set (R51) -/

/-- R51, R93: the set is FINISHING or COMPLETE, or it is given up with a YIELD of reason FAULT or STAFF due. -/
def State.ending (i : SetId) (t : State) : Prop :=
  (t.setIs i .finishing ∨ t.setIs i .complete) ∨ t.givenUp i ∧ (t.yieldDue i .fault ∨ t.yieldDue i .staff)

theorem State.kept.ending (h : s.kept i t) (k : s.ending i) : t.ending i :=
  k.imp (Or.imp h.setIs h.setIs) (And.imp h.givenUp (Or.imp h.due h.due))

theorem State.givenUp.unfinished (h : s.givenUp i) : s.unfinished i := by
  intro r hr
  have state := h r hr
  exact ⟨fun c => by simp [state] at c, by simp [state]⟩

/-- R51: the completion test of a FINISHING set. -/
theorem completionTest_ending (h : s.setIs i .finishing) : (s.completionTest i).ending i := by
  obtain ⟨r, found, state⟩ := h
  unfold State.completionTest
  rw [found]
  dsimp only
  rw [state]
  dsimp only
  split
  · exact .inl (.inl ⟨r, found, state⟩)
  · split
    · exact .inr ⟨surrender_givenUp s i _, .inr (surrender_due found (by rw [state]; nofun))⟩
    · exact .inl (.inr ⟨_, findSet_completeSet s found true, rfl⟩)

theorem afterChange_ending (h : s.ending i) : (s.afterChange i).ending i := by
  obtain (finishing | complete) | ⟨given, due⟩ := h
  · obtain ⟨r, found, state⟩ := finishing
    have tests : s.afterChange i = (s.releaseTest i).completionTest i := by simp only [State.afterChange, found, state]
    obtain ⟨v, found', was⟩ := findSet_releaseTest s found
    have state' : v.state = r.state := by obtain rfl | ⟨p, k, _, rfl⟩ := was <;> rfl
    rw [tests]
    exact completionTest_ending ⟨v, found', state'.trans state⟩
  · obtain ⟨r, found, state⟩ := complete
    have tests : s.afterChange i = s := by simp only [State.afterChange, found, state]
    rw [tests]
    exact .inl (.inr ⟨r, found, state⟩)
  · have spares : s.spares i (s.afterChange i) := afterChange_spares (.inr given.unfinished)
    exact .inr ⟨(afterChange_courses s i).givenUp given, due.imp (spares.due _).mpr (spares.due _).mpr⟩

theorem undoAction_ending (h : s.ending i) (own : x.isOf i) : (s.undoAction x).ending i := by
  have kept : ∀ {c}, s.setIs i c → (s.undoAction x).setIs i c := fun ⟨r, found, state⟩ =>
    have ⟨v, found', state'⟩ := undoAction_record found x
    ⟨v, found', state'.trans state⟩
  have spares := (undoAction_still s x).spares i
  exact h.imp (Or.imp kept kept) (And.imp (undoAction_courses s own).givenUp (Or.imp (spares.due _).mpr (spares.due _).mpr))

theorem undoEntry_ending (h : s.ending i) (x : Entry) : (s.undoEntry x).ending i := by
  by_cases other : ∀ g ∈ x.target, g.id ≠ i
  · exact (undoEntry_kept other).ending h
  · simp only [not_forall, not_not] at other
    obtain ⟨g, target, rfl⟩ := other
    have target : x.target = some g := target
    have own : x.isOf g.id := fun z hz => by rw [target] at hz; cases hz; rfl
    have undone := undoAction_ending h own
    unfold State.undoEntry
    rw [target]
    dsimp only
    split
    · exact afterChange_ending undone
    · exact undone

theorem gateUndone_ending (h : s.setIs i .finishing) (e : Entry) : (s.gateUndone e).ending i := by
  refine gateUndone_induct (P := State.ending i) (C := fun _ => True) (fun _ _ => trivial) ?_ ?_ ?_ trivial (fun _ _ => trivial)
    (.inl (.inl h))
  · exact fun t g k => k
  · exact fun t k => k
  · exact fun t x k _ => undoEntry_ending k x

theorem reportFault_ending (d : s.distinct) (enters : s.bs.state.faultEnters .gate = true) (h : s.ending i) :
    (s.reportFault .gate).setIs i .complete ∧ (s.reportFault .gate).transferInFlight i = true
      ∨ (s.reportFault .gate).givenUp i
        ∧ ((s.reportFault .gate).yieldDue i .fault ∨ (s.reportFault .gate).yieldDue i .staff) := by
  obtain (⟨r, found, state⟩ | ⟨r, found, state⟩) | ⟨given, due⟩ := h
  · have ⟨given, due⟩ := reportFault_surrenders d enters found (.inr (.inr state))
    exact .inr ⟨given, .inl (due (by rw [state]; nofun))⟩
  · exact (reportFault_complete d enters found state).imp id (And.imp id .inl)
  · have kept : s.kept i (s.reportFault .gate) := by
      cases found : s.findSet i with
      | none => exact reportFault_kept enters found
      | some r =>
        obtain ⟨t, before, after⟩ := reportFault_turn d enters found
        have able : t.surrenderable r = false := by rw [State.surrenderable, given r found]
        rw [surrenderTurn_of_not _ (before.1.trans found) able] at after
        exact before.trans after
    exact .inr ⟨kept.givenUp given, due.imp kept.due kept.due⟩

/-! ### The expiry -/

theorem unfinished_of_claiming (h : r.state = .claiming) : r.unfinished :=
  ⟨fun c => by simp [h] at c, by simp [h]⟩

theorem unfinished_of_complete (h : r.state = .complete) : r.unfinished :=
  ⟨fun c => by simp [h] at c, by simp [h]⟩

theorem unfinished_of_collecting (h : r.state = .collecting) (open' : ∃ x ∈ r.map, x ≠ .placed) : r.unfinished := by
  obtain ⟨x, m, unplaced⟩ := open'
  obtain ⟨p, inside, rfl⟩ := mem_map_iff.mp m
  exact ⟨fun _ => ⟨p, inside, unplaced⟩, by simp [h]⟩

/-- R14, R17: what a gate fault makes of the gate. -/
theorem gateFault_gate (s : State) (e : Entry) :
    ({ s.gc with gate := .faulted } : Gate).eases (s.gateFault e).gc ∧ ∀ x ∈ (s.gateFault e).gc.queue, x.action = .pass := by
  have reported := (reportFault_steady (s.gateUndone e) .gate).gate
  exact ⟨(gateUndone_gate s e).trans reported, forall₂_eases_all (fun _ _ => rfl) reported.2 (gateUndone_pass s e)⟩

theorem gateUndone_faultEnters (s : State) (e : Entry) :
    (s.gateUndone e).bs.state.faultEnters .gate = s.bs.state.faultEnters .gate := by
  obtain same | ⟨was, enters⟩ := (gateUndone_bay s e).state
  · rw [same]
  · rw [was, enters]

theorem gateFault_seen (s : State) (e : Entry) : (s.gateFault e).bs.seen = { s.bs.seen with gate := true } := by
  rw [← (gateUndone_bay s e).seen, gateFault_eq]
  cases enters : (s.gateUndone e).bs.state.faultEnters .gate with
  | true => rw [← reportFault_bay enters, faulting_bs]
  | false => rw [reportFault_gate_of_not enters]; rfl

theorem gateFault_bay (e : Entry) (enters : s.bs.state.faultEnters .gate = true) :
    (s.gateFault e).bs.state = .fault .gate ∧ (s.gateFault e).bs.lamp = .blinkFast := by
  rw [gateFault_eq, ← reportFault_bay ((gateUndone_faultEnters s e).trans enters), faulting_bs]
  exact ⟨rfl, rfl⟩

/-- R96: the table after a gate fault that enters the bay. -/
theorem gateFault_sets (d : s.distinct) (enters : s.bs.state.faultEnters .gate = true) (busy : s.gc.gate = .busy e) :
    (∀ r ∈ (s.gateFault e).co.sets, (s.gateFault e).outlasts r)
      ∧ (∀ r ∈ s.co.sets, r.state = .claiming → (s.gateFault e).givenUp r.id)
      ∧ (∀ r ∈ s.co.sets, r.state = .collecting → (∃ x ∈ r.map, x ≠ .placed) → (s.gateFault e).surrenders (some .fault) r)
      ∧ (∀ r ∈ s.co.sets, r.state = .finishing → (∀ x ∈ s.gateEntries, ∀ g ∈ x.target, g.id ≠ r.id) →
        (s.gateFault e).surrenders (some .fault) r)
      ∧ (∀ r ∈ s.co.sets, r.state = .finishing →
        (s.gateFault e).setIs r.id .complete ∧ (s.gateFault e).transferInFlight r.id = true
        ∨ (s.gateFault e).givenUp r.id ∧ ((s.gateFault e).yieldDue r.id .fault ∨ (s.gateFault e).yieldDue r.id .staff))
      ∧ (∀ r ∈ s.co.sets, r.state = .complete → s.completeEnds (s.gateFault e) (some .fault) r)
      ∧ s.claimsYieldNothing (s.gateFault e) .fault := by
  have distinct : (s.gateUndone e).distinct := distinct_of_ids (gateUndone_ids s e) d
  have entered : (s.gateUndone e).bs.state.faultEnters .gate = true := (gateUndone_faultEnters s e).trans enters
  rw [gateFault_eq]
  refine ⟨fun r m => reportFault_outlasts distinct entered m, fun r m state => ?_, fun r m state open' => ?_,
    fun r m state none => ?_, fun r m state => ?_, fun r m state => ⟨fun flight => ?_, fun grounded wait => ?_⟩,
    fun r m state absent due => absent ?_⟩
  · obtain ⟨v, found, same⟩ := (gateUndone_stays (findSet_of_mem d m) (unfinished_of_claiming state) (by simp [state]) e).state
    exact (reportFault_surrenders distinct entered found (.inl (same.trans state))).1
  · obtain ⟨v, found, same⟩ :=
      (gateUndone_stays (findSet_of_mem d m) (unfinished_of_collecting state open') (by simp [state]) e).state
    obtain ⟨given, due⟩ := reportFault_surrenders distinct entered found (.inr (.inl (same.trans state)))
    exact ⟨given, fun _ x hx => by cases hx; exact due (by simp [same, state]), fun complete => by simp [state] at complete⟩
  · have found := (gateUndone_kept busy none).1.trans (findSet_of_mem d m)
    obtain ⟨given, due⟩ := reportFault_surrenders distinct entered found (.inr (.inr state))
    exact ⟨given, fun _ x hx => by cases hx; exact due (by simp [state]), fun complete => by simp [state] at complete⟩
  · exact reportFault_ending distinct entered (gateUndone_ending ⟨r, findSet_of_mem d m, state⟩ e)
  · have stays := gateUndone_stays (findSet_of_mem d m) (unfinished_of_complete state) (by simp [state]) e
    obtain ⟨v, found, same⟩ := stays.state
    obtain ⟨found', flight'⟩ :=
      reportFault_complete_stays distinct entered found (same.trans state) (stays.spares.flight flight)
    exact ⟨⟨v, found', same.trans state⟩, flight'⟩
  · have stays := gateUndone_stays (findSet_of_mem d m) (unfinished_of_complete state) (by simp [state]) e
    obtain ⟨v, found, same⟩ := stays.state
    obtain ⟨given, due, transferless⟩ :=
      reportFault_complete_given distinct entered found (same.trans state) (stays.spares.wait ⟨wait, grounded⟩)
    exact ⟨given, fun _ x hx => by cases hx; exact due, fun _ => transferless⟩
  · have stays := gateUndone_stays (findSet_of_mem d m) (unfinished_of_claiming state) (by simp [state]) e
    obtain ⟨v, found, same⟩ := stays.state
    have reported := reportFault_claim_spares distinct entered found (same.trans state)
    exact ((stays.spares.trans reported).due _).mp due

theorem gateFault_state_of_not (e : Entry) (enters : s.bs.state.faultEnters .gate = false) :
    (s.gateFault e).bs.state = s.bs.state := by
  rw [gateFault_eq, reportFault_gate_of_not ((gateUndone_faultEnters s e).trans enters)]
  refine (gateUndone_bay s e).state.resolve_right fun both => ?_
  rw [enters] at both
  cases both.1

theorem execGateLimitExpiry_busy (busy : s.gc.gate = .busy e) : exec .gateLimitExpiry s = .next (s.gateFault e) := by
  have unfolded : exec .gateLimitExpiry s = execGateLimitExpiry s := rfl
  rw [unfolded, execGateLimitExpiry, busy]

theorem execGateLimitExpiry_empty (empty : s.gc.gate = .idle ∨ s.gc.gate = .faulted) : exec .gateLimitExpiry s = .next s := by
  have unfolded : exec .gateLimitExpiry s = execGateLimitExpiry s := rfl
  rw [unfolded, execGateLimitExpiry]
  obtain idle | faulted := empty
  · rw [idle]
  · rw [faulted]

/-- R166: the bay states that a cause enters, case by case. -/
theorem faultEnters_iff (b : BayState) (c : Cause) :
    b.faultEnters c = true ↔ b = .joining ∨ b = .active ∨ b = .draining ∨ b = .service
      ∨ (b = .fault .linkLost ∨ b = .fault .expelled) ∧ (c = .gate ∨ c = .carriage ∨ c = .clash)
      ∨ (b = .fault .gate ∨ b = .fault .carriage) ∧ c = .clash := by
  cases b with
  | fault k => cases k <;> cases c <;> decide
  | _ => simp [BayState.faultEnters]

end Sys2Proof.Machine

open Sys2Proof Sys2Proof.Machine

/-- Settles O29: the undoing of the gate's entries is followed set by set up to the fault's report, and from there by the turn
that each set has among those surrendered. -/
theorem gateLimitFaults : Obligations.GateLimitFaults := by
  refine ⟨fun s e busy sound => ?_, fun s => execGateLimitExpiry_empty, faultEnters_iff⟩
  obtain ⟨⟨gate, entries⟩, pass⟩ := gateFault_gate s e
  refine ⟨_, execGateLimitExpiry_busy busy, by rw [gate], entries.length_eq.symm, pass, by rw [gate], by rw [gate],
    by rw [gate], by rw [gate], gateFault_seen s e, fun enters => ?_, gateFault_state_of_not e⟩
  obtain ⟨state, lamp⟩ := gateFault_bay e enters
  exact ⟨state, lamp, gateFault_sets (distinct_of_sound sound) enters busy⟩

end

section
/-! ## The course of the set table and of the job table

What every operation does to the laws of R20, R29, R73, R96, R105 and R109: `State.tends` says it once for an operation that makes
no set record and enters no bay state but as R164 and R167 have it; a claim, STOP, an entry to FAULT and a JOB, which do more, are
treated by themselves. Operations are taken in the order of the model's files. -/

namespace Sys2Proof.Machine

/-- R73, R96: a record that only ACTIVE and DRAINING keep. -/
def SetRecord.underway (r : SetRecord) : Prop := r.state = .claiming ∨ r.state = .collecting ∨ r.state = .finishing

/-- What an operation may make of a record: no record comes under way anew, and the watch fields stay in range. -/
structure SetRecord.ages (q r : SetRecord) : Prop where
  id : r.id = q.id
  underway : r.underway → q.underway
  watch : q.watchSound → r.watchSound

/-- What an operation may make of the tables: records age or leave, and the job table keeps its law and brings no policy anew. -/
structure State.ages (s t : State) : Prop where
  ids : t.setIds.Sublist s.setIds
  records : ∀ r ∈ t.co.sets, ∃ q ∈ s.co.sets, q.ages r
  jobs : s.jobTableSound → t.jobTableSound
  policies : ∀ j ∈ t.jt.jobs, ∃ i ∈ s.jt.jobs, j.policy = i.policy

/-- The tables age, and the bay stays in its state, or holds no set any more (R164, R167), or is in a state that suits every
record. -/
structure State.tends (s t : State) : Prop extends s.ages t where
  bay : t.bs.state = s.bs.state ∨ t.co.sets = [] ∨ t.bs.state = .active ∨ t.bs.state = .draining

/-- The laws of the tables that `s` meets, `t` meets. -/
structure State.keepsTables (s t : State) : Prop where
  sets : s.setTableSound → t.setTableSound
  jobs : s.jobTableSound → t.jobTableSound
  bay : s.setTableSound → s.setsSuitBay → t.setsSuitBay
  watch : s.watchSound → t.watchSound

/-! ### Composing -/

section
variable {s t u : State} {q r v : SetRecord}

theorem SetRecord.ages.refl (r : SetRecord) : r.ages r := ⟨rfl, fun h => h, fun h => h⟩

theorem SetRecord.ages.trans (h : q.ages r) (k : r.ages v) : q.ages v :=
  ⟨k.id.trans h.id, h.underway ∘ k.underway, k.watch ∘ h.watch⟩

theorem State.ages.trans (h : s.ages t) (k : t.ages u) : s.ages u where
  ids := k.ids.trans h.ids
  records r hr := by
    obtain ⟨q, hq, aq⟩ := k.records r hr
    obtain ⟨v, hv, av⟩ := h.records q hq
    exact ⟨v, hv, av.trans aq⟩
  jobs := k.jobs ∘ h.jobs
  policies j hj := by
    obtain ⟨i, hi, same⟩ := k.policies j hj
    obtain ⟨g, hg, same'⟩ := h.policies i hi
    exact ⟨g, hg, same.trans same'⟩

theorem sets_eq_nil_of_ids (h : t.setIds.Sublist s.setIds) (none : s.co.sets = []) : t.co.sets = [] := by
  rw [State.setIds, State.setIds, none] at h
  exact List.map_eq_nil_iff.mp (List.sublist_nil.mp h)

theorem State.tends.trans (h : s.tends t) (k : t.tends u) : s.tends u where
  toages := h.toages.trans k.toages
  bay := by
    obtain same | rest := k.bay
    · rw [same]
      obtain same' | none | suits := h.bay
      · exact .inl same'
      · exact .inr (.inl (sets_eq_nil_of_ids k.ids none))
      · exact .inr (.inr suits)
    · exact .inr rest

/-- An operation that leaves the two tables alone. -/
theorem State.ages.of_same (sets : t.co.sets = s.co.sets) (jt : t.jt = s.jt) : s.ages t where
  ids := by rw [State.setIds, sets, State.setIds]
  records r hr := ⟨r, sets ▸ hr, .refl r⟩
  jobs h := by rw [State.jobTableSound, jt]; exact h
  policies j hj := ⟨j, jt ▸ hj, rfl⟩

/-- An operation that leaves the two tables and the bay state alone. -/
theorem State.tends.of_same (sets : t.co.sets = s.co.sets) (jt : t.jt = s.jt) (bay : t.bs.state = s.bs.state) : s.tends t :=
  ⟨.of_same sets jt, .inl bay⟩

/-- What the laws of the tables read of the state. -/
def State.tables (s : State) : List SetRecord × JobTable × BayState := (s.co.sets, s.jt, s.bs.state)

theorem State.tends.of (h : t.tables = s.tables) : s.tends t := by
  simp only [State.tables, Prod.mk.injEq] at h
  exact .of_same h.1 h.2.1 h.2.2

theorem State.ages.of (h : t.tables = s.tables) : s.ages t := (State.tends.of h).toages

theorem State.tends.refl (s : State) : s.tends s := .of rfl

/-- An operation that comes after a change that leaves the tables and the bay state alone. -/
theorem State.tends.after (k : t.tends u) (h : t.tables = s.tables) : s.tends u := (State.tends.of h).trans k

/-- An operation whose frame names neither table nor the bay. -/
theorem State.tends.of_frame {l : List Block} (h : s.sameBut l t)
    (sub : ∀ b ∈ l, b ∈ [Block.ri, .gc, .cu, .hr, .rf, .pw, .sc, .dc, .lc, .queue]) : s.tends t := by
  have frame := sameBut_mono h sub
  exact .of_same (by rw [frame.co (by decide)]) (frame.jt (by decide)) (by rw [frame.bs (by decide)])

/-- An operation on bins and counters of the Collation Unit, with the set table and the rest of the frame as they were. -/
theorem State.tends.of_sets {l : List Block} (h : s.sameBut l t) (sets : t.co.sets = s.co.sets)
    (sub : ∀ b ∈ l, b ∈ [Block.ri, .gc, .cu, .co, .hr, .rf, .pw, .sc, .dc, .lc, .queue]) : s.tends t := by
  have frame := sameBut_mono h sub
  exact .of_same sets (frame.jt (by decide)) (by rw [frame.bs (by decide)])

theorem tends_foldl {α : Type} (f : State → α → State) (h : ∀ t x, State.tends t (f t x)) :
    ∀ (xs : List α) (s : State), s.tends (xs.foldl f s)
  | [], s => .refl s
  | x :: xs, s => (h s x).trans (tends_foldl f h xs (f s x))

theorem State.ages.setTableSound (h : s.ages t) (sound : s.setTableSound) : t.setTableSound := by
  obtain ⟨few, ordered⟩ := sound
  refine ⟨?_, ?_⟩
  · have := h.ids.length_le
    simp only [State.setIds, List.length_map] at this
    omega
  · have ids : s.setIds.Pairwise (fun a b => a.before b = true) := List.pairwise_map.mpr ordered
    exact List.pairwise_map.mp (ids.sublist h.ids)

theorem State.ages.watchSound (h : s.ages t) (sound : s.watchSound) : t.watchSound := by
  obtain ⟨policies, records⟩ := sound
  refine ⟨fun j hj => ?_, fun r hr => ?_⟩
  · obtain ⟨i, hi, same⟩ := h.policies j hj
    rw [same]
    exact policies i hi
  · obtain ⟨q, hq, aged⟩ := h.records r hr
    exact aged.watch (records q hq)

/-- R73, R96: with no record under way, a bay that is neither in DORMANT nor in JOINING suits its records. -/
theorem setsSuitBay_of_ended (h : ∀ r ∈ s.co.sets, ¬r.underway) (other : s.bs.state ≠ .dormant ∧ s.bs.state ≠ .joining) :
    s.setsSuitBay := by
  have ended : ∀ r ∈ s.co.sets, r.state ≠ .claiming ∧ r.state ≠ .collecting ∧ r.state ≠ .finishing := fun r hr => by
    have := h r hr
    simpa only [SetRecord.underway, not_or] using this
  unfold State.setsSuitBay
  cases bay : s.bs.state with
  | dormant => exact absurd bay other.1
  | joining => exact absurd bay other.2
  | active => trivial
  | draining => trivial
  | service => exact ended
  | fault _ => exact ended

theorem setsSuitBay_of_empty (h : s.co.sets = []) : s.setsSuitBay := by
  unfold State.setsSuitBay
  split <;> simp [h]

theorem setsSuitBay_of_working (h : s.bs.state = .active ∨ s.bs.state = .draining) : s.setsSuitBay := by
  unfold State.setsSuitBay
  obtain bay | bay := h <;> rw [bay] <;> trivial

theorem State.tends.setsSuitBay (h : s.tends t) (suits : s.setsSuitBay) : t.setsSuitBay := by
  obtain same | none | working := h.bay
  · have ended : (∀ r ∈ s.co.sets, r.state ≠ .claiming ∧ r.state ≠ .collecting ∧ r.state ≠ .finishing) →
        ∀ r ∈ t.co.sets, ¬r.underway := fun all r hr under => by
      obtain ⟨q, hq, aged⟩ := h.records r hr
      obtain ⟨claiming, collecting, finishing⟩ := all q hq
      exact (aged.underway under).elim claiming (Or.rec collecting finishing)
    unfold State.setsSuitBay at suits
    cases bay : s.bs.state with
    | dormant => rw [bay] at suits; exact setsSuitBay_of_empty (sets_eq_nil_of_ids h.ids suits)
    | joining => rw [bay] at suits; exact setsSuitBay_of_empty (sets_eq_nil_of_ids h.ids suits)
    | active => exact setsSuitBay_of_working (.inl (same.trans bay))
    | draining => exact setsSuitBay_of_working (.inr (same.trans bay))
    | service => rw [bay] at suits same; exact setsSuitBay_of_ended (ended suits) (by rw [same]; decide)
    | fault c => rw [bay] at suits same; exact setsSuitBay_of_ended (ended suits) (by rw [same]; exact ⟨nofun, nofun⟩)
  · exact setsSuitBay_of_empty none
  · exact setsSuitBay_of_working working

theorem State.tends.keepsTables (h : s.tends t) : s.keepsTables t :=
  ⟨h.setTableSound, h.jobs, fun _ => h.setsSuitBay, h.watchSound⟩

theorem State.keepsTables.refl (s : State) : s.keepsTables s := (State.tends.refl s).keepsTables

theorem State.keepsTables.of (h : t.tables = s.tables) : s.keepsTables t := (State.tends.of h).keepsTables

theorem State.keepsTables.trans (h : s.keepsTables t) (k : t.keepsTables u) : s.keepsTables u :=
  ⟨k.sets ∘ h.sets, k.jobs ∘ h.jobs, fun sound suits => k.bay (h.sets sound) (h.bay sound suits), k.watch ∘ h.watch⟩

theorem State.keepsTables.after (k : t.keepsTables u) (h : t.tables = s.tables) : s.keepsTables u :=
  (State.keepsTables.of h).trans k

end

/-! ### What becomes of a record -/

section
variable (r : SetRecord)

/-- A record whose identity, policy and watch fields stay, and which comes under way from no other state. -/
theorem ages_of_watch {q v : SetRecord} (id : v.id = q.id) (state : v.underway → q.underway)
    (policy : v.policy = q.policy) (watch : v.watch = q.watch) (countdown : v.countdown = q.countdown)
    (attempts : v.attempts = q.attempts) : q.ages v :=
  ⟨id, state, fun h => by rw [SetRecord.watchSound, policy, watch, countdown, attempts]; exact h⟩

theorem underway_of_collecting {q : SetRecord} (h : q.state = .collecting) : q.underway := .inr (.inl h)

theorem toState_ages {x : SetState} (h : (r.toState x).underway → r.underway) : r.ages (r.toState x) :=
  ages_of_watch rfl h rfl rfl rfl rfl

theorem setStatus_ages (p : Nat) (x : PageStatus) : r.ages (r.setStatus p x) := ages_of_watch rfl id rfl rfl rfl rfl

theorem bin_ages (b : Option Nat) : r.ages { r with bin := b } := ages_of_watch rfl id rfl rfl rfl rfl

theorem waiting_ages (w : ReprintWait) : r.ages { r with waiting := w } := ages_of_watch rfl id rfl rfl rfl rfl

theorem stranded_ages (b : Bool) : r.ages { r with stranded := b } := ages_of_watch rfl id rfl rfl rfl rfl

theorem rackLost_ages : r.ages r.rackLost := ages_of_watch rfl id rfl rfl rfl rfl

theorem dropBin_ages : r.ages r.dropBin := ages_of_watch rfl id rfl rfl rfl rfl

theorem emptied_ages : r.ages r.emptied := ages_of_watch rfl id rfl rfl rfl rfl

theorem surrendered_ages : r.ages r.surrendered := ages_of_watch rfl nofun rfl rfl rfl rfl

theorem progressed_ages : r.ages r.progressed :=
  ⟨rfl, id, fun ⟨policy, watch, _, _⟩ => ⟨policy, watch, Nat.zero_le _, Nat.zero_le _⟩⟩

theorem sighted_ages : r.ages { r with watch := 0 } :=
  ⟨rfl, id, fun ⟨policy, _, countdown, attempts⟩ => ⟨policy, Nat.zero_le _, countdown, attempts⟩⟩

theorem retried_ages : r.ages r.retried :=
  ⟨rfl, id, fun ⟨policy, _, countdown, _⟩ => ⟨policy, Nat.zero_le _, countdown, Nat.zero_le _⟩⟩

/-- R106: the watch saturates at 15, and the countdown falls. -/
theorem lap_ages : r.ages r.lap := by
  unfold SetRecord.lap
  split
  · split
    · exact ages_of_watch rfl id rfl rfl rfl rfl
    · refine ⟨rfl, id, fun ⟨policy, watch, countdown, attempts⟩ => ⟨policy, ?_, ?_, attempts⟩⟩
      · change (if r.watch < 15 then r.watch + 1 else r.watch) ≤ 15
        split <;> omega
      · exact Nat.le_trans (Nat.sub_le _ _) countdown
  · exact .refl r

/-- R109: a policy in range has a maximum within its limit. -/
theorem maximum_le_limit {p : Policy} (h : p.inRange) : p.maximum ≤ p.limit := by
  obtain ⟨_, _, _, _, least, _⟩ := h
  unfold Policy.maximum
  split
  · exact Nat.zero_le _
  · exact least
  · exact Nat.le_refl _

/-- R109, R110, R113: a REPRINT starts the countdown at the policy's interval, and one of the policy's own takes an attempt that
the policy's maximum still allows. -/
theorem reprinted_ages (kind : ReprintWait) (h : kind = .policy → r.attempts < r.policy.maximum) : r.ages (r.reprinted kind) := by
  refine ⟨rfl, id, fun ⟨policy, watch, _, attempts⟩ => ⟨policy, watch, ?_, ?_⟩⟩
  · obtain ⟨_, _, _, interval, _, _⟩ := policy
    exact interval
  · dsimp only [SetRecord.reprinted]
    split
    · exact Nat.le_trans (h ‹_›) (maximum_le_limit policy)
    · exact attempts

theorem due_attempts (h : r.due = true) : r.attempts < r.policy.maximum := by
  simp only [SetRecord.due, Bool.and_eq_true, decide_eq_true_eq] at h
  exact h.1.1.1

end
end Sys2Proof.Machine
end

section
namespace Sys2Proof.Machine

variable (s : State)

/-! ### Ops.lean -/

theorem setBin_sets (b : Nat) (x : BinState) : (s.setBin b x).co.sets = s.co.sets := by rw [State.setBin, tell_sets]

theorem setBin_tends (b : Nat) (x : BinState) : s.tends (s.setBin b x) :=
  .of_sets (setBin_frame s b x) (setBin_sets s b x) (by decide)

theorem freeBin_tends (b : Nat) : s.tends (s.freeBin b) := .of_sets (freeBin_frame s b) (freeBin_sets s b) (by decide)

/-- A record of the table, aged and written. -/
theorem putSet_tends {r v : SetRecord} (m : r ∈ s.co.sets) (a : r.ages v) : s.tends (s.putSet v) := by
  have frame := putSet_frame s v
  have jt := frame.jt (by decide)
  cases found : s.findSet v.id with
  | none =>
    rw [State.putSet, found]
    exact .refl s
  | some old =>
    refine ⟨⟨by rw [putSet_ids], fun w hw => ?_, fun sound => by rw [State.jobTableSound, jt]; exact sound,
      fun j hj => ⟨j, jt ▸ hj, rfl⟩⟩, .inl (by rw [frame.bs (by decide)])⟩
    rw [putSet_co found] at hw
    obtain ⟨q, hq, rfl⟩ := List.mem_map.mp hw
    split
    · exact ⟨r, m, a⟩
    · exact ⟨q, hq, .refl q⟩

/-- The record read, aged and written. -/
theorem putSet_tends_of {i : SetId} {r v : SetRecord} (h : s.findSet i = some r) (a : r.ages v) : s.tends (s.putSet v) :=
  putSet_tends s (findSet_mem h) a

theorem updSet_tends (i : SetId) {f : SetRecord → SetRecord} (h : ∀ r : SetRecord, r.ages (f r)) : s.tends (s.updSet i f) := by
  unfold State.updSet
  split
  · exact .refl s
  · exact putSet_tends_of s ‹_› (h _)

theorem setPage_tends (i : SetId) (p : Nat) (x : PageStatus) : s.tends (s.setPage i p x) :=
  updSet_tends s i fun r => setStatus_ages r p x

theorem progress_tends (i : SetId) : s.tends (s.progress i) := updSet_tends s i progressed_ages

theorem sighting_tends (i : SetId) : s.tends (s.sighting i) := updSet_tends s i sighted_ages

theorem dropSet_sets (r : SetRecord) : (s.dropSet r).co.sets = s.co.sets.filter (fun q => q.id != r.id) := by
  rw [State.dropSet, (unbindingTest_frame _ _).co (by decide), tell_sets]

theorem dropSet_tends (r : SetRecord) : s.tends (s.dropSet r) := by
  have frame := dropSet_frame s r
  have jt := frame.jt (by decide)
  have fewer : (s.dropSet r).co.sets.Sublist s.co.sets := by
    rw [dropSet_sets]
    exact List.filter_sublist
  exact ⟨⟨fewer.map _, fun v hv => ⟨v, fewer.subset hv, .refl v⟩, fun sound => by rw [State.jobTableSound, jt]; exact sound,
    fun j hj => ⟨j, jt ▸ hj, rfl⟩⟩, .inl (by rw [frame.bs (by decide)])⟩

/-- R20: a job record replaced in its place. -/
theorem putJob_tends (r : JobRecord) (h : ∃ j ∈ s.jt.jobs, r.policy = j.policy) : s.tends (s.putJob r) where
  ids := .refl _
  records v hv := ⟨v, hv, .refl v⟩
  jobs := by
    rintro ⟨few, once⟩
    refine ⟨by simpa using few, ?_⟩
    have jobs : (s.putJob r).jt.jobs.map JobRecord.job = s.jt.jobs.map JobRecord.job := by
      rw [State.putJob_jt, List.map_map]
      refine List.map_congr_left fun q _ => ?_
      rw [Function.comp_apply]
      split
      · exact Eq.symm ‹_›
      · rfl
    have distinct : (s.jt.jobs.map JobRecord.job).Pairwise (· ≠ ·) := List.pairwise_map.mpr once
    exact List.pairwise_map.mp (jobs ▸ distinct)
  policies j hj := by
    obtain ⟨q, hq, rfl⟩ := List.mem_map.mp hj
    split
    · exact h
    · exact ⟨q, hq, rfl⟩
  bay := .inl rfl

theorem countTested_job (r : JobRecord) : r.countTested.job = r.job := by
  unfold JobRecord.countTested
  split
  · rfl
  · split <;> rfl

theorem countTested_policy (r : JobRecord) : r.countTested.policy = r.policy := by
  unfold JobRecord.countTested
  split
  · rfl
  · split <;> rfl

theorem findJob_mem {s : State} {j : Nat} {r : JobRecord} (h : s.findJob j = some r) : r ∈ s.jt.jobs :=
  List.mem_of_find?_eq_some h

theorem findJob_job {s : State} {j : Nat} {r : JobRecord} (h : s.findJob j = some r) : r.job = j := by
  simpa using List.find?_some h

theorem unbindJob_tends (j : Nat) : s.tends (s.unbindJob j) := .of_frame (unbindJob_frame s j) (by decide)

theorem addDone_tends (i : SetId) : s.tends (s.addDone i) := by
  unfold State.addDone
  split
  · exact .refl s
  · rename_i r found
    split
    · exact .refl s
    · have put := putJob_tends s ({ r with doneMap := insertNum i.num r.doneMap } : JobRecord).countTested
        ⟨r, findJob_mem found, countTested_policy _⟩
      dsimp only
      split
      · exact put
      · exact put.trans (unbindJob_tends _ _)

/-! ### Units.lean and Bay.lean -/

theorem delivering_ages (r : SetRecord) : r.ages (r.toState .delivering) := toState_ages r nofun

theorem handOver_tends (j : JawName) (i : SetId) (o : SetOutcome) : s.tends (s.handOver j i o) := by
  unfold State.handOver
  split
  · exact .refl s
  · refine (putSet_tends_of s ‹_› (delivering_ages _)).trans ?_
    refine .trans (.of_frame (fixOutcome_frame _ j o) (by decide)) ?_
    exact .after (.of_frame (deliverTests_frame _) (by decide)) rfl

theorem setBay_ages (x : BayState) : s.ages (s.setBay x) := by
  have frame := setBay_frame s x
  exact .of_same (by rw [frame.co (by decide)]) (frame.jt (by decide))

theorem setBay_state (x : BayState) : (s.setBay x).bs.state = x := by
  unfold State.setBay
  rw [(wantState_frame _).bs (by decide)]

theorem setBay_sets (x : BayState) : (s.setBay x).co.sets = s.co.sets := by rw [(setBay_frame s x).co (by decide)]

/-- Entry to a bay state with no set left. -/
theorem setBay_tends_of_empty (x : BayState) (h : s.co.sets = []) : s.tends (s.setBay x) :=
  ⟨setBay_ages s x, .inr (.inl ((setBay_sets s x).trans h))⟩

/-- Entry to ACTIVE or DRAINING. -/
theorem setBay_tends_of_working {x : BayState} (h : x = .active ∨ x = .draining) : s.tends (s.setBay x) :=
  ⟨setBay_ages s x, .inr (.inr (by rw [setBay_state]; exact h))⟩

theorem enterJoining_tends (h : s.co.sets = []) : s.tends s.enterJoining := by
  have frame := enterJoining_frame s
  have co := frame.co (by decide)
  exact ⟨.of_same (by rw [co]) (frame.jt (by decide)), .inr (.inl (by rw [co, h]))⟩

theorem enterActive_tends : s.tends s.enterActive := (setBay_tends_of_working s (.inl rfl)).trans (.of rfl)

theorem drainTest_tends : s.tends s.drainTest := by
  unfold State.drainTest
  split
  · rename_i drained
    exact setBay_tends_of_empty s _ drained.2
  · exact .refl s

theorem rejoinTest_tends : s.tends s.rejoinTest := by
  unfold State.rejoinTest
  split
  · rename_i rejoins
    exact enterJoining_tends s rejoins.2.2
  · exact .refl s

theorem removeSet_tends (i : SetId) : s.tends (s.removeSet i) := by
  unfold State.removeSet
  split
  · exact .refl s
  · exact ((dropSet_tends s _).trans (drainTest_tends _)).trans (rejoinTest_tends _)

theorem setHeard_tends : s.tends s.setHeard := .after (rejoinTest_tends _) rfl

/-! ### Sets.lean -/

theorem queueCarriage_tends (q : CarriageRequest) : s.tends (s.queueCarriage q) :=
  .of_frame (queueCarriage_frame s q) (by decide)

theorem unloadTest_tends (i : SetId) : s.tends (s.unloadTest i) := by
  unfold State.unloadTest
  split
  · exact .refl s
  · rename_i r found
    split
    · exact .refl s
    · split
      · split
        · refine (freeBin_tends s _).trans (putSet_tends_of (i := i) _ ?_ (bin_ages r none))
          rw [findSet_freeBin, found]
        · exact queueCarriage_tends s _
      · exact .refl s

theorem removalTest_tends (i : SetId) : s.tends (s.removalTest i) := by
  unfold State.removalTest
  split
  · exact .refl s
  · split
    · exact removeSet_tends s i
    · exact .refl s

theorem undoPage_tends (g : PageRef) : s.tends (s.undoPage g) := by
  unfold State.undoPage
  split
  · exact .refl s
  · split
    · exact setPage_tends s _ _ _
    · exact .refl s

theorem undoAction_tends (e : Entry) : s.tends (s.undoAction e) := by
  unfold State.undoAction
  split
  · exact undoPage_tends s _
  · exact (undoPage_tends s _).trans (.of_frame (undoReservation_frame _ _ _ _) (by decide))
  · exact .refl s

theorem rewriteSet_tends (i : SetId) : s.tends (s.rewriteSet i) :=
  (tends_foldl State.undoAction undoAction_tends _ _).trans (.of rfl)

theorem releaseToFeeder_tends (i : SetId) (p : Nat) : s.tends (s.releaseToFeeder i p) := by
  unfold State.releaseToFeeder
  split
  · exact .refl s
  · split
    · exact (setPage_tends s _ _ _).trans (.of_frame (queueRelease_frame _ _) (by decide))
    · exact .refl s

theorem claimless_frame (r : SetRecord) : s.sameBut [.cu, .lc] (s.claimless r) := by
  unfold State.claimless
  split
  · exact withdrawClaim_frame s _
  · exact sameBut_refl _ s

theorem beginSurrender_tends {i : SetId} {r : SetRecord} (h : s.findSet i = some r) : s.tends (s.beginSurrender r) := by
  have begun : s.tends (((s.claimless r).putSet r.surrendered).countSurrender) := by
    refine .trans (.of_frame (claimless_frame s r) (by decide)) ?_
    refine .trans (putSet_tends_of (i := i) _ ?_ (surrendered_ages r)) (.of rfl)
    rw [findSet_of_co (claimless_co s r), h]
  rw [beginSurrender_eq]
  split
  · exact begun.trans (.of_frame (withdrawCarriage_frame _ _ _) (by decide))
  · exact begun

theorem endSurrender_tends (r : SetRecord) (x : Option YieldReason) : s.tends (s.endSurrender r x) := by
  have yielded : s.tends (match x with
      | some y => if r.state = .claiming then s else s.dueYield r.id y
      | none => s) := by
    split
    · split
      · exact .refl s
      · exact .of_frame (dueYield_frame s _ _) (by decide)
    · exact .refl s
  refine .trans ?_ (removalTest_tends _ _)
  refine .trans ?_ (unloadTest_tends _ _)
  refine .trans ?_ (tends_foldl _ (fun t p => releaseToFeeder_tends t r.id p) _ _)
  exact (yielded.trans (rewriteSet_tends _ _)).trans (.of_frame (redirect_frame _ _) (by decide))

theorem surrender_tends (i : SetId) (x : Option YieldReason) : s.tends (s.surrender i x) := by
  unfold State.surrender
  split
  · exact .refl s
  · exact (beginSurrender_tends s ‹_›).trans (endSurrender_tends _ _ _)

theorem surrenderTurn_tends (x : Option YieldReason) (i : SetId) : s.tends (s.surrenderTurn x i) := by
  unfold State.surrenderTurn
  split
  · exact surrender_tends s i x
  · exact .refl s

theorem surrenderAll_tends (x : Option YieldReason) : s.tends (s.surrenderAll x) :=
  tends_foldl _ (fun t i => surrenderTurn_tends t x i) _ _

theorem releaseTest_tends (i : SetId) : s.tends (s.releaseTest i) := by
  unfold State.releaseTest
  split
  · exact .refl s
  · split
    · exact (setPage_tends s _ _ _).trans (.of_frame (queueRelease_frame _ _) (by decide))
    · exact .refl s

theorem completed_ages (r : SetRecord) (x : Bool) : r.ages { r.toState .complete with isPartial := x } :=
  ages_of_watch rfl nofun rfl rfl rfl rfl

theorem completeSet_tends {i : SetId} {r : SetRecord} (h : s.findSet i = some r) (x : Bool) : s.tends (s.completeSet r x) :=
  (putSet_tends_of s h (completed_ages r x)).trans (queueCarriage_tends _ _)

theorem completionTest_tends (i : SetId) : s.tends (s.completionTest i) := by
  unfold State.completionTest
  split
  · exact .refl s
  · rename_i found
    split
    · split
      · exact completeSet_tends s found _
      · exact .refl s
    · split
      · exact .refl s
      · split
        · exact surrender_tends s _ _
        · exact completeSet_tends s found _
    · exact .refl s

theorem afterChange_tends (i : SetId) : s.tends (s.afterChange i) := by
  have open' := (releaseTest_tends s i).trans (completionTest_tends _ i)
  unfold State.afterChange
  split
  · exact .refl s
  · split
    · exact open'
    · exact open'
    · exact open'
    · exact (unloadTest_tends s i).trans (removalTest_tends _ i)
    · exact .refl s
    · exact .refl s
    · exact .refl s

theorem undoEntry_tends (e : Entry) : s.tends (s.undoEntry e) := by
  unfold State.undoEntry
  dsimp only
  split
  · exact undoAction_tends s e
  · split
    · exact (undoAction_tends s e).trans (afterChange_tends _ _)
    · exact undoAction_tends s e

theorem lapse_tends (e : Entry) : s.tends (s.lapse e) := (undoEntry_tends s e).trans (.of rfl)

theorem lapseOldest_tends : s.tends s.lapseOldest := by
  unfold State.lapseOldest
  split
  · exact .refl s
  · exact .after (lapse_tends _ _) rfl

theorem rewriteAt_tends (i : Nat) : s.tends (s.rewriteAt i) := by
  unfold State.rewriteAt
  split
  · exact .refl s
  · exact .after (undoEntry_tends _ _) rfl

theorem binDiverted_tends (b : Nat) (g : PageRef) : s.tends (s.binDiverted b g) := by
  unfold State.binDiverted
  split
  · exact .refl s
  · split
    · exact ((setPage_tends s _ _ _).trans (progress_tends _ _)).trans (afterChange_tends _ _)
    · exact (setPage_tends s _ _ _).trans (afterChange_tends _ _)

theorem pageStored_tends (i : SetId) (p k : Nat) : s.tends (s.pageStored i p k) := by
  have held := (setPage_tends s i p (.held k)).trans (progress_tends _ i)
  unfold State.pageStored
  split
  · exact .refl s
  · dsimp only
    split
    · exact (held.trans (releaseToFeeder_tends _ _ _)).trans (afterChange_tends _ _)
    · exact held.trans (afterChange_tends _ _)

theorem pageReleased_tends (i : SetId) (p b : Nat) : s.tends (s.pageReleased i p b) := by
  unfold State.pageReleased
  split
  · exact .refl s
  · exact (setPage_tends s _ _ _).trans (afterChange_tends _ _)

theorem pageToFeeder_tends (i : SetId) (p : Nat) : s.tends (s.pageToFeeder i p) :=
  (setPage_tends s _ _ _).trans (afterChange_tends _ _)

/-! ### Faults.lean: R96, an entry to FAULT leaves no record under way -/

theorem rewriteRack_tends : s.tends s.rewriteRack :=
  (tends_foldl State.undoAction undoAction_tends _ _).trans (.of rfl)

theorem afterRackFault_tends (i : SetId) : s.tends (s.afterRackFault i) := by
  unfold State.afterRackFault
  split
  · exact .refl s
  · split
    · exact afterChange_tends s i
    · exact .refl s

theorem rackTested_tends : s.tends s.rackTested := by
  refine .trans ?_ (tends_foldl _ afterRackFault_tends _ _)
  refine .trans ?_ (rewriteRack_tends _)
  exact .after (tends_foldl _ (fun t i => updSet_tends t i rackLost_ages) _ _) rfl

theorem rackFault_tends : s.tends s.rackFault := by
  rw [rackFault_eq]
  split
  · exact (rackTested_tends s).trans (.of_frame (roomReport_frame _) (by decide))
  · exact rackTested_tends s

/-- R96: no record that every set's turn leaves behind is under way. -/
theorem surrenderAll_ended {s : State} (d : s.distinct) (x : Option YieldReason) {r : SetRecord}
    (m : r ∈ (s.surrenderAll x).co.sets) : ¬r.underway := by
  rw [surrenderAll_eq] at m
  have found := findSet_of_mem (distinct_of_ids (surrenderTurns_ids x s.setIds s) d) m
  cases was : s.findSet r.id with
  | none =>
    rw [(surrenderTurns_kept x s.setIds s (not_mem_setIds was)).1, was] at found
    cases found
  | some q =>
    obtain ⟨t, before, after⟩ := surrenderTurns_turn x s.setIds s (nodup_ids d) (mem_setIds was)
    unfold SetRecord.underway
    obtain given | ⟨same, left⟩ := surrenderTurn_outlasts x (before.1.trans was)
    · rw [after.givenUp given r found]
      exact nofun
    · rw [same] at after
      have own : r = q := Option.some.inj (found.symm.trans (after.1.trans (before.1.trans was)))
      subst own
      obtain state | (state | state) | ⟨state, _⟩ := left <;> rw [state] <;> exact nofun

/-- R96, R165, R166: an entry to SERVICE or FAULT with every set's turn to be surrendered. -/
theorem surrendersIn_keepsTables {t : State} (h : s.ages t) (x : Option YieldReason)
    (other : t.bs.state ≠ .dormant ∧ t.bs.state ≠ .joining) : s.keepsTables (t.surrenderAll x) := by
  have all := surrenderAll_tends t x
  have ages := h.trans all.toages
  refine ⟨ages.setTableSound, ages.jobs, fun sound _ => ?_, ages.watchSound⟩
  have ended := fun r => surrenderAll_ended (distinct_of_sound (h.setTableSound sound)) x (r := r)
  obtain same | none | working := all.bay
  · exact setsSuitBay_of_ended ended (by rw [same]; exact other)
  · exact setsSuitBay_of_empty none
  · exact setsSuitBay_of_working working

theorem enterFault_keepsTables (c : Cause) : s.keepsTables (s.enterFault c) := by
  unfold State.enterFault
  refine .trans ?_ (State.tends.of_frame (linkAtFault_frame _ _ _) (by decide)).keepsTables
  refine .trans ?_ (State.tends.of_frame (claimsAtFault_frame _ _) (by decide)).keepsTables
  refine surrendersIn_keepsTables s ((setBay_ages s (.fault c)).trans ?_) _ ?_
  · exact .of rfl
  · dsimp only
    rw [setBay_state]
    exact ⟨nofun, nofun⟩

theorem reportFault_keepsTables (c : Cause) : s.keepsTables (s.reportFault c) := by
  have seen : s.tends { s with bs := { s.bs with seen := s.bs.seen.add c } } := .of rfl
  unfold State.reportFault
  dsimp only
  split
  · exact seen.keepsTables.trans (enterFault_keepsTables _ c)
  · split
    · exact .of rfl
    · exact seen.keepsTables

theorem carriageFault_keepsTables : s.keepsTables s.carriageFault := by
  unfold State.carriageFault
  split
  · exact .after (reportFault_keepsTables _ _) rfl
  · exact .refl s
  · exact .refl s

theorem gateFailed_tends (e : Entry) : s.tends (s.gateFailed e) := by
  unfold State.gateFailed
  split
  · exact .of rfl
  · exact undoEntry_tends s e

theorem gateFault_keepsTables (e : Entry) : s.keepsTables (s.gateFault e) := by
  have undone : s.tends (s.gateUndone e) :=
    .after ((gateFailed_tends _ e).trans (tends_foldl _ rewriteAt_tends _ _)) rfl
  exact undone.keepsTables.trans (reportFault_keepsTables _ _)

theorem deliverTest_tends (p : Nat) : s.tends (s.deliverTest p) := .of_frame (deliverTest_frame s p) (by decide)

theorem deliveryFault_tends (j : JawName) (p : Nat) : s.tends (s.deliveryFault j p) := by
  have landed : s.tends { s with dc := { s.dc with
      pockets := modify1 s.dc.pockets p (fun x => { x with inFlight := none }) } } := .of rfl
  unfold State.deliveryFault
  dsimp only
  split
  · rename_i i _ _
    have out := landed.trans (.of_frame (setJaw_frame _ j (.outOfService i)) (by decide))
    refine .trans ?_ (deliverTest_tends _ _)
    refine .trans ?_ (removeSet_tends _ _)
    split
    · exact out.trans (.of rfl)
    · exact out.trans (.after (.of_frame (dueYield_frame _ _ _) (by decide)) rfl)
  all_goals exact landed.trans (deliverTest_tends _ _)

/-! ### Hear.lean -/

theorem heardSteps_frame (kind : BitVec 6) (f : Frame) : s.sameBut [.cu, .sc, .hr, .rf, .lc] (s.heardSteps kind f) := by
  have unmarked : s.sameBut [.cu, .sc, .hr, .rf, .lc] { s with lc := { s.lc with spoilMark := false } } := by
    simp [State.sameBut]
  have left : s.sameBut [.cu, .sc, .hr, .rf, .lc]
      (if s.ownAttempt kind f then ({ s with lc := { s.lc with spoilMark := false } } : State).leaveLine
        else { s with lc := { s.lc with spoilMark := false } }) := by
    split
    · exact sameBut_trans unmarked (leaveLine_frame _)
    · exact unmarked
  unfold State.heardSteps
  dsimp only at left ⊢
  split
  · exact sameBut_trans left (sameBut_mono (markPresent_frame _ _) (by decide))
  · exact left

theorem afterHeard_tends (t : State) : t.tends (State.afterHeard s t) := by
  unfold State.afterHeard
  split
  · exact setHeard_tends t
  · exact .refl t

theorem stationClash_keepsTables : s.keepsTables s.stationClash := by
  unfold State.stationClash
  split
  · exact .refl s
  · exact reportFault_keepsTables s _

/-- A heard notice keeps the tables' laws when what its block does with it keeps them. -/
theorem hear_keepsTables (k : NoticeKind) (f : Frame) {act : State → State} (h : ∀ t, State.keepsTables t (act t)) :
    s.keepsTables (s.hear k f act) := by
  have heard : s.tends (s.heardSteps k.code f) := .of_frame (heardSteps_frame s _ f) (by decide)
  unfold State.hear
  split
  · exact .refl s
  · split
    · exact stationClash_keepsTables s
    · refine .trans ?_ (afterHeard_tends _ _).keepsTables
      split
      · exact heard.keepsTables.trans (h _)
      · exact heard.keepsTables.trans (.of rfl)

end Sys2Proof.Machine
end

section
namespace Sys2Proof.Machine

variable (s : State)

/-! ### The Claim Unit's commands -/

theorem won_ages (r : SetRecord) (h : r.state = .claiming) : r.ages { r.toState .collecting with deadline := false } :=
  ages_of_watch rfl (fun _ => .inl h) rfl rfl rfl rfl

theorem claimWon_tends {i : SetId} {r : SetRecord} (h : s.findSet i = some r) (claiming : r.state = .claiming) :
    s.tends (s.claimWon r) :=
  ((putSet_tends_of s h (won_ages r claiming)).trans (.of_frame (withdrawClaim_frame _ _) (by decide))).trans
    (completionTest_tends _ _)

theorem addForeign_frame (i : SetId) (x : Nat) : s.sameBut [.cu] (s.addForeign i x) := by
  unfold State.addForeign
  split <;> simp [State.sameBut]

theorem countClaimLost_tends : s.tends s.countClaimLost := .of rfl

theorem claimLost_tends {i : SetId} {r : SetRecord} (h : s.findSet i = some r) (x : Nat) : s.tends (s.claimLost r x) := by
  refine .trans ?_ (countClaimLost_tends _)
  refine .trans ?_ (endSurrender_tends _ _ _)
  exact (beginSurrender_tends s h).trans (.of_frame (addForeign_frame _ _ _) (by decide))

theorem lateClaim_frame (i : SetId) : s.sameBut [.cu, .lc] (s.lateClaim i) := by
  unfold State.lateClaim
  split
  · exact sameBut_refl _ s
  · exact sameBut_trans (by simp [State.sameBut]) (dueYield_frame _ _ _)

/-- The record that a filter by its state finds. -/
theorem findSet_of_filter {i : SetId} {r : SetRecord} {p : SetRecord → Bool} (h : (s.findSet i).filter p = some r) :
    s.findSet i = some r ∧ p r = true := Option.filter_eq_some_iff.mp h

theorem firstClaim_tends (x : Nat) (i : SetId) : s.tends (s.firstClaim x i) := by
  unfold State.firstClaim
  split
  · obtain ⟨found, claiming⟩ := findSet_of_filter s ‹_›
    split
    · exact claimWon_tends s found (by simpa using claiming)
    · exact claimLost_tends s found _
  · split
    · exact .refl s
    · split
      · exact .of_frame (lateClaim_frame s i) (by decide)
      · exact .of_frame (addForeign_frame s i x) (by decide)

theorem onClaim_tends (f : Frame) : s.tends (s.onClaim f) := by
  unfold State.onClaim
  dsimp only
  split
  · exact .of rfl
  · exact firstClaim_tends s _ _

theorem heldOne_tends (x : Nat) (i : SetId) : s.tends (s.heldOne x i) := by
  unfold State.heldOne
  split
  · exact claimLost_tends s (findSet_of_filter s ‹_›).1 _
  · split
    · split
      · exact .refl s
      · exact .of rfl
    · exact .of_frame (addForeign_frame s i x) (by decide)

theorem onHeld_tends (f : Frame) : s.tends (s.onHeld f) := by
  unfold State.onHeld
  dsimp only
  split
  · exact .of rfl
  · split
    · exact .refl s
    · exact tends_foldl _ (fun t i => heldOne_tends t _ i) _ _

theorem onYield_tends (f : Frame) : s.tends (s.onYield f) := by
  unfold State.onYield
  dsimp only
  repeat' split
  all_goals exact .of rfl

theorem doneConflict_tends (r : SetRecord) : s.tends (s.doneConflict r) := by
  unfold State.doneConflict
  dsimp only
  split
  · exact .after (surrender_tends _ _ _) rfl
  · exact .of rfl

theorem onDone_tends (f : Frame) : s.tends (s.onDone f) := by
  have forgot : s.tends { s.addDone (f.setAt 0) with cu := (s.addDone (f.setAt 0)).cu.forget (f.setAt 0) } :=
    (addDone_tends s (f.setAt 0)).trans (.of rfl)
  unfold State.onDone
  dsimp only
  split
  · exact .of rfl
  · split
    · exact forgot
    · split
      · exact forgot
      · exact forgot.trans (doneConflict_tends _ _)

theorem answerHello_frame : s.sameBut [.cu, .lc] s.answerHello := sameBut_trans (by simp [State.sameBut]) (refillUrgent_frame _)

theorem helloEcho_tends : s.tends s.helloEcho := by
  unfold State.helloEcho
  split <;> exact .of rfl

theorem onHello_tends (f : Frame) : s.tends (s.onHello f) := by
  unfold State.onHello
  dsimp only
  split
  · exact .of rfl
  · split
    · exact helloEcho_tends s
    · split
      · exact .after (.of_frame (answerHello_frame _) (by decide)) rfl
      · exact .of rfl

theorem onGone_keepsTables (f : Frame) : s.keepsTables (s.onGone f) := by
  unfold State.onGone
  dsimp only
  split
  · exact .of rfl
  · split
    · exact reportFault_keepsTables s _
    · split
      · exact .after (State.tends.of_frame (yieldGone_frame _ _) (by decide)).keepsTables rfl
      · exact .refl s

/-! ### The Job Table's commands (R20 to R25) -/

/-- R20: a record put at the recent end of a table that has a place for it. -/
theorem announced_sound {r : JobRecord} (h : s.jobTableSound)
    (room : (s.jt.jobs.filter (fun q => q.job != r.job)).length < 32) : (s.announceJob r).jobTableSound := by
  obtain ⟨_, once⟩ := h
  refine ⟨by rw [State.announceJob_jt, List.length_append]; exact room, ?_⟩
  rw [State.announceJob_jt]
  refine List.pairwise_append.mpr ⟨once.sublist List.filter_sublist, List.pairwise_singleton _ _, fun a ha b hb => ?_⟩
  obtain rfl := List.mem_singleton.mp hb
  simpa using (List.mem_filter.mp ha).2

/-- A table without one of its records has a place. -/
theorem filter_job_lt {l : List JobRecord} {r : JobRecord} (m : r ∈ l) (few : l.length ≤ 32) :
    (l.filter (fun q => q.job != r.job)).length < 32 :=
  Nat.lt_of_lt_of_le (List.length_filter_lt_length_iff_exists.mpr ⟨r, m, by simp⟩) few

/-- A job record with a policy in range joins the table, where it has a place. -/
theorem announceJob_keepsTables {s t : State} {r : JobRecord} (before : s.keepsTables t)
    (policy : t.watchSound → r.policy.inRange)
    (room : s.jobTableSound → (t.jt.jobs.filter (fun q => q.job != r.job)).length < 32) : s.keepsTables (t.announceJob r) where
  sets := before.sets
  jobs h := announced_sound t (before.jobs h) (room h)
  bay := before.bay
  watch h := by
    have sound := before.watch h
    refine ⟨fun j hj => ?_, sound.2⟩
    rw [State.announceJob_jt] at hj
    obtain old | new := List.mem_append.mp hj
    · exact sound.1 j (List.mem_filter.mp old).1
    · obtain rfl := List.mem_singleton.mp new
      exact policy sound

/-- R21: what a JOB stores is in range. -/
theorem jobFields_inRange {f : Frame} {x : JobFields} (h : jobFields f = some x) : x.policy.inRange := by
  unfold jobFields at h
  dsimp only at h
  split at h
  · cases h
  · split at h
    · cases h
    · cases h
      refine ⟨?_, ?_, ?_, ?_, ?_, ?_⟩ <;> dsimp only <;> split <;> omega

theorem unbindJob_keepsTables (j : Nat) : s.keepsTables (s.unbindJob j) := (unbindJob_tends s j).keepsTables

/-- R22: the record given up leaves a place to the new one. -/
theorem newJob_keepsTables {x : JobFields} (policy : x.policy.inRange) : s.keepsTables (s.newJob x) := by
  unfold State.newJob
  dsimp only
  split
  · rename_i room
    exact announceJob_keepsTables (.refl s) (fun _ => policy) fun _ => Nat.lt_of_le_of_lt (List.length_filter_le _ _) room
  · split
    · exact ⟨id, id, fun _ => id, id⟩
    · rename_i old found
      refine .trans ?_ (unbindJob_keepsTables _ _)
      have left : s.keepsTables { s with jt := { s.jt with jobs := s.jt.jobs.filter (fun q => q.job != old.job) } } :=
        ⟨id, fun h => ⟨Nat.le_trans (List.length_filter_le _ _) h.1, h.2.sublist List.filter_sublist⟩, fun _ => id,
          fun h => ⟨fun j hj => h.1 j (List.mem_filter.mp hj).1, h.2⟩⟩
      exact announceJob_keepsTables left (fun _ => policy) fun h =>
        Nat.lt_of_le_of_lt (List.length_filter_le _ _) (filter_job_lt (List.mem_of_find?_eq_some found) h.1)

/-- A record of the table announced again, with a policy in range. -/
theorem announceAgain_keepsTables {j : Nat} {r q : JobRecord} (h : s.findJob j = some r) (job : q.job = j)
    (policy : q.policy.inRange) : s.keepsTables (s.announceJob q) :=
  announceJob_keepsTables (.refl s) (fun _ => policy) fun sound => by
    rw [show q.job = r.job from job.trans (findJob_job h).symm]
    exact filter_job_lt (findJob_mem h) sound.1

theorem applyJob_keepsTables {r : JobRecord} {x : JobFields} (h : s.findJob x.job = some r) (policy : x.policy.inRange) :
    s.keepsTables (s.applyJob r x) := by
  have announced := announceAgain_keepsTables s (q := (r.updated x).countTested) h
    ((countTested_job (r.updated x)).trans (show r.job = x.job from findJob_job h)) (by rw [countTested_policy]; exact policy)
  unfold State.applyJob
  dsimp only
  split
  · exact announced.trans (unbindJob_keepsTables _ _)
  · exact announced

theorem onJob_keepsTables (f : Frame) : s.keepsTables (s.onJob f) := by
  unfold State.onJob
  split
  · exact .of rfl
  · have policy := jobFields_inRange ‹_›
    split
    · exact newJob_keepsTables s policy
    · rename_i found
      split
      · exact applyJob_keepsTables s found policy
      · split
        · exact .refl s
        · unfold State.reuseJob
          split
          · exact applyJob_keepsTables s found policy
          · exact (announceAgain_keepsTables s found rfl policy).trans (unbindJob_keepsTables _ _)

theorem onJobclose_tends (f : Frame) : s.tends (s.onJobclose f) := by
  unfold State.onJobclose
  split
  · exact .of rfl
  · split
    · exact .refl s
    · rename_i r found
      split
      · exact (putJob_tends s { r with state := .closed } ⟨r, findJob_mem found, rfl⟩).trans (unbindJob_tends _ _)
      · exact .refl s

/-! ### The Link Controller's commands -/

theorem onState_tends (f : Frame) : s.tends (s.onState f) := by
  unfold State.onState
  split
  · exact .of rfl
  · dsimp only
    split <;> exact .of rfl

theorem onProbe_tends (f : Frame) : s.tends (s.onProbe f) := by
  unfold State.onProbe
  dsimp only
  split
  · exact .refl s
  · split
    · exact .of rfl
    · unfold State.answerProbe
      split <;> exact .of rfl

theorem presenceExpires_tends (x : Nat) : s.tends (s.presenceExpires x) :=
  .after (.of_frame (wantGone_frame _ _) (by decide)) rfl

theorem silenceExpires_keepsTables : s.keepsTables s.silenceExpires := .after (reportFault_keepsTables _ _) rfl

/-! ### Laps (R106 to R113) -/

theorem offerReprint_tends {i : SetId} {r : SetRecord} (h : s.findSet i = some r) (kind : ReprintWait)
    (due : kind = .policy → r.attempts < r.policy.maximum) : s.tends (s.offerReprint r kind) := by
  unfold State.offerReprint
  split
  · have put : s.tends ((s.pushRoutine (.reprint r.id r.reprintPages)).putSet (r.reprinted kind)) :=
      .after (putSet_tends (s.pushRoutine _) (findSet_mem h) (reprinted_ages r kind due)) rfl
    exact put.trans (.of rfl)
  · exact (putSet_tends_of s h (waiting_ages r kind)).trans (.of rfl)

theorem offerWaiting_tends (l : List SetId) (i : SetId) : s.tends (s.offerWaiting l i) := by
  unfold State.offerWaiting
  split
  · exact .refl s
  · rename_i r found
    have cleared := putSet_tends_of s found (waiting_ages r .none)
    split
    · exact .refl s
    · split
      · exact .refl s
      · split
        · exact offerReprint_tends s found .retry nofun
        · exact cleared
      · split
        · rename_i due
          exact offerReprint_tends s found .policy fun _ => due_attempts r (Bool.and_eq_true_iff.mp due).2
        · exact cleared

theorem offerDue_tends (l : List SetId) (i : SetId) : s.tends (s.offerDue l i) := by
  unfold State.offerDue
  split
  · exact .refl s
  · rename_i r found
    split
    · rename_i due
      exact offerReprint_tends s found .policy fun _ => due_attempts r (Bool.and_eq_true_iff.mp due.2).2
    · exact .refl s

theorem strand_tends (l : List SetId) (i : SetId) : s.tends (s.strand l i) := by
  unfold State.strand
  split
  · exact .refl s
  · split
    · exact (putSet_tends_of s ‹_› (stranded_ages _ true)).trans (.of rfl)
    · exact .refl s

theorem lap_tends : s.tends s.lap := by
  refine .trans ?_ (tends_foldl _ (fun t i => strand_tends t _ i) _ _)
  refine .trans ?_ (tends_foldl _ (fun t i => offerDue_tends t _ i) _ _)
  refine .trans ?_ (tends_foldl _ (fun t i => offerWaiting_tends t _ i) _ _)
  exact tends_foldl _ (fun t i => updSet_tends t i lap_ages) _ _

/-! ### What staff ask for -/

theorem onSetact_keepsTables (f : Frame) {act : State → State} (h : s.keepsTables (act s)) :
    s.keepsTables (s.onSetact f act) := by
  unfold State.onSetact
  split
  · exact h
  · exact .refl s

theorem onService_keepsTables (f : Frame) {act : State → State} (h : s.keepsTables (act s)) :
    s.keepsTables (s.onService f act) := by
  unfold State.onService
  split
  · exact h
  · exact .refl s

theorem finishing_ages (r : SetRecord) (h : r.state = .collecting) : r.ages { r.toState .finishing with isPartial := true } :=
  ages_of_watch rfl (fun _ => underway_of_collecting h) rfl rfl rfl rfl

theorem finish_tends (i : SetId) : s.tends (s.finish i) := by
  unfold State.finish
  split
  · exact .of rfl
  · rename_i r found
    split
    · rename_i open'
      exact (putSet_tends_of s found (finishing_ages r open'.2)).trans (afterChange_tends _ _)
    · split
      · have withdrawn := withdrawCarriage_frame s r.id true
        refine .trans (.of_frame withdrawn (by decide)) (.after (completeSet_tends (i := i) _ ?_ true) rfl)
        change (s.withdrawCarriage r.id true).findSet i = some r
        rw [findSet_of_co (withdrawn.co (by decide)), found]
      · exact .of rfl

theorem staffYield_tends (i : SetId) : s.tends (s.staffYield i) := by
  unfold State.staffYield
  split
  · exact .of rfl
  · split
    · exact surrender_tends s i _
    · exact .of rfl

theorem retry_tends (i : SetId) : s.tends (s.retry i) := by
  unfold State.retry
  split
  · exact .of rfl
  · rename_i r found
    split
    · have put := putSet_tends_of s found (retried_ages r)
      have id := findSet_id found
      subst id
      have read : (s.putSet r.retried).findSet r.id = some r.retried := findSet_putSet_same (r := r.retried) found
      dsimp only
      split
      · exact put.trans (offerReprint_tends _ read .retry nofun)
      · exact put.trans (putSet_tends_of _ read (waiting_ages _ _))
    · exact .of rfl

theorem drain_tends : s.tends s.drain := by
  unfold State.drain
  split
  · exact (setBay_tends_of_working s (.inr rfl)).trans (drainTest_tends _)
  · exact .of rfl

/-- R96, R165: STOP leaves no record under way. -/
theorem stop_keepsTables : s.keepsTables s.stop := by
  unfold State.stop
  split
  · exact surrendersIn_keepsTables s (setBay_ages s .service) _ (by rw [setBay_state]; decide)
  · exact .of rfl

theorem resume_tends : s.tends s.resume := by
  unfold State.resume
  split
  · exact setBay_tends_of_working s (.inl rfl)
  · exact .of rfl

/-! ### Reset: the tables are empty -/

theorem keepsTables_of_empty {t : State} (sets : t.co.sets = []) (jobs : t.jt.jobs = []) : s.keepsTables t where
  sets _ := by simp [State.setTableSound, sets]
  jobs _ := by simp [State.jobTableSound, jobs]
  bay _ _ := setsSuitBay_of_empty sets
  watch _ := by simp [State.watchSound, sets, jobs]

theorem resetPart_keepsTables (x : Straps) (v : Sensors) : s.keepsTables (s.resetPart x v) := by
  unfold State.resetPart
  dsimp only
  split
  · have frame := enterJoining_frame ((s.dormant x).readSensors x v)
    exact keepsTables_of_empty s (by rw [frame.co (by decide)]; rfl) (by rw [frame.jt (by decide)]; rfl)
  · exact keepsTables_of_empty s rfl rfl

theorem onRestart_keepsTables (x : Straps) (v : Sensors) : s.keepsTables (s.onRestart x v) := by
  unfold State.onRestart
  split
  · exact (resetPart_keepsTables s x v).trans (.of rfl)
  · exact .of rfl

/-! ### The rack's commands -/

theorem arbiter_tends : s.tends s.arbiter := .of_frame (arbiter_frame s) (by decide)

theorem roomReport_tends : s.tends s.roomReport := .of_frame (roomReport_frame s) (by decide)

theorem storeDone_tends (e : InletSheet) : s.tends (s.storeDone e) := by
  refine .trans ?_ (arbiter_tends _)
  exact .after (pageStored_tends _ _ _ _) rfl

theorem releaseDone_tends (r : Release) : s.tends (s.releaseDone r) := by
  unfold State.releaseDone
  dsimp only
  split
  · refine .trans ?_ (arbiter_tends _)
    exact .after (pageReleased_tends _ _ _ _) rfl
  · refine .trans ?_ (roomReport_tends _)
    exact .after (pageToFeeder_tends _ _ _) rfl

theorem clearBin_tends (b : Nat) : s.tends (s.clearBin b) := by
  unfold State.clearBin
  split
  · exact setBin_tends s _ _
  · split
    · exact .refl s
    · exact setBin_tends s _ _
  · exact .refl s

theorem clearRackPocket_tends (k : Nat) : s.tends (s.clearRackPocket k) := by
  unfold State.clearRackPocket
  split <;> exact .of rfl

theorem clearJaw_tends (j : JawName) : s.tends (s.clearJaw j) := by
  unfold State.clearJaw
  split
  · exact .trans (.of_frame (setJaw_frame s j .free) (by decide)) (.of_frame (startTest_frame _) (by decide))
  · exact .refl s

/-- R35: the record of a jammed bin. -/
theorem jamRecord_tends {r : SetRecord} (m : r ∈ s.co.sets) : s.tends (s.jamRecord r) := by
  have dropped : s.tends (s.putSet r.dropBin) := putSet_tends s m (dropBin_ages r)
  unfold State.jamRecord
  dsimp only
  split
  · refine .trans ?_ (removalTest_tends _ _)
    refine .trans ?_ (unloadTest_tends _ _)
    refine .trans ?_ (.of_frame (redirect_frame _ _) (by decide))
    exact dropped.trans (.of_frame (withdrawCarriage_frame _ _ _) (by decide))
  · exact dropped.trans (surrender_tends _ _ _)

/-! ### The Stapler Controller's commands -/

theorem settle_tends (j : JawName) (r : SetRecord) : s.tends (s.settle j r) := by
  unfold State.settle
  split
  · exact handOver_tends s _ _ _
  · exact .after (.of_frame (headIssue_frame _) (by decide)) rfl

theorem jawed_ages (r : SetRecord) : r.ages { r.toState .inJaw with bin := none } := ages_of_watch rfl nofun rfl rfl rfl rfl

theorem transferDone_tends (i : SetId) (b : Nat) (j : JawName) : s.tends (s.transferDone i b j) := by
  unfold State.transferDone
  dsimp only
  split
  · exact .of rfl
  · rename_i r found
    refine .trans ?_ (.of_frame (startTest_frame _) (by decide))
    refine .trans ?_ (settle_tends _ _ _)
    have held := setJaw_frame { s with sc := { s.sc with carriage := .idle } } j
      (.holding i { outcome := none, owed := r.staplesOwed, retryUsed := false })
    refine .after (.trans (.of_frame held (by decide)) ((freeBin_tends _ _).trans (putSet_tends _ ?_ (jawed_ages r)))) rfl
    rw [freeBin_sets, held.co (by decide)]
    exact findSet_mem found

theorem unloadDone_tends (i : SetId) (b m : Nat) : s.tends (s.unloadDone i b m) := by
  refine .trans ?_ (roomReport_tends _)
  refine .trans ?_ (removalTest_tends _ _)
  refine .trans ?_ (updSet_tends _ i emptied_ages)
  exact .after (freeBin_tends _ _) rfl

theorem useStaples_tends (k : Nat) : s.tends (s.useStaples k) := .after (.of_frame (tell_frame _ _) (by decide)) rfl

theorem headFault_tends : s.tends s.headFault := .after (.of_frame (tell_frame _ _) (by decide)) rfl

theorem headIssue_tends : s.tends s.headIssue := .of_frame (headIssue_frame s) (by decide)

theorem setJaw_tends (j : JawName) (x : JawState) : s.tends (s.setJaw j x) := .of_frame (setJaw_frame s j x) (by decide)

theorem leaveHead_tends (j : JawName) (owed : Nat) (o : SetOutcome) : s.tends (s.leaveHead j owed o) := by
  unfold State.leaveHead
  split
  · exact .refl s
  · refine .trans ?_ (headIssue_tends _)
    refine .trans ?_ (handOver_tends _ _ _ _)
    exact (setJaw_tends _ _ _).trans (.of rfl)

theorem stapleDone_tends (j : JawName) (k : Nat) : s.tends (s.stapleDone j k) := by
  refine .trans ?_ (leaveHead_tends _ _ _ _)
  exact .after (useStaples_tends _ _) rfl

theorem stapleMisfired_tends (j : JawName) (k f : Nat) : s.tends (s.stapleMisfired j k f) := by
  have used : s.tends
      (({ s with sc := { s.sc with head := .idle, misfires := Machine.count s.sc.misfires } } : State).useStaples k) :=
    .after (useStaples_tends _ _) rfl
  unfold State.stapleMisfired
  dsimp only
  split
  · exact used
  · split
    · exact used.trans (leaveHead_tends _ _ _ _)
    · exact (used.trans (setJaw_tends _ _ _)).trans (headIssue_tends _)

theorem stapleJammed_tends (j : JawName) (k f : Nat) : s.tends (s.stapleJammed j k f) := by
  refine .trans ?_ (headFault_tends _)
  refine .trans ?_ (useStaples_tends _ _)
  split
  · exact .refl s
  · exact setJaw_tends s _ _

/-! ### The Delivery Controller's commands -/

theorem jawDelivered_frame (j : JawName) (d : DoneNotice) : s.sameBut [.sc, .hr, .rf, .lc] (s.jawDelivered j d) :=
  sameBut_trans (sameBut_trans (sameBut_mono (setJaw_frame s j .free) (by decide)) (joinDone_frame _ d))
    (sameBut_mono (startTest_frame _) (by decide))

theorem deliveredInto_tends (j : JawName) (p : Nat) : s.tends (s.deliveredInto j p) := by
  have landed : s.tends { s with dc := { s.dc with
      pockets := modify1 s.dc.pockets p (fun x => { x with inFlight := none }) } } := .of rfl
  unfold State.deliveredInto
  dsimp only
  split
  · split
    · exact landed.trans (deliverTest_tends _ _)
    · refine .trans ?_ (deliverTest_tends _ _)
      refine .trans ?_ (.of_frame (jawDelivered_frame _ _ _) (by decide))
      exact (landed.trans (addDone_tends _ _)).trans (removeSet_tends _ _)
  all_goals exact landed.trans (deliverTest_tends _ _)

theorem changePocket_tends (p : Nat) (f : Pocket → Pocket) : s.tends (s.changePocket p f) :=
  .of_frame (changePocket_frame s p f) (by decide)

theorem unbindingTest_tends (p : Nat) : s.tends (s.unbindingTest p) := .of_frame (unbindingTest_frame s p) (by decide)

/-! ### The gate's commands -/

theorem lapseOldestN_tends : ∀ (n : Nat) (s : State), s.tends (State.lapseOldestN n s)
  | 0, s => .refl s
  | n + 1, s => (lapseOldest_tends s).trans (lapseOldestN_tends n _)

theorem takeOldest_tends : s.tends s.takeOldest := by
  unfold State.takeOldest
  split
  · exact .refl s
  · dsimp only
    unfold State.takeEntry
    split
    · exact .of rfl
    · split
      · exact .of rfl
      · exact .after (lapse_tends _ _) rfl

theorem rackDiverted_tends (k : Nat) : s.tends (s.rackDiverted k) := by
  unfold State.rackDiverted
  split
  · split
    · exact .after (arbiter_tends _) rfl
    · exact .of rfl
  · exact .of rfl

theorem gateDone_tends (e : Entry) : s.tends (s.gateDone e) := by
  unfold State.gateDone
  split
  · exact binDiverted_tends s _ _
  · exact rackDiverted_tends s _
  · exact .of rfl
  · exact .after (roomReport_tends _) rfl
  · exact .refl s

theorem gateCompletion_tends (fill good : Bool) : s.tends (s.gateCompletion fill good) := by
  unfold State.gateCompletion
  split
  · dsimp only
    split
    · exact .after (gateDone_tends _ _) rfl
    · exact .after (gateFailed_tends _ _) rfl
  · exact .refl s
  · exact .refl s

/-! ### The reader's commands: a claim alone makes a record (R33, R36, R73) -/

theorem routeOpen_tends (r : SetRecord) (m : Mark) : s.tends (s.routeOpen r m).state := by
  unfold State.routeOpen
  split
  · exact .of rfl
  · split
    · exact .of rfl
    · split
      · exact .refl s
      · dsimp only
        split
        · exact setPage_tends s _ _ _
        · split
          · exact .after (setPage_tends _ _ _ _) rfl
          · exact .of rfl

theorem route_tends (r : SetRecord) (m : Mark) : s.tends (s.route r m).state := by
  have ended : s.tends (if m.pages ≠ r.pages then s.countMismatch.choose s.rejectOrPass
      else if r.status m.page = .absent then s.countLate.choose s.rejectOrPass
      else s.countDuplicate.choose s.rejectOrPass).state := by
    split
    · exact .of rfl
    · split <;> exact .of rfl
  unfold State.route
  split
  · exact routeOpen_tends s r m
  · exact routeOpen_tends s r m
  · exact .refl s
  · exact ended
  · exact ended
  · exact ended
  · exact .refl s

/-- R36: the table with the record of a claim in its place. -/
theorem claimMade_sets (j : JobRecord) (m : Mark) (b p : Nat) :
    (s.claimMade j m b p).co.sets = insertRecord (SetRecord.made j m b p s.co.made) s.co.sets := by
  rw [State.claimMade, (pushUrgent_frame _ _).co (by decide), State.bindPocket, (changePocket_frame _ _ _).co (by decide),
    State.addSet, tell_sets]
  dsimp only
  rw [setBin_sets]

/-- R28, R105: the record of a claim takes a policy in range from its job, and starts its watch at 0. -/
theorem made_watchSound {j : JobRecord} (h : j.policy.inRange) (m : Mark) (b p n : Nat) :
    (SetRecord.made j m b p n).watchSound := by
  refine ⟨?_, Nat.zero_le _, Nat.zero_le _, Nat.zero_le _⟩
  change j.snapshotPolicy.inRange
  unfold JobRecord.snapshotPolicy
  split <;> exact h

theorem mayClaim_active {j : JobRecord} (h : s.mayClaim j = true) : s.bs.state = .active ∧ s.co.sets.length < 24 := by
  simp only [State.mayClaim, Bool.and_eq_true, beq_iff_eq, decide_eq_true_eq, Config.setsMax] at h
  obtain ⟨⟨⟨⟨⟨⟨⟨active, few⟩, _⟩, _⟩, _⟩, _⟩, _⟩, _⟩ := h
  exact ⟨active, of_decide_eq_true few⟩

/-- R73: a claim is made in ACTIVE, for a set with no record, and where the table has a place. -/
theorem claimMade_keepsTables {j : JobRecord} {m : Mark} {b p : Nat} (may : s.mayClaim j = true) (job : j ∈ s.jt.jobs)
    (new : s.findSet m.id = none) : s.keepsTables (s.claimMade j m b p) := by
  obtain ⟨active, few⟩ := mayClaim_active s may
  have frame := claimMade_frame s j m b p
  have jt := frame.jt (by decide)
  have sets := claimMade_sets s j m b p
  refine ⟨fun ⟨_, ordered⟩ => ?_, fun h => ?_, fun _ _ => ?_, fun ⟨policies, records⟩ => ?_⟩
  · rw [State.setTableSound, sets, length_insertRecord]
    refine ⟨few, pairwise_insertRecord _ _ ordered fun q hq => ?_⟩
    simpa [SetRecord.made] using List.find?_eq_none.mp new q hq
  · rw [State.jobTableSound, jt]
    exact h
  · exact setsSuitBay_of_working (.inl (by rw [frame.bs (by decide)]; exact active))
  · refine ⟨by rwa [jt], fun r hr => ?_⟩
    rw [sets] at hr
    obtain rfl | old := (mem_insertRecord _ _ _).mp hr
    · exact made_watchSound (policies j job) m b p _
    · exact records r old

theorem chooseMarked_keepsTables (m : Mark) : s.keepsTables (s.chooseMarked m).state := by
  have late : s.keepsTables (s.countLate.choose s.rejectOrPass).state := .of rfl
  unfold State.chooseMarked
  split
  · exact .refl s
  · split
    · exact .refl s
    · rename_i j job
      split
      · exact late
      · split
        · exact (route_tends s _ m).keepsTables
        · rename_i new
          split
          · exact .refl s
          · split
            · exact late
            · split
              · exact .refl s
              · unfold State.claimDecision
                split
                · rw [makeClaim_eq]
                  exact (claimMade_keepsTables s ‹_› (findJob_mem job) new).trans (route_tends _ _ m).keepsTables
                · exact .refl s

theorem chooseRead_keepsTables (c : ReadContent) : s.keepsTables (s.chooseRead c).state := by
  unfold State.chooseRead
  split
  · exact .refl s
  · exact .refl s
  · exact .refl s
  · exact (chooseMarked_keepsTables s _).trans (sighting_tends _ _).keepsTables

theorem makeRoom_tends : s.tends s.makeRoom := by
  unfold State.makeRoom
  split
  · exact .refl s
  · exact lapseOldest_tends s

theorem carrierRead_keepsTables (n : Nat) (c : ReadContent) : s.keepsTables (s.carrierRead n c) :=
  ((makeRoom_tends s).keepsTables.trans (chooseRead_keepsTables _ c)).trans (.of rfl)

theorem windowCloses_keepsTables (w : Window) : s.keepsTables (s.windowCloses w) := by
  refine .trans ?_ (carrierRead_keepsTables _ _ _)
  split
  · exact .after (lap_tends _).keepsTables rfl
  · exact .of rfl

theorem sample_keepsTables (a b : Bool) : s.keepsTables (s.sample a b) := by
  unfold State.sample
  dsimp only
  split
  · exact .of rfl
  · split
    · split
      · exact .of rfl
      · exact .after (windowCloses_keepsTables _ _) rfl
    · exact .of rfl

/-! ### Every command, and the step -/

theorem tends_exec {s u : State} {c : Instr} (e : exec c s = .next u) (h : s.tends u) :
    ∃ t, exec c s = .next t ∧ s.keepsTables t := ⟨u, e, h.keepsTables⟩

theorem hear_tends_exec {s : State} {c : Instr} {k : NoticeKind} {f : Frame} {act : State → State}
    (e : exec c s = .next (s.hear k f act)) (h : ∀ t, State.tends t (act t)) : ∃ t, exec c s = .next t ∧ s.keepsTables t :=
  ⟨_, e, hear_keepsTables s k f fun t => (h t).keepsTables⟩

theorem exec_keepsTables (c : Instr) : ∃ t, exec c s = .next t ∧ s.keepsTables t := by
  cases c with
  | readerSample a b => exact ⟨_, rfl, sample_keepsTables s a b⟩
  | carrierNumberReport n => exact ⟨_, rfl, .of rfl⟩
  | markRead b => exact ⟨_, rfl, .of rfl⟩
  | gateArrival n =>
    refine tends_exec rfl ?_
    split
    · exact .of rfl
    · exact (lapseOldestN_tends _ s).trans (takeOldest_tends _)
  | diverted => exact tends_exec rfl (gateCompletion_tends s false true)
  | divertFailed => exact tends_exec rfl (gateCompletion_tends s false false)
  | filled => exact tends_exec rfl (gateCompletion_tends s true true)
  | fillMissed => exact tends_exec rfl (gateCompletion_tends s true false)
  | gateLimitExpiry =>
    refine ⟨_, rfl, ?_⟩
    split
    · exact gateFault_keepsTables s _
    · exact .refl s
    · exact .refl s
  | rejectEmptied => exact tends_exec rfl (.of rfl)
  | stored st =>
    refine tends_exec rfl ?_
    split
    · exact storeDone_tends s _
    · exact rackFault_tends s
    · exact .refl s
  | released st =>
    refine tends_exec rfl ?_
    split
    · exact releaseDone_tends s _
    · exact rackFault_tends s
    · exact .refl s
  | rackLimitExpiry =>
    refine tends_exec rfl ?_
    split
    · exact rackFault_tends s
    · exact .refl s
    · exact .refl s
  | rackRequestIssue => exact tends_exec rfl (arbiter_tends s)
  | binJammed b =>
    have jammed := setBin_tends s b .jammed
    refine tends_exec rfl ?_
    split
    · exact .refl s
    · exact .refl s
    · exact jammed
    · exact jammed
    · dsimp only
      split
      · exact jammed
      · split
        · exact jammed
        · rename_i holder
          refine jammed.trans (jamRecord_tends _ ?_)
          rw [setBin_sets]
          exact List.mem_of_find?_eq_some holder
  | placeCleared p =>
    cases p with
    | bin b => exact tends_exec rfl (clearBin_tends s b)
    | rackPocket k => exact tends_exec rfl (clearRackPocket_tends s k)
    | inlet => exact tends_exec rfl (.of rfl)
    | jaw j => exact tends_exec rfl (clearJaw_tends s j)
  | carriageStart => exact tends_exec rfl (.of_frame (startTest_frame s) (by decide))
  | transferred st =>
    refine ⟨_, rfl, ?_⟩
    split
    · exact (transferDone_tends s _ _ _).keepsTables
    · exact carriageFault_keepsTables s
    · exact .refl s
  | unloaded st =>
    refine ⟨_, rfl, ?_⟩
    split
    · exact (unloadDone_tends s _ _ _).keepsTables
    · exact carriageFault_keepsTables s
    · exact .refl s
  | carriageLimitExpiry => exact ⟨_, rfl, carriageFault_keepsTables s⟩
  | stapleIssue => exact tends_exec rfl (headIssue_tends s)
  | stapled st =>
    refine tends_exec rfl ?_
    split
    · exact stapleDone_tends s _ _
    · exact headFault_tends s
    · exact .refl s
  | misfire st f =>
    refine tends_exec rfl ?_
    split
    · split
      · exact stapleMisfired_tends s _ _ _
      · exact stapleDone_tends s _ _
    · exact headFault_tends s
    · exact .refl s
  | jam st f =>
    refine tends_exec rfl ?_
    split
    · exact stapleJammed_tends s _ _ _
    · exact .refl s
  | headLimitExpiry =>
    refine tends_exec rfl ?_
    split
    · exact headFault_tends s
    · exact .refl s
  | headCleared =>
    refine tends_exec rfl ?_
    split
    · refine .trans ?_ (headIssue_tends _)
      exact .after (.of_frame (tell_frame _ _) (by decide)) rfl
    · exact .refl s
  | cartridgeInserted =>
    refine tends_exec rfl (.trans ?_ (headIssue_tends _))
    exact .after (.of_frame (tell_frame _ _) (by decide)) rfl
  | cartridgeEmpty => exact tends_exec rfl (.after (.of_frame (tell_frame _ _) (by decide)) rfl)
  | deliverIssue p => exact tends_exec rfl (deliverTest_tends s p)
  | delivered j st p =>
    refine tends_exec rfl ?_
    split
    · exact .refl s
    · split
      · exact deliveredInto_tends s _ _
      · exact deliveryFault_tends s _ _
  | deliveryLimitExpiry j =>
    refine tends_exec rfl ?_
    split
    · exact .refl s
    · exact deliveryFault_tends s _ _
  | heightSample p mm =>
    refine tends_exec rfl ?_
    split
    · exact .refl s
    · have changed := changePocket_tends s p
      dsimp only
      split
      · split
        · exact ((changed _).trans (unbindingTest_tends _ _)).trans (deliverTest_tends _ _)
        · exact (changed _).trans (deliverTest_tends _ _)
      · split
        · exact (changed _).trans (unbindingTest_tends _ _)
        · exact changed _
  | claimDeadlineExpiry j n =>
    refine tends_exec rfl ?_
    split
    · exact .refl s
    · split
      · exact (surrender_tends s _ _).trans (countClaimLost_tends _)
      · exact .refl s
  | offer c =>
    refine tends_exec rfl ?_
    split
    · exact .refl s
    · exact .of_frame (offerNotice_frame s c) (by decide)
  | attemptSpoiled => exact tends_exec rfl (.of_frame (attemptSpoiled_frame s) (by decide))
  | badFrameCheck k f x =>
    refine tends_exec rfl ?_
    split
    · exact .refl s
    · exact .of rfl
  | claim f => exact hear_tends_exec rfl fun t => onClaim_tends t f
  | held f => exact hear_tends_exec rfl fun t => onHeld_tends t f
  | yield f => exact hear_tends_exec rfl fun t => onYield_tends t f
  | done f => exact hear_tends_exec rfl fun t => onDone_tends t f
  | job f => exact ⟨_, rfl, hear_keepsTables s _ f fun t => onJob_keepsTables t f⟩
  | jobclose f => exact hear_tends_exec rfl fun t => onJobclose_tends t f
  | hello f => exact hear_tends_exec rfl fun t => onHello_tends t f
  | gone f => exact ⟨_, rfl, hear_keepsTables s _ f fun t => onGone_keepsTables t f⟩
  | state f => exact hear_tends_exec rfl fun t => onState_tends t f
  | reprint f => exact hear_tends_exec rfl fun t => .refl t
  | report f => exact hear_tends_exec rfl fun t => .refl t
  | unknownKindNotice k f =>
    refine ⟨_, rfl, ?_⟩
    unfold State.hearUnknown
    split
    · exact .refl s
    · split
      · exact stationClash_keepsTables s
      · exact ((State.tends.of_frame (heardSteps_frame s k f) (by decide)).trans (afterHeard_tends _ _)).keepsTables
  | setactFinish f =>
    exact ⟨_, rfl, hear_keepsTables s _ f fun t => onSetact_keepsTables t f (finish_tends t _).keepsTables⟩
  | setactYield f =>
    exact ⟨_, rfl, hear_keepsTables s _ f fun t => onSetact_keepsTables t f (staffYield_tends t _).keepsTables⟩
  | setactRetry f =>
    exact ⟨_, rfl, hear_keepsTables s _ f fun t => onSetact_keepsTables t f (retry_tends t _).keepsTables⟩
  | serviceDrain f => exact ⟨_, rfl, hear_keepsTables s _ f fun t => onService_keepsTables t f (drain_tends t).keepsTables⟩
  | serviceStop f => exact ⟨_, rfl, hear_keepsTables s _ f fun t => onService_keepsTables t f (stop_keepsTables t)⟩
  | serviceResume f => exact ⟨_, rfl, hear_keepsTables s _ f fun t => onService_keepsTables t f (resume_tends t).keepsTables⟩
  | serviceRestart f x v => exact ⟨_, rfl, hear_keepsTables s _ f fun t => onService_keepsTables t f (onRestart_keepsTables t x v)⟩
  | probe f => exact hear_tends_exec rfl fun t => onProbe_tends t f
  | presenceTimerExpiry x =>
    refine tends_exec rfl ?_
    split
    · exact presenceExpires_tends s x
    · exact .refl s
  | silenceTimerExpiry =>
    refine ⟨_, rfl, ?_⟩
    split
    · exact silenceExpires_keepsTables s
    · exact .refl s
  | cadenceTimerExpiry =>
    refine tends_exec rfl ?_
    split
    · exact .of_frame (wantState_frame s) (by decide)
    · exact .refl s
  | joinTimerExpiry =>
    refine tends_exec rfl ?_
    split
    · exact .refl s
    · exact .of_frame (wantHello_frame s) (by decide)
    · exact enterActive_tends s
  | waitingNoticeQueued => exact tends_exec rfl (.of_frame (refillUrgent_frame s) (by decide))
  | doneQueued =>
    refine tends_exec rfl ?_
    split
    · exact .of_frame (queueDone_frame s) (by decide)
    · exact .refl s
  | dueNoticeQueued =>
    refine tends_exec rfl ?_
    split
    · exact .of_frame (queueDue_frame s) (by decide)
    · exact .refl s
  | powerOnReset x v => exact ⟨_, rfl, resetPart_keepsTables s x v⟩
  | setactRefusedAsMalformed f =>
    exact ⟨_, rfl, hear_keepsTables s _ f fun t => onSetact_keepsTables t f (.of rfl)⟩
  | serviceRefusedAsMalformed f =>
    exact ⟨_, rfl, hear_keepsTables s _ f fun t => onService_keepsTables t f (.of rfl)⟩

theorem step_keepsTables {s t : State} (h : step s = .next t) : s.keepsTables t := by
  unfold step at h
  split at h
  · cases h
    exact .refl s
  · rename_i c rest _
    obtain ⟨u, hu, kept⟩ := exec_keepsTables { s with pending := rest } c
    cases hu.symm.trans h
    exact kept.after rfl

end Sys2Proof.Machine

open Sys2Proof.Machine in
/-- Settles O6: the laws of the two tables and of the bay's records are among those every step keeps. -/
theorem tablesStaySound : Obligations.TablesStaySound :=
  fun _ _ h => ⟨(step_keepsTables h).sets, (step_keepsTables h).jobs, (step_keepsTables h).bay⟩

open Sys2Proof.Machine in
/-- Settles O7: the ranges of the policies and of the watch fields are among the laws every step keeps. -/
theorem watchStaysSound : Obligations.WatchStaysSound := fun _ _ h => (step_keepsTables h).watch

end

section
/-! ## JOB and JOBCLOSE heard (R20 to R25, R27) -/

namespace Sys2Proof.Machine

variable {s t : State} {f : Frame} {x : JobFields} {r : JobRecord} {k : NoticeKind}

/-! ### The steps of a hearing leave the tables alone -/

theorem heardSteps_jt (s : State) (kind : BitVec 6) (f : Frame) : (s.heardSteps kind f).jt = s.jt :=
  (heardSteps_frame s kind f).jt (by decide)

theorem heardSteps_co (s : State) (kind : BitVec 6) (f : Frame) : (s.heardSteps kind f).co = s.co :=
  (heardSteps_frame s kind f).co (by decide)

/-- The steps for another node's frame leave the Claim Unit alone as well. -/
theorem hears_frame (h : s.hears k f) : s.sameBut [.sc, .hr, .rf, .lc] (s.heardSteps k.code f) := by
  obtain ⟨_, _, other, _⟩ := h
  unfold State.heardSteps
  dsimp only
  rw [other, if_neg Bool.false_ne_true]
  split
  · exact sameBut_trans (by simp [State.sameBut]) (markPresent_frame _ _)
  · simp [State.sameBut]

theorem findJob_of_jt (h : t.jt = s.jt) (j : Nat) : t.findJob j = s.findJob j := by simp only [State.findJob, h]

theorem findJob_heardSteps (s : State) (kind : BitVec 6) (f : Frame) (j : Nat) :
    (s.heardSteps kind f).findJob j = s.findJob j := findJob_of_jt (heardSteps_jt s kind f) j

theorem findSet_heardSteps (s : State) (kind : BitVec 6) (f : Frame) (i : SetId) :
    (s.heardSteps kind f).findSet i = s.findSet i := findSet_of_co (heardSteps_co s kind f) i

theorem jobInUse_of_co (h : t.co = s.co) (j : Nat) : t.jobInUse j = s.jobInUse j := by simp only [State.jobInUse, h]

/-! ### The record a JOB announces -/

theorem filter_job_of_new {j : Nat} (h : s.findJob j = none) : s.jt.jobs.filter (fun q => q.job != j) = s.jt.jobs :=
  List.filter_eq_self.mpr fun q hq => by simpa using List.find?_eq_none.mp h q hq

/-- R20: a record of a new job goes to the recent end. -/
theorem announceJob_new (h : s.findJob r.job = none) :
    s.announceJob r = { s with jt := { s.jt with jobs := s.jt.jobs ++ [r] } } := by
  rw [State.announceJob, filter_job_of_new h]

/-- R22: a JOB for a new job while the table has a place. -/
theorem newJob_room (new : s.findJob x.job = none) (room : s.jt.jobs.length < 32) :
    s.newJob x = { s with jt := { s.jt with jobs := s.jt.jobs ++ [JobRecord.fresh x x.repeatFlag] } } := by
  unfold State.newJob
  exact (if_pos room).trans (announceJob_new new)

/-- R22: a JOB for a new job while the table is full and a record can be given up. -/
theorem newJob_replaces {old : JobRecord} (new : s.findJob x.job = none) (full : 32 ≤ s.jt.jobs.length)
    (h : s.replaceable = some old) : (s.newJob x).jt =
        { s.jt with jobs := s.jt.jobs.filter (fun q => q.job != old.job) ++ [JobRecord.fresh x x.repeatFlag] }
      ∧ (s.newJob x).co = s.co := by
  have still : (s.jt.jobs.filter (fun q => q.job != old.job)).find? (fun q => q.job == x.job) = none :=
    List.find?_eq_none.mpr fun q hq => List.find?_eq_none.mp new q (List.mem_filter.mp hq).1
  have full' : ¬s.jt.jobs.length < Config.jobsMax := Nat.not_lt.mpr full
  unfold State.newJob
  dsimp only
  rw [if_neg full', h]
  dsimp only
  refine ⟨?_, (unbindJob_frame _ _).co (by decide)⟩
  rw [(unbindJob_frame _ _).jt (by decide), announceJob_new]
  exact still

/-- R22: a JOB for a new job while the table is full of records in use or OPEN. -/
theorem newJob_refused (full : 32 ≤ s.jt.jobs.length) (h : s.replaceable = none) :
    s.newJob x = { s with jt := { s.jt with tableFull := count s.jt.tableFull } } := by
  have full' : ¬s.jt.jobs.length < Config.jobsMax := Nat.not_lt.mpr full
  unfold State.newJob
  dsimp only
  rw [if_neg full', h]

/-- R27: the test for completion by count, with the count not reached. -/
theorem countTested_below (h : ∀ n, r.setCount = some n → r.doneMap.length < n) : r.countTested = r := by
  unfold JobRecord.countTested
  split
  · rfl
  · rename_i n count
    exact if_neg (Nat.not_le.mpr (h n count))

/-- R27: the test for completion by count, with the count reached. -/
theorem countTested_reached {n : Nat} (count : r.setCount = some n) (h : n ≤ r.doneMap.length) :
    r.countTested = { r with state := .complete } := by
  rw [JobRecord.countTested, count]
  exact if_pos h

/-- R23, R24, R27: a JOB that leaves the record OPEN. -/
theorem applyJob_open (h : s.findJob x.job = some r) (below : ∀ n, x.setCount = some n → r.doneMap.length < n) :
    s.applyJob r x = { s with jt := { s.jt with jobs := s.jt.jobs.filter (fun q => q.job != x.job) ++ [r.updated x] } } := by
  have same : (r.updated x).countTested = r.updated x := countTested_below below
  have job : (r.updated x).job = x.job := show r.job = x.job from findJob_job h
  unfold State.applyJob
  rw [same]
  dsimp only
  rw [if_neg (show (r.updated x).state ≠ .complete from nofun), State.announceJob, job]

/-- R23, R27: a JOB whose count is reached. -/
theorem applyJob_completes {n : Nat} (h : s.findJob x.job = some r) (count : x.setCount = some n)
    (reached : n ≤ r.doneMap.length) :
    (s.applyJob r x).jt = { s.jt with jobs := s.jt.jobs.filter (fun q => q.job != x.job)
        ++ [{ r.updated x with state := .complete }] }
      ∧ (s.applyJob r x).co = s.co := by
  have complete : (r.updated x).countTested = { r.updated x with state := .complete } := countTested_reached count reached
  have job : r.job = x.job := findJob_job h
  unfold State.applyJob
  rw [complete]
  dsimp only
  rw [if_pos rfl, (unbindJob_frame _ _).jt (by decide), (unbindJob_frame _ _).co (by decide), State.announceJob_jt, ← job]
  exact ⟨rfl, rfl⟩

/-- R24: a JOB renews the record of a job not in use. -/
theorem reuseJob_fresh (idle : s.jobInUse x.job = false) :
    (s.reuseJob r x).jt = { s.jt with jobs := s.jt.jobs.filter (fun q => q.job != x.job) ++ [JobRecord.fresh x false] }
      ∧ (s.reuseJob r x).co = s.co := by
  unfold State.reuseJob
  rw [idle, if_neg Bool.false_ne_true, (unbindJob_frame _ _).jt (by decide), (unbindJob_frame _ _).co (by decide)]
  exact ⟨rfl, rfl⟩

/-! ### The cases of a JOB (R21 to R24) -/

theorem onJob_new (fields : jobFields f = some x) (h : s.findJob x.job = none) : s.onJob f = s.newJob x := by
  simp only [State.onJob, fields, h]

theorem onJob_opened (fields : jobFields f = some x) (h : s.findJob x.job = some r) (opened : r.state = .opened) :
    s.onJob f = s.applyJob r x := by
  simp only [State.onJob, fields, h, opened, if_true]

theorem onJob_ended (fields : jobFields f = some x) (h : s.findJob x.job = some r) (ended : r.state ≠ .opened) :
    s.onJob f = if x.repeatFlag then s else s.reuseJob r x := by
  simp only [State.onJob, fields, h, if_neg ended]

/-! ### A JOB's fields (R21, 10.10.2) -/

theorem byte_toNat {n : Nat} (h : n < 256) : (byte n).toNat = n := by
  rw [byte, BitVec.toNat_ofNat]
  exact Nat.mod_eq_of_lt h

/-- 10.10: two bytes read together are the number written. -/
theorem word2_reads {n : Nat} (h : n < 65536) : (byte (n / 256)).toNat * 256 + (byte n).toNat = n := by
  rw [byte_toNat (by omega), byte, BitVec.toNat_ofNat]
  omega

theorem labelOk_iff {l : List Byte} (h : l.length = 8) :
    labelOk l = false ↔ (∃ c ∈ l, c.toNat < 32 ∨ 126 < c.toNat) ∨ l.head? = some 32 := by
  cases l with
  | nil => cases h
  | cons a l =>
    have space : a.toNat = 32 ↔ a = 32 := ⟨fun e => BitVec.eq_of_toNat_eq e, fun e => by rw [e]; rfl⟩
    simp only [labelOk, Bool.and_eq_false_iff, List.all_eq_false, Bool.and_eq_true, decide_eq_true_eq, not_and_or, not_le,
      List.headD_cons, bne_eq_false_iff_eq, List.head?_cons, Option.some.injEq, space]

theorem stapleOfCode_eq (n : Nat) :
    stapleOfCode n = if n = 1 then .corner else if n = 2 then .edge else .none := by
  unfold stapleOfCode
  split <;> simp_all

theorem orderOfCode_eq (n : Nat) : orderOfCode n = if n = 1 then .reverse else .forward := by
  unfold orderOfCode
  split <;> simp_all

theorem reprintOfCode_eq {n : Nat} (h : n ≤ 3) :
    reprintOfCode n = if n = 3 then none else some (if n = 0 then .none else if n = 1 then .once else .repeated) := by
  interval_cases n <;> rfl

/-- R21: the fields of a JOB whose body has the layout of 10.10.2. -/
theorem jobFields_of_layout {label : List Byte} {j c st o rp m d i l : Nat}
    (body : f.body = byte j :: label ++ word2 (c * 32 + st * 8 + o * 2 + rp) ++ word2 (m * 16384 + d * 1024 + i * 64 + l * 8))
    (length : label.length = 8) (hj : j ≤ 255) (hc : c ≤ 2047) (hst : st ≤ 3) (ho : o ≤ 3) (hrp : rp ≤ 1) (hm : m ≤ 3)
    (hd : d ≤ 15) (hi : i ≤ 15) (hl : l ≤ 7) :
    f.byteAt 0 = j ∧ (f.body.drop 1).take 8 = label ∧ f.wordAt 9 = c * 32 + st * 8 + o * 2 + rp
      ∧ f.wordAt 11 = m * 16384 + d * 1024 + i * 64 + l * 8 := by
  obtain ⟨l1, l2, l3, l4, l5, l6, l7, l8, rfl⟩ : ∃ l1 l2 l3 l4 l5 l6 l7 l8, label = [l1, l2, l3, l4, l5, l6, l7, l8] := by
    match label, length with
    | [l1, l2, l3, l4, l5, l6, l7, l8], _ => exact ⟨l1, l2, l3, l4, l5, l6, l7, l8, rfl⟩
  unfold Frame.wordAt Frame.byteAt
  rw [body]
  refine ⟨byte_toNat (by omega), rfl, word2_reads (by omega), word2_reads (by omega)⟩

/-- R21: what becomes of the fields of a JOB, each with its code. -/
theorem jobFields_codes {c st o rp m d i l : Nat} (hst : st ≤ 3) (ho : o ≤ 3) (hrp : rp ≤ 1) (hd : d ≤ 15) (hi : i ≤ 15)
    (hl : l ≤ 7) (w : f.wordAt 9 = c * 32 + st * 8 + o * 2 + rp) (v : f.wordAt 11 = m * 16384 + d * 1024 + i * 64 + l * 8) :
    (f.wordAt 9 / 32 = c ∧ f.wordAt 9 / 8 % 4 = st ∧ f.wordAt 9 / 2 % 4 = o ∧ f.wordAt 9 % 2 = rp)
      ∧ f.wordAt 11 / 16384 = m ∧ f.wordAt 11 / 1024 % 16 = d ∧ f.wordAt 11 / 64 % 16 = i ∧ f.wordAt 11 / 8 % 8 = l := by
  rw [w, v]
  omega

/-! ### A notice heard by the Job Table -/

theorem exec_job (h : s.hears .job f) :
    exec (.job f) s = .next (State.afterHeard s ((s.heardSteps NoticeKind.job.code f).onJob f)) :=
  congrArg Host.Outcome.next (hear_of_hears h _)

theorem exec_jobclose (h : s.hears .jobclose f) :
    exec (.jobclose f) s = .next (State.afterHeard s ((s.heardSteps NoticeKind.jobclose.code f).onJobclose f)) :=
  congrArg Host.Outcome.next (hear_of_hears h _)

theorem replaceable_of_tables (jt : t.jt = s.jt) (co : t.co = s.co) : t.replaceable = s.replaceable := by
  simp only [State.replaceable, State.jobInUse, jt, co]

/-- R22: no record can be given up while each is OPEN or its job is in use. -/
theorem replaceable_none (h : ∀ q ∈ s.jt.jobs, q.state = .opened ∨ s.jobInUse q.job = true) : s.replaceable = none :=
  List.find?_eq_none.mpr fun q hq => by
    obtain opened | used := h q hq
    · simp [opened]
    · simp [used]

end Sys2Proof.Machine

open Sys2Proof Sys2Proof.Machine

/-- Settles O52: the steps of the hearing leave the job table and the set table alone, and the case of R22 to R25 that the record
found decides does the rest. -/
theorem jobsAnnounced : Obligations.JobsAnnounced := by
  refine ⟨?_, ?_, ?_, ?_, ?_, ?_, ?_, ?_, ?_, ?_, ?_, ?_, ?_⟩
  · intro s f x hears fields new room
    rw [← findJob_heardSteps s NoticeKind.job.code f] at new
    rw [exec_job hears, onJob_new fields new, newJob_room new (by rwa [heardSteps_jt]), heardSteps_jt]
    rfl
  · intro s f x old hears fields new full found
    rw [← findJob_heardSteps s NoticeKind.job.code f] at new
    obtain ⟨jt, co⟩ := newJob_replaces new (by rwa [heardSteps_jt])
      ((replaceable_of_tables (heardSteps_jt s _ f) (heardSteps_co s _ f)).trans found)
    rw [heardSteps_jt] at jt
    exact ⟨_, by rw [exec_job hears, onJob_new fields new], jt, co.trans (heardSteps_co s _ f)⟩
  · intro s f x hears fields new full used
    rw [← findJob_heardSteps s NoticeKind.job.code f] at new
    rw [exec_job hears, onJob_new fields new, newJob_refused (by rwa [heardSteps_jt])
      ((replaceable_of_tables (heardSteps_jt s _ f) (heardSteps_co s _ f)).trans (replaceable_none used)), heardSteps_jt]
  · intro s f x r hears fields found opened below
    rw [← findJob_heardSteps s NoticeKind.job.code f] at found
    rw [exec_job hears, onJob_opened fields found opened, applyJob_open found below, heardSteps_jt]
    rfl
  · intro s f x r n hears fields found opened count reached
    rw [← findJob_heardSteps s NoticeKind.job.code f] at found
    obtain ⟨jt, co⟩ := applyJob_completes found count reached
    rw [heardSteps_jt] at jt
    exact ⟨_, by rw [exec_job hears, onJob_opened fields found opened], jt, co.trans (heardSteps_co s _ f)⟩
  · intro s f x r hears fields found ended plain idle
    rw [← findJob_heardSteps s NoticeKind.job.code f] at found
    rw [← jobInUse_of_co (heardSteps_co s NoticeKind.job.code f)] at idle
    obtain ⟨jt, co⟩ := reuseJob_fresh (r := r) idle
    rw [heardSteps_jt] at jt
    exact ⟨_, by rw [exec_job hears, onJob_ended fields found ended, plain, if_neg Bool.false_ne_true], jt,
      co.trans (heardSteps_co s _ f)⟩
  · intro s f x r hears fields found ended plain used below
    rw [← findJob_heardSteps s NoticeKind.job.code f] at found
    rw [← jobInUse_of_co (heardSteps_co s NoticeKind.job.code f)] at used
    rw [exec_job hears, onJob_ended fields found ended, plain, if_neg Bool.false_ne_true, State.reuseJob, if_pos used,
      applyJob_open found below, heardSteps_jt]
    rfl
  · intro s f x r hears fields found ended repeated
    rw [← findJob_heardSteps s NoticeKind.job.code f] at found
    rw [exec_job hears, onJob_ended fields found ended, if_pos repeated]
  · intro s f hears malformed
    rw [exec_job hears, State.onJob, malformed]
    rfl
  · intro f label j c st o rp m d i l body length hj hc hst ho hrp hm hd hi hl
    obtain ⟨job, labelled, w, v⟩ := jobFields_of_layout body length hj hc hst ho hrp hm hd hi hl
    obtain ⟨⟨count, staple, order, again⟩, mode, delay, interval, limit⟩ := jobFields_codes hst ho hrp hd hi hl w v
    unfold jobFields
    dsimp only
    rw [job, labelled, count, staple, order, again, mode, delay, interval, limit, stapleOfCode_eq, orderOfCode_eq,
      reprintOfCode_eq hm]
    by_cases three : m = 3
    · have refused : j = 0 ∨ 1023 < c ∨ m = 3 ∨ (∃ x ∈ label, x.toNat < 32 ∨ 126 < x.toNat) ∨ label.head? = some 32 :=
        .inr (.inr (.inl three))
      rw [if_pos three, if_pos refused]
    · rw [if_neg three]
      refine if_congr ?_ rfl (congrArg some (congrArg₂ _ ?_ rfl))
      · simp only [labelOk_iff length, three, false_or]
        exact or_congr_right or_comm
      · by_cases none : l = 0 <;> simp [none]
  · intro s f r hears named found opened
    rw [← findJob_heardSteps s NoticeKind.jobclose.code f] at found
    have closed : (s.heardSteps NoticeKind.jobclose.code f).onJobclose f
        = ((s.heardSteps NoticeKind.jobclose.code f).putJob { r with state := .closed }).unbindJob r.job := by
      simp only [State.onJobclose, if_neg named, found, opened, if_true]
    have frame := unbindJob_frame ((s.heardSteps NoticeKind.jobclose.code f).putJob { r with state := .closed }) r.job
    refine ⟨_, by rw [exec_jobclose hears, closed], ?_, ?_, ?_⟩
    · rw [frame.jt (by decide), State.putJob_jt, heardSteps_jt]
    · rw [frame.co (by decide), State.putJob_co, heardSteps_co]
    · rw [frame.cu (by decide), State.putJob_cu, (hears_frame hears).cu (by decide)]
  · intro s f hears named other
    have kept : (s.heardSteps NoticeKind.jobclose.code f).onJobclose f = s.heardSteps NoticeKind.jobclose.code f := by
      simp only [State.onJobclose, if_neg named, findJob_heardSteps]
      split
      · rfl
      · exact if_neg (other _ ‹_›)
    rw [exec_jobclose hears, kept]
  · intro s f hears unnamed
    rw [exec_jobclose hears, State.onJobclose, if_pos unnamed]
    rfl

end

