-- ==== Sys2Proof/Proofs/SetDelivered.lean ====
section
/-! ## A set delivered (R26, R128, R129, R142, R144) -/

namespace Sys2Proof.Machine

variable {s t u : State}

/-! ### The done-set map (R26) -/

theorem mem_insertNum_self (n : Nat) : ∀ l : List Nat, n ∈ insertNum n l
  | [] => by simp [insertNum]
  | m :: rest => by
    unfold insertNum
    split
    · exact List.mem_cons_self
    · exact List.mem_cons_of_mem m (mem_insertNum_self n rest)

theorem countTested_doneMap (r : JobRecord) : r.countTested.doneMap = r.doneMap := by
  unfold JobRecord.countTested
  repeat' split
  all_goals rfl

/-- The records of a job after a replacement of one record of it. -/
theorem findJob_putJob {r b : JobRecord} (h : (s.putJob r).findJob r.job = some b) : b = r := by
  have mem := findJob_mem h
  have job := findJob_job h
  obtain ⟨q, -, rfl⟩ := List.mem_map.mp mem
  by_cases e : q.job = r.job
  · exact if_pos e
  · rw [if_neg e] at job
    exact absurd job e

theorem addDone_doneMap {i : SetId} {b : JobRecord} (h : (s.addDone i).findJob i.job = some b) : i.num ∈ b.doneMap := by
  cases found : s.findJob i.job with
  | none =>
    simp only [State.addDone, found] at h
    cases h
  | some r =>
    simp only [State.addDone, found] at h
    split at h
    · next done =>
      cases found.symm.trans h
      simpa using done
    · have job : ({ r with doneMap := insertNum i.num r.doneMap } : JobRecord).countTested.job = i.job := by
        rw [countTested_job, findJob_job found]
      have put : (s.putJob ({ r with doneMap := insertNum i.num r.doneMap } : JobRecord).countTested).findJob i.job
          = some b := by
        split at h
        · exact h
        · rwa [findJob_of_jt ((unbindJob_frame _ _).jt (by decide))] at h
      rw [← job] at put
      rw [findJob_putJob put, countTested_doneMap]
      exact mem_insertNum_self _ _

/-! ### The DONE due (R129, R151) -/

/-- The DONE waits in the DONE list or stands in the routine queue. -/
def State.doneDue (s : State) (d : DoneNotice) : Prop :=
  (∃ w ∈ s.sc.doneList, w.notice = d) ∨ ∃ e ∈ s.lc.routine, e.notice = .done d

/-- Of the Stapler Controller only the DONE list has changed. -/
def State.stapledAs (s t : State) : Prop := ∃ l, t.sc = { s.sc with doneList := l }

/-- R118: the start test starts nothing: a request is in flight, or none is queued. -/
def State.carriageRests (s : State) : Prop := s.sc.carriage ≠ .idle ∨ s.sc.carriageQueue = []

theorem State.stapledAs.of_sc (h : t.sc = s.sc) : s.stapledAs t := ⟨s.sc.doneList, h⟩

theorem State.stapledAs.trans (h : s.stapledAs t) (k : t.stapledAs u) : s.stapledAs u := by
  obtain ⟨l, hl⟩ := h
  obtain ⟨m, hm⟩ := k
  exact ⟨m, by rw [hm, hl]⟩

theorem State.stapledAs.rests (h : s.stapledAs t) (rests : s.carriageRests) : t.carriageRests := by
  obtain ⟨l, hl⟩ := h
  simpa only [State.carriageRests, hl] using rests

theorem State.stapledAs.jaw (h : s.stapledAs t) (j : JawName) : t.jaw j = s.jaw j := by
  obtain ⟨l, hl⟩ := h
  cases j <;> simp only [State.jaw, hl]

theorem startTest_of_rests (rests : s.carriageRests) : s.startTest = s :=
  rests.elim startTest_of_busy startTest_of_empty

theorem setJaw_doneList (j : JawName) (x : JawState) : (s.setJaw j x).sc.doneList = s.sc.doneList := by cases j <;> rfl

theorem carriageIssue_doneList (s : State) : s.carriageIssue.sc.doneList = s.sc.doneList := by
  unfold State.carriageIssue
  split
  · split
    · rfl
    · split
      · rfl
      · split
        · exact setJaw_doneList _ _
        · rfl
    · split <;> rfl
  · rfl

theorem startTest_doneList (s : State) : s.startTest.sc.doneList = s.sc.doneList := by
  unfold State.startTest
  dsimp only
  split
  · exact carriageIssue_doneList s
  · rw [(arbiterIssue_frame _).sc (by decide), carriageIssue_doneList]

theorem State.doneDue.of_same {d : DoneNotice} (h : s.doneDue d) (dones : t.sc.doneList = s.sc.doneList)
    (lc : t.lc = s.lc) : t.doneDue d := by
  simpa only [State.doneDue, dones, lc] using h

theorem State.doneDue.startTest {d : DoneNotice} (h : s.doneDue d) : s.startTest.doneDue d :=
  h.of_same (startTest_doneList s) ((startTest_frame s).lc (by decide))

theorem State.doneDue.queueDone {d : DoneNotice} (h : s.doneDue d) : s.queueDone.doneDue d := by
  unfold State.queueDone
  split
  · exact h
  · next w rest list =>
    refine State.doneDue.startTest ?_
    obtain ⟨v, mem, is⟩ | ⟨e, mem, is⟩ := h
    · rw [list] at mem
      obtain rfl | mem := List.mem_cons.mp mem
      · exact .inr ⟨TxEntry.fresh (.done v.notice), by simp [State.pushRoutine], by rw [← is]; rfl⟩
      · exact .inl ⟨v, mem, is⟩
    · exact .inr ⟨e, List.mem_append_left _ mem, is⟩

theorem State.doneDue.queueDue {d : DoneNotice} (h : s.doneDue d) : s.queueDue.doneDue d := by
  unfold State.queueDue
  have grows {l : List TxEntry} (e : ∃ e ∈ s.lc.routine, e.notice = .done d) :
      ∃ e ∈ s.lc.routine ++ l, e.notice = .done d :=
    e.imp fun _ m => ⟨List.mem_append_left _ m.1, m.2⟩
  split
  · exact h
  · dsimp only
    split
    all_goals exact h.imp id grows

theorem State.doneDue.fillPlaces {d : DoneNotice} : ∀ (n : Nat) {s : State}, s.doneDue d → (State.fillPlaces n s).doneDue d
  | 0, _, h => h
  | n + 1, s, h => by
    refine State.doneDue.fillPlaces n ?_
    unfold State.fillPlace
    split
    · split
      · exact h.queueDue
      · exact h.queueDone
    · exact h

/-- R129: the DONE that joins the list is due. -/
theorem joinDone_due (s : State) (d : DoneNotice) : (s.joinDone d).doneDue d := by
  unfold State.joinDone
  dsimp only
  split
  · exact .fillPlaces _ (.inl ⟨_, List.mem_append_right _ List.mem_cons_self, rfl⟩)
  · exact .inl ⟨_, List.mem_append_right _ List.mem_cons_self, rfl⟩

theorem queueDone_stapledAs (rests : s.carriageRests) : s.stapledAs s.queueDone := by
  unfold State.queueDone
  split
  · exact .of_sc rfl
  · next rest _ =>
    have shorter : s.stapledAs { s with sc := { s.sc with doneList := rest } } := ⟨rest, rfl⟩
    dsimp only
    rw [startTest_of_rests]
    · exact shorter
    · exact shorter.rests rests

theorem queueDue_sc (s : State) : s.queueDue.sc = s.sc := (queueDue_frame s).sc (by decide)

theorem fillPlaces_stapledAs : ∀ (n : Nat) {s : State}, s.carriageRests → s.stapledAs (State.fillPlaces n s)
  | 0, _, _ => .of_sc rfl
  | n + 1, s, rests => by
    have one : s.stapledAs s.fillPlace := by
      unfold State.fillPlace
      split
      · split
        · exact .of_sc (queueDue_sc s)
        · exact queueDone_stapledAs rests
      · exact .of_sc rfl
    exact one.trans (fillPlaces_stapledAs n (one.rests rests))

theorem joinDone_stapledAs (d : DoneNotice) (rests : s.carriageRests) : s.stapledAs (s.joinDone d) := by
  unfold State.joinDone
  have longer (x : Link) : s.stapledAs
      { s with sc := { s.sc with doneList := s.sc.doneList ++ [{ notice := d, since := s.lc.stamp }] }, lc := x } := ⟨_, rfl⟩
  dsimp only
  split
  · exact (longer _).trans (fillPlaces_stapledAs _ ((longer _).rests rests))
  · exact longer _

/-! ### The jaw of a delivered set (R128, R142) -/

theorem setJaw_rests {j : JawName} {x : JawState} (rests : s.carriageRests) : (s.setJaw j x).carriageRests := by
  cases j <;> exact rests

/-- R128: where the start test starts nothing the jaw is free, and the other jaw is as it was. -/
theorem jawDelivered_jaws (j : JawName) (d : DoneNotice) (rests : s.carriageRests) :
    (s.jawDelivered j d).jaw j = .free ∧ (s.jawDelivered j d).jaw j.other = s.jaw j.other := by
  have freed : (s.setJaw j .free).stapledAs (s.jawDelivered j d) := by
    have joined := joinDone_stapledAs d (setJaw_rests (j := j) (x := .free) rests)
    rw [State.jawDelivered, startTest_of_rests (joined.rests (setJaw_rests rests))]
    exact joined
  rw [freed.jaw, freed.jaw]
  exact ⟨jaw_setJaw_same s j .free, jaw_setJaw_other s .free (by cases j <;> decide)⟩

theorem jawDelivered_due (s : State) (j : JawName) (d : DoneNotice) : (s.jawDelivered j d).doneDue d :=
  (joinDone_due _ d).startTest

/-! ### The delivery (R142) -/

/-- R142 steps 1 to 5: the pocket's delivery ended, the set done, its record gone. -/
def State.setDone (s : State) (i : SetId) (p : Nat) : State :=
  (State.addDone
    { s with dc := { s.dc with pockets := modify1 s.dc.pockets p (fun x => { x with inFlight := none }) } } i).removeSet i

theorem deliveredInto_eq {j : JawName} {p : Nat} {i : SetId} {st : Stapling} {r : SetRecord}
    {o : SetOutcome} (jaw : s.jaw j = .holding i st) (found : s.findSet i = some r) (outcome : st.outcome = some o) :
    s.deliveredInto j p = ((s.setDone i p).jawDelivered j (r.doneOf o p)).deliverTest p := by
  simp only [State.deliveredInto, jaw, found, outcome, Option.getD_some, State.setDone]

theorem setDone_sc (i : SetId) (p : Nat) : (s.setDone i p).sc = s.sc :=
  ((removeSet_frame _ i).sc (by decide)).trans ((addDone_frame _ i).sc (by decide))

theorem setDone_setsBut (i : SetId) (p : Nat) : s.setsBut [i] (s.setDone i p) := fun k n =>
  ((removeSet_courses _ i).others k n).trans (findSet_of_co ((addDone_frame _ i).co (by decide)) k)

theorem setDone_findJob {i : SetId} {p : Nat} {b : JobRecord} (h : (s.setDone i p).findJob i.job = some b) :
    i.num ∈ b.doneMap := by
  rw [State.setDone, findJob_of_jt ((removeSet_frame _ i).jt (by decide))] at h
  exact addDone_doneMap h

end Sys2Proof.Machine

open Sys2Proof Sys2Proof.Machine

/-- Settles O44: the set's removal gives the records, R129's queues give the DONE, and the start test alone can load the jaw
again. -/
theorem setDelivered : Obligations.SetDelivered := by
  refine ⟨fun s j p i st o r delivering jaw found outcome _ => ?_, fun s j u p idle => ?_⟩
  · have delivered := deliveredInto_eq (p := p) jaw found outcome
    have tested := deliverTest_frame ((s.setDone i p).jawDelivered j (r.doneOf o p)) p
    rw [← delivered] at tested
    have rest : (s.setDone i p).sameBut [.sc, .hr, .rf, .lc, .dc] (s.deliveredInto j p) :=
      sameBut_trans (sameBut_mono (jawDelivered_frame _ j _) (by decide)) (sameBut_mono tested (by decide))
    have jaws (rests : s.carriageRests) := jawDelivered_jaws (s := s.setDone i p) j (r.doneOf o p)
      (by simpa only [State.carriageRests, setDone_sc] using rests)
    have jawOf : (s.deliveredInto j p).stapledAs ((s.setDone i p).jawDelivered j (r.doneOf o p)) :=
      .of_sc (tested.sc (by decide)).symm
    refine ⟨s.deliveredInto j p, ?_, ?_, ?_, fun b h => ?_, ?_, fun rests => ?_, ?_⟩
    · show Host.Outcome.next _ = _
      simp [delivering]
    · rw [findSet_of_co (rest.co (by decide))]
      exact findSet_removeSet _ i
    · exact (setDone_setsBut i p).trans fun _ => setsBut_of_co (rest.co (by decide)) _
    · rw [findJob_of_jt (rest.jt (by decide))] at h
      exact setDone_findJob h
    · have due := (jawDelivered_due (s.setDone i p) j (r.doneOf o p)).of_same
        (by rw [tested.sc (by decide)]) (tested.lc (by decide))
      simpa only [State.doneDue, SetRecord.doneOf, findSet_id found] using due
    · rw [← jawOf.jaw]
      exact (jaws rests).1
    · by_cases idle : s.sc.carriage = .idle
      · exact .inr idle
      · refine .inl ?_
        rw [← jawOf.jaw, (jaws (.inl idle)).2]
        exact (State.stapledAs.of_sc (setDone_sc i p)).jaw j.other
  · show Host.Outcome.next _ = _
    simp only [idle]

end

