-- ==== Sys2Proof/Proofs/DoneHeard.lean ====
section
/-! ## A DONE heard (R26, R85, R92, R93, R149, R150) -/

namespace Sys2Proof.Machine

variable {s t u : State} {i : SetId} {r : SetRecord} {f : Frame} {k : NoticeKind}

/-! ### The Claim Unit as the urgent queue gains room (R82, R88, R94) -/

/-- The lists and the count a DONE is about, where the Claim Unit has queued waiting notices: the foreign entries and the conflicts
are the same, and no late claim and no waiting notice has come. -/
structure ClaimUnit.sheds (c d : ClaimUnit) : Prop where
  foreign : d.foreign = c.foreign
  conflicts : d.conflicts = c.conflicts
  late : ∀ e ∈ d.late, ∃ x ∈ c.late, x.id = e.id
  waiting : ∀ w ∈ d.waiting, w ∈ c.waiting

theorem ClaimUnit.sheds.refl (c : ClaimUnit) : c.sheds c := ⟨rfl, rfl, fun e m => ⟨e, m, rfl⟩, fun _ m => m⟩

theorem ClaimUnit.sheds.trans {c d e : ClaimUnit} (h : c.sheds d) (k : d.sheds e) : c.sheds e := by
  refine ⟨k.foreign.trans h.foreign, k.conflicts.trans h.conflicts, fun x m => ?_, fun w m => h.waiting w (k.waiting w m)⟩
  obtain ⟨y, my, e⟩ := k.late x m
  obtain ⟨z, mz, e'⟩ := h.late y my
  exact ⟨z, mz, e'.trans e⟩

theorem markQueued_sheds (c : ClaimUnit) (i : SetId) : c.sheds (c.markQueued i) := by
  refine ⟨rfl, rfl, fun e m => ?_, fun _ m => m⟩
  obtain ⟨x, mx, rfl⟩ := List.mem_map.mp m
  exact ⟨x, mx, by split <;> rfl⟩

theorem formHeld_sheds {rest : List Waiting} (head : s.cu.waiting = .helds :: rest) : s.cu.sheds (s.formHeld rest).cu := by
  have fewer (l : List SetId) : s.cu.sheds { s.cu with backlog := l, waiting := if l = [] then rest else .helds :: rest } := by
    refine ⟨rfl, rfl, fun e m => ⟨e, m, rfl⟩, fun w m => ?_⟩
    rw [head]
    dsimp only at m
    split at m
    · exact List.mem_cons_of_mem _ m
    · exact m
  unfold State.formHeld
  dsimp only
  split
  all_goals exact fewer _

theorem queueWaiting_sheds (s : State) : s.cu.sheds s.queueWaiting.cu := by
  unfold State.queueWaiting
  split
  · split
    · exact .refl _
    · next id y rest head =>
      have shorter : s.cu.sheds { s.cu with waiting := rest } :=
        ⟨rfl, rfl, fun e m => ⟨e, m, rfl⟩, fun w m => head ▸ List.mem_cons_of_mem _ m⟩
      rw [State.pushUrgent_cu]
      dsimp only
      split
      · exact shorter.trans (markQueued_sheds _ id)
      · exact shorter
    · exact formHeld_sheds ‹_›
  · exact .refl _

theorem queueWaitings_sheds : ∀ (n : Nat) (s : State), s.cu.sheds (State.queueWaitings n s).cu
  | 0, s => .refl s.cu
  | n + 1, s => (queueWaiting_sheds s).trans (queueWaitings_sheds n _)

theorem refillUrgent_sheds (s : State) : s.cu.sheds s.refillUrgent.cu := queueWaitings_sheds _ s

theorem refillUrgent_sheds_withLink (s : State) (x : Link) : s.cu.sheds ({ s with lc := x } : State).refillUrgent.cu :=
  refillUrgent_sheds { s with lc := x }

theorem withdrawUrgent_sheds (hit : Notice → Bool) : s.cu.sheds (s.withdrawUrgent hit).cu := by
  unfold State.withdrawUrgent
  dsimp only
  split
  · exact .refl s.cu
  · exact refillUrgent_sheds_withLink s _

theorem claimless_sheds (r : SetRecord) : s.cu.sheds (s.claimless r).cu := by
  unfold State.claimless
  split
  · exact withdrawUrgent_sheds _
  · exact .refl s.cu

theorem leaveLine_sheds (s : State) : s.cu.sheds s.leaveLine.cu := by
  unfold State.leaveLine
  dsimp only
  rw [apply_ite State.cu, (refillRoutine_frame _).cu (by decide), ite_self]
  split
  · exact .refl s.cu
  · exact refillUrgent_sheds_withLink s _

/-- R149 steps 1 to 3, for a frame of any node. -/
theorem heardSteps_sheds (s : State) (kind : BitVec 6) (f : Frame) : s.cu.sheds (s.heardSteps kind f).cu := by
  unfold State.heardSteps
  dsimp only
  rw [apply_ite State.cu, (markPresent_frame _ _).cu (by decide), ite_self]
  split
  · exact leaveLine_sheds { s with lc := { s.lc with spoilMark := false } }
  · exact .refl s.cu

/-! ### The Claim Unit as a record is surrendered without a YIELD (R93) -/

theorem enterJoining_cu (s : State) : s.enterJoining.cu = s.cu.joining := by
  unfold State.enterJoining
  rw [(wantHello_frame _).cu (by decide)]
  exact congrArg ClaimUnit.joining ((setBay_frame s .joining).cu (by decide))

theorem rejoinTest_cu (s : State) : s.rejoinTest.cu = s.cu ∨ s.rejoins s.rejoinTest ∧ s.rejoinTest.cu = s.cu.joining := by
  have co : s.rejoinTest.co = s.co := (rejoinTest_frame s).co (by decide)
  by_cases rejoin : s.bs.state.selfClearing = true ∧ s.bs.heard = true ∧ s.co.sets = []
  · refine .inr ⟨⟨rejoin.1, rejoin.2.1, co ▸ rejoin.2.2⟩, ?_⟩
    rw [State.rejoinTest, if_pos rejoin]
    exact enterJoining_cu s
  · rw [State.rejoinTest, if_neg rejoin]
    exact .inl rfl

/-- R164: the drain test enters SERVICE, which does not clear itself. -/
theorem drainTest_clearing (h : s.drainTest.bs.state.selfClearing = true) : s.drainTest = s := by
  unfold State.drainTest at h ⊢
  split at h
  · have service : (s.setBay .service).bs.state = .service := congrArg BayControl.state ((wantState_frame _).bs (by decide))
    rw [service] at h
    cases h
  · exact if_neg ‹_›

theorem removeSet_cu (s : State) (i : SetId) :
    (s.removeSet i).cu = s.cu ∨ s.rejoins (s.removeSet i) ∧ (s.removeSet i).cu = s.cu.joining := by
  unfold State.removeSet
  split
  · exact .inl rfl
  · next r _ =>
    have dropped := dropSet_frame s r
    have cu : (s.dropSet r).drainTest.cu = s.cu := (drainTest_still _).2.1.trans (dropped.cu (by decide))
    rw [← cu]
    refine (rejoinTest_cu (s.dropSet r).drainTest).imp id fun h => ⟨⟨?_, ?_, h.1.2.2⟩, h.2⟩
    all_goals
      have clearing := h.1
      rw [State.rejoins, drainTest_clearing clearing.1, dropped.bs (by decide)] at clearing
    · exact clearing.1
    · exact clearing.2.1

theorem removalTest_cu (s : State) (i : SetId) :
    (s.removalTest i).cu = s.cu ∨ s.rejoins (s.removalTest i) ∧ (s.removalTest i).cu = s.cu.joining := by
  unfold State.removalTest
  split
  · exact .inl rfl
  · split
    · exact removeSet_cu s i
    · exact .inl rfl

/-- R93 steps 5 to 7 and the unload test of step 8. -/
def State.beforeRemoval (s : State) (r : SetRecord) : State :=
  (r.wanted.foldl (fun (t : State) p => t.releaseToFeeder r.id p) ((s.rewriteSet r.id).redirect r.id)).unloadTest r.id

theorem afterYield_eq (s : State) (r : SetRecord) : s.afterYield r = (s.beforeRemoval r).removalTest r.id := rfl

theorem beforeRemoval_frame (s : State) (r : SetRecord) :
    s.sameBut [.gc, .co, .hr, .rf, .sc, .dc, .lc] (s.beforeRemoval r) := by
  refine sameBut_trans ?_ (sameBut_mono (unloadTest_frame _ _) (by decide))
  refine sameBut_trans ?_ (sameBut_mono (sameBut_foldl _ (fun t p => releaseToFeeder_frame t r.id p) _ _) (by decide))
  exact sameBut_trans (sameBut_mono (rewriteSet_frame s r.id) (by decide)) (by simp [State.sameBut, State.redirect])

theorem surrender_none_eq (found : s.findSet i = some r) : s.surrender i none = (s.beginSurrender r).afterYield r := by
  rw [State.surrender, found]
  exact endSurrender_eq _ r none

theorem beginSurrender_sheds (s : State) (r : SetRecord) : s.cu.sheds (s.beginSurrender r).cu := by
  have put : ((s.claimless r).putSet r.surrendered).countSurrender.cu = (s.claimless r).cu := (putSet_still _ _).2.1
  rw [beginSurrender_eq]
  split
  · rw [(withdrawCarriage_frame _ _ _).cu (by decide), put]
    exact claimless_sheds r
  · rw [put]
    exact claimless_sheds r

/-- What a surrender without a YIELD leaves in the Claim Unit, with the rejoin that the removal of the last record can bring. -/
theorem surrender_none_cu (found : s.findSet i = some r) : ∃ c, s.cu.sheds c
    ∧ ((s.surrender i none).cu = c ∨ s.rejoins (s.surrender i none) ∧ (s.surrender i none).cu = c.joining) := by
  have before := beforeRemoval_frame (s.beginSurrender r) r
  have bs : ((s.beginSurrender r).beforeRemoval r).bs = s.bs :=
    (before.bs (by decide)).trans ((beginSurrender_frame s r).bs (by decide))
  have test := removalTest_cu ((s.beginSurrender r).beforeRemoval r) r.id
  rw [State.rejoins, bs, before.cu (by decide)] at test
  rw [surrender_none_eq found, afterYield_eq]
  exact ⟨_, beginSurrender_sheds s r, test⟩

theorem surrender_none_foreign (found : s.findSet i = some r) (stays : ¬s.rejoins (s.surrender i none)) :
    (s.surrender i none).cu.foreign = s.cu.foreign := by
  obtain ⟨c, sheds, rfl | ⟨rejoins, _⟩⟩ := surrender_none_cu found
  · exact sheds.foreign
  · exact absurd rejoins stays

theorem surrender_none_conflicts (found : s.findSet i = some r) : (s.surrender i none).cu.conflicts = s.cu.conflicts := by
  obtain ⟨c, sheds, rfl | ⟨_, h⟩⟩ := surrender_none_cu found
  · exact sheds.conflicts
  · rw [h]
    exact sheds.conflicts

theorem surrender_none_late (found : s.findSet i = some r) :
    ∀ e ∈ (s.surrender i none).cu.late, ∃ x ∈ s.cu.late, x.id = e.id := by
  obtain ⟨c, sheds, rfl | ⟨_, h⟩⟩ := surrender_none_cu found
  · exact sheds.late
  · rw [h]
    exact nofun

theorem surrender_none_waiting (found : s.findSet i = some r) :
    ∀ w ∈ (s.surrender i none).cu.waiting, w ∈ s.cu.waiting := by
  obtain ⟨c, sheds, rfl | ⟨_, h⟩⟩ := surrender_none_cu found
  · exact sheds.waiting
  · rw [h]
    exact fun w m => sheds.waiting w (List.mem_of_mem_filter m)

/-! ### The count of the surrenders (R92) -/

theorem putSet_surrenders (s : State) (v : SetRecord) : (s.putSet v).co.surrenders = s.co.surrenders := by
  unfold State.putSet
  split
  · rfl
  · rw [(tell_frame _ _).co (by decide)]

theorem setPage_surrenders (s : State) (i : SetId) (p : Nat) (x : PageStatus) :
    (s.setPage i p x).co.surrenders = s.co.surrenders := by
  unfold State.setPage State.updSet
  split
  · rfl
  · exact putSet_surrenders s _

theorem dropSet_surrenders (s : State) (r : SetRecord) : (s.dropSet r).co.surrenders = s.co.surrenders := by
  unfold State.dropSet
  rw [(unbindingTest_frame _ _).co (by decide), (tell_frame _ _).co (by decide)]

theorem removeSet_surrenders (s : State) (i : SetId) : (s.removeSet i).co.surrenders = s.co.surrenders := by
  unfold State.removeSet
  split
  · rfl
  · rw [(rejoinTest_frame _).co (by decide), (drainTest_frame _).co (by decide), dropSet_surrenders]

theorem surrenders_foldl {α : Type} (f : State → α → State)
    (h : ∀ (t : State) x, (f t x).co.surrenders = t.co.surrenders) :
    ∀ (xs : List α) (s : State), (xs.foldl f s).co.surrenders = s.co.surrenders
  | [], _ => rfl
  | x :: xs, s => (surrenders_foldl f h xs (f s x)).trans (h s x)

theorem undoPage_surrenders (s : State) (g : PageRef) : (s.undoPage g).co.surrenders = s.co.surrenders := by
  unfold State.undoPage
  split
  · rfl
  · split
    · exact setPage_surrenders s _ _ _
    · rfl

theorem undoAction_surrenders (s : State) (e : Entry) : (s.undoAction e).co.surrenders = s.co.surrenders := by
  unfold State.undoAction
  split
  · exact undoPage_surrenders s _
  · rw [(undoReservation_frame _ _ _ _).co (by decide), undoPage_surrenders]
  · rfl

theorem releaseToFeeder_surrenders (s : State) (i : SetId) (p : Nat) :
    (s.releaseToFeeder i p).co.surrenders = s.co.surrenders := by
  unfold State.releaseToFeeder
  split
  · rfl
  · split
    · rw [queueRelease_co, setPage_surrenders]
    · rfl

theorem freeBin_surrenders (s : State) (b : Nat) : (s.freeBin b).co.surrenders = s.co.surrenders := by
  unfold State.freeBin State.setBin
  split
  · rw [(tell_frame _ _).co (by decide)]
  · rfl

theorem unloadTest_surrenders (s : State) (i : SetId) : (s.unloadTest i).co.surrenders = s.co.surrenders := by
  unfold State.unloadTest
  split
  · rfl
  · split
    · rfl
    · split
      · split
        · rw [putSet_surrenders, freeBin_surrenders]
        · rw [queueCarriage_co]
      · rfl

theorem removalTest_surrenders (s : State) (i : SetId) : (s.removalTest i).co.surrenders = s.co.surrenders := by
  unfold State.removalTest
  split
  · rfl
  · split
    · exact removeSet_surrenders s i
    · rfl

theorem afterYield_surrenders (s : State) (r : SetRecord) : (s.afterYield r).co.surrenders = s.co.surrenders := by
  have rewritten : (s.rewriteSet r.id).co.surrenders = s.co.surrenders := surrenders_foldl _ undoAction_surrenders _ s
  rw [State.afterYield, removalTest_surrenders, unloadTest_surrenders,
    surrenders_foldl _ fun t p => releaseToFeeder_surrenders t r.id p]
  exact rewritten

theorem beginSurrender_surrenders (s : State) (r : SetRecord) :
    (s.beginSurrender r).co.surrenders = count s.co.surrenders := by
  have put : ((s.claimless r).putSet r.surrendered).countSurrender.co.surrenders = count s.co.surrenders :=
    congrArg count ((putSet_surrenders _ _).trans (by rw [claimless_co]))
  rw [beginSurrender_eq]
  split
  · rwa [withdrawCarriage_co]
  · exact put

theorem surrender_none_surrenders (found : s.findSet i = some r) :
    (s.surrender i none).co.surrenders = count s.co.surrenders := by
  rw [surrender_none_eq found, afterYield_surrenders, beginSurrender_surrenders]

/-! ### No TRANSFER of a surrendered set starts (R96, R117, R118) -/

/-- No TRANSFER of the set is queued or in flight. -/
def State.grounded (s : State) (i : SetId) : Prop := s.transferless i ∧ s.transferInFlight i = false

theorem State.grounded.of_sc (h : s.grounded i) (sc : t.sc = s.sc) : t.grounded i := by
  simpa only [State.grounded, State.transferless, State.transferInFlight, State.carriageInFlight, sc] using h

theorem State.grounded.carriageIssue (h : s.grounded i) : s.carriageIssue.grounded i := by
  refine ⟨(carriageIssue_spares s i).queue h.1, ?_⟩
  unfold State.carriageIssue
  split
  · split
    · exact h.2
    · next j b rest queue =>
      have other : j ≠ i := fun e => by
        cases h.1 (.transfer j b) (queue ▸ List.mem_cons_self) e
      split
      · exact h.2
      · split
        · rw [transferInFlight_of_carriage (setJaw_sc _ _ _).1]
          simp [State.transferInFlight, State.carriageInFlight, CarriageRequest.isUnload, CarriageRequest.id, other]
        · exact h.2
    · split
      · rfl
      · exact h.2
  · exact h.2

theorem State.grounded.arbiter (h : s.grounded i) : s.arbiter.grounded i := by
  have issued : s.arbiterIssue.grounded i := h.of_sc (arbiterIssue_still s).1
  unfold State.arbiter
  dsimp only
  split
  · exact issued
  · exact issued.carriageIssue

theorem State.grounded.startTest (h : s.grounded i) : s.startTest.grounded i := by
  unfold State.startTest
  dsimp only
  split
  · exact h.carriageIssue
  · exact h.carriageIssue.of_sc (arbiterIssue_still _).1

theorem State.grounded.releaseToFeeder (h : s.grounded i) (j : SetId) (p : Nat) : (s.releaseToFeeder j p).grounded i := by
  unfold State.releaseToFeeder
  split
  · exact h
  · split
    · exact State.grounded.arbiter (h.of_sc (setPage_still s _ _ _).1)
    · exact h

theorem State.grounded.foldl {α : Type} (f : State → α → State)
    (step : ∀ (t : State) x, t.grounded i → (f t x).grounded i) :
    ∀ (xs : List α) (s : State), s.grounded i → (xs.foldl f s).grounded i
  | [], _, h => h
  | x :: xs, s, h => State.grounded.foldl f step xs (f s x) (step s x h)

theorem State.grounded.queueUnload (h : s.grounded i) (j : SetId) (b m : Nat) :
    (s.queueCarriage (.unload j b m)).grounded i := by
  have joined : (s.withCarriage (s.sc.carriageQueue ++ [.unload j b m])).grounded i := by
    refine ⟨fun q mem => ?_, h.2⟩
    obtain mem | mem := List.mem_append.mp mem
    · exact h.1 q mem
    · rw [List.mem_singleton.mp mem]
      exact fun _ => rfl
  rw [queueCarriage_eq]
  split
  · exact joined.startTest
  · exact joined

theorem State.grounded.unloadTest (h : s.grounded i) (j : SetId) : (s.unloadTest j).grounded i := by
  unfold State.unloadTest
  split
  · exact h
  · split
    · exact h
    · next b _ =>
      split
      · split
        · exact h.of_sc ((freeBin_still s _).trans (putSet_still _ _)).1
        · exact h.queueUnload j b _
      · exact h

theorem State.grounded.afterYield (h : s.grounded i) (r : SetRecord) : (s.afterYield r).grounded i := by
  have rewritten : ((s.rewriteSet r.id).redirect r.id).grounded i := h.of_sc (rewriteSet_still s r.id).1
  have released := State.grounded.foldl _ (fun t p g => g.releaseToFeeder r.id p) r.wanted _ rewritten
  exact (released.unloadTest r.id).of_sc ((removalTest_frame _ r.id).sc (by decide))

theorem withdrawCarriage_grounded (i : SetId) (flight : s.transferInFlight i = false) :
    (s.withdrawCarriage i false).grounded i := by
  have left : (s.withCarriage (s.sc.carriageQueue.filter (fun r => !(r.id == i && r.isUnload == false)))).grounded i := by
    refine ⟨fun q m e => ?_, flight⟩
    simpa [e] using (List.mem_filter.mp m).2
  rw [withdrawCarriage_eq]
  split
  · exact left.startTest
  · exact left

/-- R96: a COMPLETE set surrendered with its transfer not in flight has none afterwards. -/
theorem surrender_none_grounded (found : s.findSet i = some r) (complete : r.state = .complete)
    (flight : s.transferInFlight i = false) : (s.surrender i none).grounded i := by
  have id := findSet_id found
  subst id
  have claim : s.claimless r = s := if_neg (by simp [complete])
  have put : ((s.claimless r).putSet r.surrendered).countSurrender.transferInFlight r.id = false := by
    rw [claim, ← flight]
    exact transferInFlight_of_carriage (congrArg Stapler.carriage (putSet_still s _).1)
  rw [surrender_none_eq found, beginSurrender_eq, if_pos complete]
  exact (withdrawCarriage_grounded r.id put).afterYield r

/-! ### The hearing of a DONE -/

/-- This bay's own notice passes the clash test of R149 step 1. -/
theorem hear_of_hearsEcho (h : s.hearsEcho k f) (act : State → State) :
    s.hear k f act = State.afterHeard s (act (s.heardSteps k.code f)) := by
  obtain ⟨awake, _, own, ok⟩ := h
  unfold State.hear
  rw [if_neg awake, if_neg (by simp [State.clashes, own])]
  dsimp only
  rw [if_pos ok]

theorem addDone_still (s : State) (i : SetId) : s.still (s.addDone i) := by
  have put (q : JobRecord) : s.still (s.putJob q) := ⟨rfl, rfl, rfl⟩
  unfold State.addDone
  split
  · exact .refl s
  · split
    · exact .refl s
    · dsimp only
      split
      · exact put _
      · refine (put _).trans (still_foldl _ (fun t p => ?_) _ _)
        split
        · exact unbindingTest_still t p
        · exact .refl t

/-- R26, R85: the set done: in its job's done-set map, and forgotten by the claim lists. -/
def State.doneNoted (s : State) (i : SetId) : State := { s.addDone i with cu := (s.addDone i).cu.forget i }

theorem doneNoted_cu (s : State) (i : SetId) : (s.doneNoted i).cu = s.cu.forget i :=
  congrArg (ClaimUnit.forget · i) (addDone_still s i).2.1

theorem doneNoted_co (s : State) (i : SetId) : (s.doneNoted i).co = s.co := (addDone_frame s i).co (by decide)

theorem doneNoted_bs (s : State) (i : SetId) : (s.doneNoted i).bs = s.bs := (addDone_frame s i).bs (by decide)

theorem doneNoted_sc (s : State) (i : SetId) : (s.doneNoted i).sc = s.sc := (addDone_still s i).1

theorem doneNoted_urgent (s : State) (i : SetId) : (s.doneNoted i).lc.urgent = s.lc.urgent := (addDone_still s i).2.2

theorem doneNoted_doneMap {b : JobRecord} (h : (s.doneNoted i).findJob i.job = some b) : i.num ∈ b.doneMap := addDone_doneMap h

theorem forget_late (c : ClaimUnit) (i : SetId) : ∀ e ∈ (c.forget i).late, e.id ≠ i := fun e m => by
  simpa using (List.mem_filter.mp m).2

theorem forget_waiting (c : ClaimUnit) (i : SetId) : ∀ w ∈ (c.forget i).waiting, w ≠ .yield i .late := fun w m => by
  simpa using (List.mem_filter.mp m).2

theorem mem_forget_waiting {c : ClaimUnit} {w : Waiting} (m : w ∈ c.waiting) (other : w ≠ .yield i .late) :
    w ∈ (c.forget i).waiting := List.mem_filter.mpr ⟨m, by simpa using other⟩

/-- R150: the fields of a DONE are in range. -/
def doneFormed (f : Frame) : Prop :=
  (f.setAt 0).job ≠ 0 ∧ (f.setAt 0).num ≠ 0 ∧ f.low6 ≠ 0 ∧ f.byteAt 3 / 32 ≤ 4

theorem onDone_formed (formed : doneFormed f) : s.onDone f =
    if f.origin.toNat = s.station then s.doneNoted (f.setAt 0)
    else match ((s.doneNoted (f.setAt 0)).findSet (f.setAt 0)).filter (fun r => r.state != .surrendering) with
      | none => s.doneNoted (f.setAt 0)
      | some r => (s.doneNoted (f.setAt 0)).doneConflict r := by
  obtain ⟨job, num, pages, outcome⟩ := formed
  unfold State.onDone
  rw [if_neg (by omega)]
  rfl

theorem onDone_own (formed : doneFormed f) (own : f.origin.toNat = s.station) : s.onDone f = s.doneNoted (f.setAt 0) := by
  rw [onDone_formed formed, if_pos own]

theorem onDone_unheld (formed : doneFormed f) (free : s.givenUp (f.setAt 0)) : s.onDone f = s.doneNoted (f.setAt 0) := by
  rw [onDone_formed formed, findSet_of_co (doneNoted_co s _)]
  split
  · rfl
  · cases found : s.findSet (f.setAt 0) with
    | none => rfl
    | some r => rw [Option.filter_some_neg (by simp [free r found])]

theorem onDone_held (formed : doneFormed f) (other : f.origin.toNat ≠ s.station) (found : s.findSet (f.setAt 0) = some r)
    (live : r.state ≠ .surrendering) : s.onDone f = (s.doneNoted (f.setAt 0)).doneConflict r := by
  rw [onDone_formed formed, if_neg other, findSet_of_co (doneNoted_co s _), found,
    Option.filter_some_pos (by simpa using live)]

/-- R85: what every DONE of the set leaves behind. -/
structure State.forgets (s t : State) (i : SetId) : Prop where
  late : ∀ e ∈ t.cu.late, e.id ≠ i
  doneMap : ∀ b, t.findJob i.job = some b → i.num ∈ b.doneMap
  waiting : ∀ w ∈ t.cu.waiting, w ≠ .yield i .late
  foreign : ¬s.rejoins t → t.cu.foreign = s.cu.foreign.filter (fun e => e.id != i)

/-- R85: what a DONE leaves as the steps of R149 leave it, where no record is given up. -/
structure State.spared (s t : State) (i : SetId) : Prop where
  co : t.co = s.co
  sc : t.sc = s.sc
  urgent : t.lc.urgent = s.lc.urgent
  foreign : t.cu.foreign = s.cu.foreign.filter (fun e => e.id != i)
  kept : ∀ w ∈ s.cu.waiting, w ≠ .yield i .late → w ∈ t.cu.waiting

/-- R85, R92, R93: what giving the set's record up does. -/
structure State.gives (s t : State) (i : SetId) : Prop where
  givenUp : t.givenUp i
  conflicts : t.cu.conflicts = count s.cu.conflicts
  surrenders : t.co.surrenders = count s.co.surrenders
  others : s.setsBut [i] t

theorem doneNoted_forgets (s : State) (i : SetId) : s.forgets (s.doneNoted i) i := by
  refine ⟨?_, fun b => doneNoted_doneMap, ?_, fun _ => ?_⟩
  all_goals rw [doneNoted_cu]
  · exact forget_late _ i
  · exact forget_waiting _ i
  · rfl

theorem doneNoted_spared (s : State) (i : SetId) : s.spared (s.doneNoted i) i := by
  refine ⟨doneNoted_co s i, doneNoted_sc s i, doneNoted_urgent s i, ?_, fun w m other => ?_⟩
  all_goals rw [doneNoted_cu]
  · rfl
  · exact mem_forget_waiting m other

/-- A conflict counted after a DONE changes nothing else. -/
theorem State.forgets.countConflict (h : s.forgets t i) : s.forgets t.countConflict i :=
  ⟨h.late, h.doneMap, h.waiting, h.foreign⟩

theorem State.spared.countConflict (h : s.spared t i) : s.spared t.countConflict i :=
  ⟨h.co, h.sc, h.urgent, h.foreign, h.kept⟩

/-- R85, R93: the record the DONE finds is given up. -/
def State.doneLost (s : State) (i : SetId) : State := (s.doneNoted i).countConflict.surrender i none

theorem findSet_noted (found : s.findSet i = some r) : (s.doneNoted i).countConflict.findSet i = some r :=
  (findSet_of_co (doneNoted_co s i) i).trans found

theorem noted_flight (s : State) (i j : SetId) :
    (s.doneNoted i).countConflict.transferInFlight j = s.transferInFlight j :=
  transferInFlight_of_carriage (congrArg Stapler.carriage (doneNoted_sc s i))

theorem doneLost_forgets (found : s.findSet i = some r) : s.forgets (s.doneLost i) i := by
  have there := findSet_noted found
  have noted := (doneNoted_forgets s i).countConflict
  refine ⟨fun e m => ?_, fun b h => ?_, fun w m => noted.waiting w (surrender_none_waiting there w m), fun stays => ?_⟩
  · obtain ⟨x, mx, e'⟩ := surrender_none_late there e m
    exact e' ▸ noted.late x mx
  · rw [State.doneLost, findJob_of_jt ((surrender_frame _ i none).jt (by decide))] at h
    exact noted.doneMap b h
  · have bs : (s.doneNoted i).countConflict.bs = s.bs := doneNoted_bs s i
    rw [State.doneLost, surrender_none_foreign there (by rwa [State.rejoins, bs])]
    exact (doneNoted_spared s i).foreign

theorem doneLost_gives (found : s.findSet i = some r) : s.gives (s.doneLost i) i := by
  have there := findSet_noted found
  have co : (s.doneNoted i).countConflict.co = s.co := doneNoted_co s i
  refine ⟨surrender_givenUp _ i none, ?_, ?_, fun k n => ?_⟩
  · rw [State.doneLost, surrender_none_conflicts there]
    exact congrArg count (by rw [doneNoted_cu]; rfl)
  · rw [State.doneLost, surrender_none_surrenders there, co]
  · exact ((surrender_courses _ i none).others k n).trans (findSet_of_co co k)

theorem doneLost_grounded (found : s.findSet i = some r) (complete : r.state = .complete)
    (flight : s.transferInFlight i = false) : (s.doneLost i).grounded i :=
  surrender_none_grounded (findSet_noted found) complete
    ((noted_flight s i i).trans flight)

/-- R85, R92: whether the record is given up. -/
theorem onDone_conflict (formed : doneFormed f) (other : f.origin.toNat ≠ s.station) (found : s.findSet (f.setAt 0) = some r)
    (live : r.state ≠ .surrendering) : s.onDone f =
      if s.surrenderable r then s.doneLost (f.setAt 0) else (s.doneNoted (f.setAt 0)).countConflict := by
  have same : (s.doneNoted (f.setAt 0)).countConflict.surrenderable r = s.surrenderable r := by
    unfold State.surrenderable
    rw [noted_flight]
  rw [onDone_held formed other found live, State.doneConflict, same, findSet_id found]
  rfl

theorem exec_done (h : s.hears .done f) :
    exec (.done f) s = .next (State.afterHeard s ((s.heardSteps NoticeKind.done.code f).onDone f)) :=
  congrArg Host.Outcome.next (hear_of_hears h _)

theorem heardSteps_station (s : State) (kind : BitVec 6) (f : Frame) : (s.heardSteps kind f).station = s.station := by
  rw [State.station, heardSteps_bs]
  rfl

/-- What the statement asks of a state the steps of R149 lead to, asked of the state before them. -/
theorem State.forgets.heard {kind : BitVec 6} (h : (s.heardSteps kind f).forgets t i) : s.forgets t i := by
  refine ⟨h.late, h.doneMap, h.waiting, fun stays => ?_⟩
  rw [h.foreign (by rwa [State.rejoins, heardSteps_bs]), (heardSteps_sheds s kind f).foreign]

theorem State.gives.heard {kind : BitVec 6} (h : (s.heardSteps kind f).gives t i) : s.gives t i := by
  refine ⟨h.givenUp, ?_, ?_, fun k n => ?_⟩
  · rw [h.conflicts, (heardSteps_sheds s kind f).conflicts]
  · rw [h.surrenders, heardSteps_co]
  · rw [h.others k n, findSet_heardSteps]

theorem State.spared.heard_foreign {kind : BitVec 6} (h : (s.heardSteps kind f).spared t i) :
    t.cu.foreign = s.cu.foreign.filter (fun e => e.id != i) := by
  rw [h.foreign, (heardSteps_sheds s kind f).foreign]

theorem State.spared.heard_co {kind : BitVec 6} (h : (s.heardSteps kind f).spared t i) : t.co = s.co :=
  h.co.trans (heardSteps_co s kind f)

theorem doneNoted_heard_conflicts (s : State) (kind : BitVec 6) (f : Frame) (i : SetId) :
    ((s.heardSteps kind f).doneNoted i).cu.conflicts = s.cu.conflicts := by
  rw [doneNoted_cu]
  exact (heardSteps_sheds s kind f).conflicts

end Sys2Proof.Machine

open Sys2Proof Sys2Proof.Machine

/-- Settles O51: the state of the record the DONE finds decides whether it is given up, and nothing after the claim lists forget the
set brings it back to them. -/
theorem doneHeard : Obligations.DoneHeard := by
  refine ⟨?_, ?_, ?_, ?_, ?_, ?_, ?_⟩
  · intro s f hears free job num pages outcome
    have unheld := onDone_unheld (s := s.heardSteps NoticeKind.done.code f) ⟨job, num, pages, outcome⟩
      (fun r => by rw [findSet_heardSteps]; exact free r)
    have forgets := doneNoted_forgets (s.heardSteps NoticeKind.done.code f) (f.setAt 0)
    have spared := doneNoted_spared (s.heardSteps NoticeKind.done.code f) (f.setAt 0)
    exact ⟨_, by rw [exec_done hears, unheld], spared.heard_foreign, forgets.late, forgets.doneMap,
      spared.heard_co, forgets.waiting, spared.kept, spared.urgent, doneNoted_heard_conflicts s _ f _⟩
  · intro s f r hears found state job num pages outcome _
    have there := (findSet_heardSteps s NoticeKind.done.code f _).trans found
    have lost := onDone_conflict ⟨job, num, pages, outcome⟩ (by rw [heardSteps_station]; exact hears.2.1) there
      (by obtain e | e | e := state <;> rw [e] <;> decide)
    have surrenderable : (s.heardSteps NoticeKind.done.code f).surrenderable r = true := by
      obtain e | e | e := state <;> simp only [State.surrenderable, e]
    rw [if_pos surrenderable] at lost
    have forgets := (doneLost_forgets there).heard
    have gives := (doneLost_gives there).heard
    exact ⟨_, by rw [exec_done hears, lost], forgets.foreign, forgets.late, forgets.doneMap, gives.givenUp, gives.conflicts,
      gives.surrenders, gives.others, forgets.waiting⟩
  · intro s f r hears found state job num pages outcome _
    have there := (findSet_heardSteps s NoticeKind.done.code f _).trans found
    have carries := onDone_conflict ⟨job, num, pages, outcome⟩ (by rw [heardSteps_station]; exact hears.2.1) there
      (by obtain e | e := state <;> rw [e] <;> decide)
    have stays : (s.heardSteps NoticeKind.done.code f).surrenderable r = false := by
      obtain e | e := state <;> simp only [State.surrenderable, e]
    rw [if_neg (by simp [stays])] at carries
    have forgets := (doneNoted_forgets (s.heardSteps NoticeKind.done.code f) (f.setAt 0)).countConflict
    have spared := (doneNoted_spared (s.heardSteps NoticeKind.done.code f) (f.setAt 0)).countConflict
    exact ⟨_, by rw [exec_done hears, carries], spared.heard_foreign, forgets.late, forgets.doneMap,
      spared.heard_co, forgets.waiting, spared.kept, spared.urgent,
      congrArg count (doneNoted_heard_conflicts s _ f _)⟩
  · intro s f echo job num pages outcome
    have own := onDone_own (s := s.heardSteps NoticeKind.done.code f) ⟨job, num, pages, outcome⟩
      (by rw [heardSteps_station]; exact echo.2.1)
    have forgets := doneNoted_forgets (s.heardSteps NoticeKind.done.code f) (f.setAt 0)
    have spared := doneNoted_spared (s.heardSteps NoticeKind.done.code f) (f.setAt 0)
    refine ⟨_, ?_, spared.heard_foreign, forgets.late, forgets.doneMap,
      spared.heard_co, forgets.waiting, spared.kept, spared.urgent, doneNoted_heard_conflicts s _ f _⟩
    rw [← own]
    exact congrArg Host.Outcome.next (hear_of_hearsEcho echo _)
  · intro s f hears malformed
    rw [exec_done hears, State.onDone]
    dsimp only
    rw [if_pos malformed]
    rfl
  · intro s f r hears found complete flight job num pages outcome _
    have there := (findSet_heardSteps s NoticeKind.done.code f _).trans found
    have lost := onDone_conflict ⟨job, num, pages, outcome⟩ (by rw [heardSteps_station]; exact hears.2.1) there
      (by rw [complete]; decide)
    rw [if_pos (by simp [State.surrenderable, complete, findSet_id found, flight])] at lost
    have forgets := (doneLost_forgets there).heard
    have gives := (doneLost_gives there).heard
    have grounded := doneLost_grounded there complete flight
    exact ⟨_, by rw [exec_done hears, lost], gives.givenUp, grounded.1, grounded.2, forgets.foreign, forgets.late,
      forgets.waiting, forgets.doneMap, gives.conflicts, gives.surrenders, gives.others⟩
  · intro s f r hears found complete flight job num pages outcome _
    have there := (findSet_heardSteps s NoticeKind.done.code f _).trans found
    have carries := onDone_conflict ⟨job, num, pages, outcome⟩ (by rw [heardSteps_station]; exact hears.2.1) there
      (by rw [complete]; decide)
    rw [if_neg (by simp [State.surrenderable, complete, findSet_id found, flight])] at carries
    have forgets := (doneNoted_forgets (s.heardSteps NoticeKind.done.code f) (f.setAt 0)).countConflict
    have spared := (doneNoted_spared (s.heardSteps NoticeKind.done.code f) (f.setAt 0)).countConflict
    exact ⟨_, by rw [exec_done hears, carries], spared.heard_co, spared.sc,
      spared.heard_foreign, forgets.late, forgets.waiting, forgets.doneMap,
      congrArg count (doneNoted_heard_conflicts s _ f _)⟩

end

