-- ==== Sys2Proof/Proofs/ClaimMade.lean ====
section
/-! ## A claim made at a read (R28, R33, R36, R73 to R76, R105, R135, R138 to R140) -/

namespace Sys2Proof.Machine

variable {s t u : State} {i : SetId} {r v w : SetRecord} {j : JobRecord} {m : Mark} {b c n p k : Nat}

/-! ### The numbered places searched (R33, R74) -/

theorem find?_numbers {n p : Nat} {q : Nat → Bool} (low : 1 ≤ p) (high : p ≤ n) (hit : q p = true)
    (first : ∀ k, 1 ≤ k → k < p → q k = false) : (numbers n).find? q = some p := by
  obtain ⟨i, rfl⟩ : ∃ i, p = i + 1 := ⟨p - 1, by omega⟩
  have found : (List.range n).find? (q ∘ (· + 1)) = some i :=
    List.find?_range_eq_some.mpr ⟨hit, List.mem_range.mpr high, fun k hk => by
      simp [first (k + 1) (by omega) (by omega)]⟩
  rw [numbers, List.find?_map, found]
  rfl

theorem mem_iff_nth1 {α : Type} {l : List α} {x : α} : x ∈ l ↔ ∃ k ∈ numbers l.length, nth1 l k = some x := by
  rw [List.mem_iff_getElem?]
  constructor
  · rintro ⟨k, h⟩
    obtain ⟨inside, _⟩ := List.getElem?_eq_some_iff.mp h
    exact ⟨k + 1, mem_numbers.mpr ⟨by omega, inside⟩, h⟩
  · rintro ⟨k, mem, h⟩
    cases k with
    | zero => cases h
    | succ k => exact ⟨k, h⟩

theorem mem_numbers_of_nth1 {α : Type} {l : List α} {x : α} (h : nth1 l k = some x) : 1 ≤ k ∧ k ≤ l.length :=
  (nth1_isSome_iff l k).mp (by rw [h]; rfl)

/-- The first of the numbered places that a test picks. -/
theorem find?_places {α : Type} {l : List α} {x : α} {q : α → Bool} (h : nth1 l p = some x) (hit : q x = true)
    (first : ∀ k y, k < p → nth1 l k = some y → q y = false) :
    (numbers l.length).find? (fun k => (nth1 l k).any q) = some p := by
  obtain ⟨low, high⟩ := mem_numbers_of_nth1 h
  refine find?_numbers low high (by simpa [h] using hit) fun k _ below => ?_
  cases e : nth1 l k with
  | none => rfl
  | some y => exact first k y below e

theorem find?_places_none {α : Type} {l : List α} {q : α → Bool} (h : ∀ y ∈ l, q y = false) :
    (numbers l.length).find? (fun k => (nth1 l k).any q) = none := by
  refine List.find?_eq_none.mpr fun k mem => ?_
  cases e : nth1 l k with
  | none => exact Bool.false_ne_true
  | some y => simpa using h y (mem_iff_nth1.mpr ⟨k, mem, e⟩)

theorem find?_places_isSome {α : Type} {l : List α} {q : α → Bool} :
    ((numbers l.length).find? (fun k => (nth1 l k).any q)).isSome = true ↔ ∃ y ∈ l, q y = true := by
  rw [List.find?_isSome]
  constructor
  · rintro ⟨k, mem, hit⟩
    cases e : nth1 l k with
    | none => simp [e] at hit
    | some y => exact ⟨y, mem_iff_nth1.mpr ⟨k, mem, e⟩, by simpa [e] using hit⟩
  · rintro ⟨y, mem, hit⟩
    obtain ⟨k, mem, e⟩ := mem_iff_nth1.mp mem
    exact ⟨k, mem, by simpa [e] using hit⟩

/-! ### The conditions of a claim (R73, R75) -/

/-- R124, R127: the head is able unless it is marked FAULTED or EMPTY. -/
theorem headStatus_able (s : State) : s.headStatus.able = true ↔ s.sc.faultedMark = false ∧ s.sc.emptyMark = false := by
  unfold State.headStatus
  cases s.sc.faultedMark with
  | true => simp [HeadStatus.able]
  | false =>
    cases s.sc.emptyMark with
    | true => simp [HeadStatus.able]
    | false =>
      cases s.sc.staples with
      | none => simp [HeadStatus.able]
      | some n => by_cases low : n ≤ Config.stapleLow <;> simp [HeadStatus.able, low]

theorem one_le_freeBins (s : State) : 1 ≤ s.freeBins ↔ ∃ b, s.binState b = some .available := by
  have some' : 1 ≤ s.freeBins ↔ .available ∈ s.co.bins := by
    rw [State.freeBins, Nat.one_le_iff_ne_zero, ne_eq, List.length_eq_zero_iff, List.filter_eq_nil_iff]
    simp
  rw [some', mem_iff_nth1]
  exact ⟨fun ⟨b, _, h⟩ => ⟨b, h⟩, fun ⟨b, h⟩ => ⟨b, mem_numbers.mpr (mem_numbers_of_nth1 h), h⟩⟩

/-- R75: the peer would take the job's set sooner. -/
theorem betterPlaced_iff (q : Peer) (j : JobRecord) : q.betterPlaced j = true ↔ q.present = true ∧ ∃ c, q.last = some c
    ∧ c.bay = BayState.active.code ∧ (∃ x ∈ c.pockets, x.job = j.job ∧ x.full = false) ∧ 1 ≤ c.freeBins
    ∧ (j.staple = .none ∨ c.head ≠ HeadStatus.empty.code ∧ c.head ≠ HeadStatus.fault.code) := by
  unfold Peer.betterPlaced
  cases q.last with
  | none => simp
  | some c => simp [and_assoc]

theorem affinity_iff (s : State) (j : JobRecord) : s.affinity j = true ↔ (∃ x ∈ s.dc.pockets, x.binding = some j.job)
    ∨ ∀ q ∈ s.lc.peers, ¬q.betterPlaced j = true := by
  rw [State.affinity, Bool.or_eq_true, State.boundPocket, find?_places_isSome]
  simp

theorem mayClaim_iff (s : State) (j : JobRecord) : s.mayClaim j = true ↔ s.bs.state = .active ∧ s.co.sets.length < 24
    ∧ 1 ≤ s.freeBins ∧ (j.staple = .none ∨ s.headStatus.able = true) ∧ s.affinity j = true ∧ s.lc.urgent.length < 4
    ∧ s.cu.foreign.length < 128 ∧ s.cu.late = [] := by
  simp only [State.mayClaim, Bool.and_eq_true, Bool.or_eq_true, beq_iff_eq, decide_eq_true_eq, State.urgentRoom,
    List.isEmpty_iff, and_assoc]
  rfl

/-! ### The pocket named (R74, R135, R138, R140) -/

theorem wholeCost_eq (n : Nat) (x : StapleMode) :
    wholeCost n x = if (x = .corner ∨ x = .edge) ∧ 2 ≤ n ∧ n ≤ 50 then n + 3 else n := by
  cases x <;> simp [wholeCost, Config.stapleMaxPages, Config.stapleAllowance]

theorem admits_iff (x : Pocket) (cost : Nat) :
    x.admits cost = true ↔ x.full = false ∧ 10 * x.last.getD 0 + x.committed + cost ≤ 1800 := by
  rw [Pocket.admits, Bool.and_eq_true, Bool.not_eq_true', decide_eq_true_iff]
  rfl

theorem boundPocket_none (h : ∀ y ∈ s.dc.pockets, y.binding ≠ some j.job) : s.boundPocket j.job = none :=
  find?_places_none fun y m => by simpa using h y m

theorem pocketFor_bound {x : Pocket} (there : nth1 s.dc.pockets p = some x) (bound : s.boundPocket j.job = some p) :
    s.pocketFor j n = if x.admits (wholeCost n j.staple) then some p else none := by
  simp only [State.pocketFor, bound, there, Option.any_some]

theorem pocketFor_unbound (bound : s.boundPocket j.job = none) :
    s.pocketFor j n = (numbers s.dc.pockets.length).find? (fun q => (nth1 s.dc.pockets q).any Pocket.bindable) := by
  simp only [State.pocketFor, bound]

/-! ### The record of a claim (R28, R36) -/

/-- R36: the record of a claim with the page map as it stands. -/
def SetRecord.claimedWith (j : JobRecord) (m : Mark) (b p n : Nat) (l : List PageStatus) : SetRecord :=
  { SetRecord.made j m b p n with map := l }

theorem made_status (q : Nat) : (SetRecord.made j m b p n).status q = .absent := by
  unfold SetRecord.status SetRecord.made
  cases q with
  | zero => rfl
  | succ q => simp only [nth1, List.getElem?_replicate]; split <;> rfl

/-- R31: the first page in the set's order is the placement frontier of a new record. -/
theorem made_frontier (some' : 1 ≤ m.pages) :
    (SetRecord.made j m b p n).frontier = some (if j.order = .forward then 1 else m.pages) := by
  have all : (SetRecord.made j m b p n).frontier = (SetRecord.made j m b p n).wanted.head? := by
    rw [SetRecord.frontier]
    simp only [made_status]
    cases (SetRecord.made j m b p n).wanted <;> rfl
  obtain ⟨k, pages⟩ : ∃ k, m.pages = k + 1 := ⟨m.pages - 1, by omega⟩
  rw [all]
  cases order : j.order <;> simp [SetRecord.wanted, SetRecord.made, order, pages, List.range_succ_eq_map]

theorem made_anyPage {q : PageStatus → Bool} (absent : q .absent = false) :
    (SetRecord.made j m b p n).anyPage q = false := by
  simp [SetRecord.anyPage, SetRecord.made, absent]

theorem made_share : (SetRecord.made j m b p n).share = 0 := by
  simp [SetRecord.share, SetRecord.count, SetRecord.made, PageStatus.inShare]

/-- R40: of a new set the first page in its order alone goes direct to the bin. -/
theorem made_direct (some' : 1 ≤ m.pages) (q : Nat) : (SetRecord.made j m b p n).direct q
    = decide (q = if j.order = .forward then 1 else m.pages) := by
  rw [SetRecord.direct, made_frontier some', made_anyPage rfl, made_anyPage rfl, Bool.eq_iff_iff]
  simp only [Bool.not_false, Bool.and_true, beq_iff_eq, Option.some.injEq, decide_eq_true_eq]
  exact eq_comm

/-- R41: another page of a new set goes to the rack when two pockets are FREE. -/
theorem made_rackAdmits (some' : 1 ≤ m.pages) {q : Nat} (later : q ≠ if j.order = .forward then 1 else m.pages) :
    u.rackAdmits (SetRecord.made j m b p n) q = true ↔
      u.rackInService = true ∧ 2 ≤ u.freeRackPockets ∧ u.inletPlaceFree = true := by
  have fitted : 4 ≤ u.rackFitted / 2 := by
    rw [State.rackFitted, Straps.fittedRack]
    omega
  unfold State.rackAdmits
  rw [made_frontier some', made_share]
  simp only [made_status]
  have waits : ((if j.order = .forward then 1 else m.pages) != q) = true := by simpa using Ne.symm later
  simp only [waits, Bool.and_eq_true, decide_eq_true_eq, Bool.or_eq_true, Bool.not_eq_true']
  constructor
  · rintro ⟨⟨⟨⟨service, _⟩, place⟩, _⟩, h⟩
    obtain h | ⟨_, two⟩ := h
    · simp at h
    · exact ⟨service, two, place⟩
  · rintro ⟨service, two, place⟩
    exact ⟨⟨⟨⟨service, by omega⟩, place⟩, by omega⟩, .inr ⟨by omega, two⟩⟩

/-! ### The state after the claim (R33, R36, R135, R136, R139) -/

theorem claimMade_co (s : State) (j : JobRecord) (m : Mark) (b p : Nat) : (s.claimMade j m b p).co = { s.co with
    bins := set1 s.co.bins b .assigned, sets := insertRecord (SetRecord.made j m b p s.co.made) s.co.sets
    made := s.co.made + 1, searchPtr := b % s.co.bins.length + 1 } := by
  rw [State.claimMade, (pushUrgent_frame _ _).co (by decide), State.bindPocket, (changePocket_frame _ _ _).co (by decide),
    State.addSet, tell_sets]
  dsimp only
  rw [setBin_co]

/-- R136, R139: pocket `p` referenced by one more set and charged with its cost. -/
def Pocket.charged (x : Pocket) (cost : Nat) : Pocket := { x with committed := x.committed + cost, refs := x.refs + 1 }

/-- R135: the pocket bound to the job, unless it was bound before. -/
def Pocket.boundTo (x : Pocket) (job : Nat) : Pocket := { x with binding := if x.binding = none then some job else x.binding }

/-- R145: the pocket with its lamp set afresh. -/
def Pocket.lit (x : Pocket) : Pocket := { x with lamp := x.lampOf }

theorem claimMade_pocket {x : Pocket} (h : nth1 s.dc.pockets p = some x) :
    nth1 (s.claimMade j m b p).dc.pockets p
      = some ((x.charged (wholeCost m.pages j.staple)).boundTo m.id.job).lit := by
  rw [State.claimMade, (pushUrgent_frame _ _).dc (by decide), State.bindPocket, State.changePocket, (tell_frame _ _).dc (by decide)]
  dsimp only
  rw [nth1_modify1_same, State.addSet, (tell_frame _ _).dc (by decide)]
  dsimp only
  rw [SetRecord.made, nth1_modify1_same, (setBin_frame _ _ _).dc (by decide), h]
  rfl

theorem claimMade_urgent (s : State) (j : JobRecord) (m : Mark) (b p : Nat) :
    (s.claimMade j m b p).lc.urgent = s.lc.urgent ++ [TxEntry.fresh (.claim m.id m.pages)] := by
  simp [State.claimMade, State.bindPocket, State.changePocket, State.addSet, State.setBin]

theorem findSet_insertRecord_same {l : List SetRecord} (new : ∀ q ∈ l, q.id ≠ r.id) :
    (insertRecord r l).find? (fun q => q.id == r.id) = some r := by
  induction l with
  | nil => simp [insertRecord]
  | cons x rest ih =>
    unfold insertRecord
    split
    · simp
    · rw [List.find?_cons, beq_false_of_ne (new x List.mem_cons_self)]
      exact ih fun q mem => new q (List.mem_cons_of_mem x mem)

theorem findSet_insertRecord_other {l : List SetRecord} (other : r.id ≠ i) :
    (insertRecord r l).find? (fun q => q.id == i) = l.find? (fun q => q.id == i) := by
  have skip : (r.id == i) = false := beq_false_of_ne other
  induction l with
  | nil => simp [insertRecord, skip]
  | cons x rest ih =>
    unfold insertRecord
    split
    · rw [List.find?_cons, skip]
    · rw [List.find?_cons, List.find?_cons, ih]

/-- What the claim made in `s` leaves in every state up to the end of its read; `l` is the page map of the record. -/
structure State.claims (s : State) (j : JobRecord) (m : Mark) (b p : Nat) (t : State) (l : List PageStatus) : Prop where
  record : t.findSet m.id = some (SetRecord.claimedWith j m b p s.co.made l)
  bins : t.co.bins = set1 s.co.bins b .assigned
  pointer : t.co.searchPtr = b % s.co.bins.length + 1
  others : s.setsBut [m.id] t
  claim : t.lc.urgent = s.lc.urgent ++ [TxEntry.fresh (.claim m.id m.pages)]
  pocket : ∀ x, nth1 s.dc.pockets p = some x →
    nth1 t.dc.pockets p = some ((x.charged (wholeCost m.pages j.staple)).boundTo m.id.job).lit
  frame : s.sameBut [.ri, .gc, .co, .hr, .dc, .lc] t

theorem claimMade_claims (new : s.findSet m.id = none) :
    s.claims j m b p (s.claimMade j m b p) (List.replicate m.pages .absent) := by
  have co := claimMade_co s j m b p
  refine ⟨?_, by rw [co], by rw [co], fun i n => ?_, claimMade_urgent s j m b p, fun x => claimMade_pocket,
    sameBut_mono (claimMade_frame s j m b p) (by decide)⟩
  · rw [State.findSet, co]
    exact findSet_insertRecord_same (r := SetRecord.made j m b p s.co.made) fun q mem => by
      simpa [SetRecord.made] using List.find?_eq_none.mp new q mem
  · rw [State.findSet, co]
    exact findSet_insertRecord_other fun e => n (List.mem_singleton.mpr e.symm)

theorem State.claims.updSet {l l' : List PageStatus} {f : SetRecord → SetRecord} (h : s.claims j m b p t l)
    (change : f (SetRecord.claimedWith j m b p s.co.made l) = SetRecord.claimedWith j m b p s.co.made l') :
    s.claims j m b p (t.updSet m.id f) l' := by
  have put : t.updSet m.id f = t.putSet (SetRecord.claimedWith j m b p s.co.made l') := by
    simp only [State.updSet, h.record, change]
  have there : t.findSet (SetRecord.claimedWith j m b p s.co.made l').id = _ := h.record
  have co := putSet_co there
  rw [put]
  refine ⟨findSet_putSet_same there, by rw [co]; exact h.bins, by rw [co]; exact h.pointer,
    h.others.trans (putSet_setsBut t rfl), ?_, fun x hx => ?_, ?_⟩
  · rw [(putSet_still t _).2.2]
    exact h.claim
  · rw [putSet_dc there rfl]
    exact h.pocket x hx
  · exact sameBut_trans h.frame (sameBut_mono (putSet_frame t _) (by decide))

theorem State.claims.setPage {l : List PageStatus} (h : s.claims j m b p t l) (q : Nat) (x : PageStatus) :
    s.claims j m b p (t.setPage m.id q x) (set1 l q x) := h.updSet rfl

theorem State.claims.sighting {l : List PageStatus} (h : s.claims j m b p t l) : s.claims j m b p (t.sighting m.id) l :=
  h.updSet rfl

/-- The operations of the read on the reader, the gate, the rack and the count of the full racks. -/
theorem State.claims.of_same {l : List PageStatus} (h : s.claims j m b p t l) (sets : u.co.sets = t.co.sets)
    (bins : u.co.bins = t.co.bins) (pointer : u.co.searchPtr = t.co.searchPtr)
    (frame : t.sameBut [.ri, .gc, .co, .hr] u) : s.claims j m b p u l := by
  have found (i : SetId) : u.findSet i = t.findSet i := by simp only [State.findSet, sets]
  refine ⟨(found _).trans h.record, bins.trans h.bins, pointer.trans h.pointer, h.others.trans fun i _ => found i, ?_,
    fun x hx => ?_, sameBut_trans h.frame (sameBut_mono frame (by decide))⟩
  · rw [frame.lc (by decide)]
    exact h.claim
  · rw [frame.dc (by decide)]
    exact h.pocket x hx

/-! ### The routing of the first sheet (R38 to R42, R76) -/

theorem route_made (gate : u.gc.gate ≠ .faulted) : u.route (SetRecord.made j m b p n) m =
    match some b, (SetRecord.made j m b p n).direct m.page with
    | some b, true =>
      { state := u.setPage m.id m.page .inboundBin, action := .bin b, target := some { id := m.id, page := m.page, record := n } }
    | _, _ =>
      match u.lowestFree, u.rackAdmits (SetRecord.made j m b p n) m.page with
      | some k, true =>
        { state := (u.reserve k m.id m.page).setPage m.id m.page (.inboundRack k), action := .rack k
          target := some { id := m.id, page := m.page, record := n } }
      | _, _ => u.countRackFull.choose .pass := by
  change u.routeOpen (SetRecord.made j m b p n) m = _
  unfold State.routeOpen
  rw [if_neg (not_not.mpr (show m.pages = (SetRecord.made j m b p n).pages from rfl)), if_neg (by simp [made_status]),
    if_neg gate]
  rfl

theorem route_made_direct (gate : u.gc.gate ≠ .faulted) (some' : 1 ≤ m.pages)
    (first : m.page = if j.order = .forward then 1 else m.pages) : u.route (SetRecord.made j m b p n) m =
      { state := u.setPage m.id m.page .inboundBin, action := .bin b
        target := some { id := m.id, page := m.page, record := n } } := by
  rw [route_made gate, made_direct some', decide_eq_true first]

theorem route_made_rack (gate : u.gc.gate ≠ .faulted) (some' : 1 ≤ m.pages)
    (later : m.page ≠ if j.order = .forward then 1 else m.pages) (service : u.rackInService = true)
    (free : u.lowestFree = some k) (two : 2 ≤ u.freeRackPockets) (place : u.inletPlaceFree = true) :
    u.route (SetRecord.made j m b p n) m =
      { state := (u.reserve k m.id m.page).setPage m.id m.page (.inboundRack k), action := .rack k
        target := some { id := m.id, page := m.page, record := n } } := by
  rw [route_made gate, made_direct some', decide_eq_false later, free, (made_rackAdmits some' later).mpr ⟨service, two, place⟩]

theorem route_made_pass (gate : u.gc.gate ≠ .faulted) (some' : 1 ≤ m.pages)
    (later : m.page ≠ if j.order = .forward then 1 else m.pages)
    (full : u.rackInService = false ∨ u.freeRackPockets ≤ 1 ∨ u.inletPlaceFree = false) :
    u.route (SetRecord.made j m b p n) m = u.countRackFull.choose .pass := by
  have refused : u.rackAdmits (SetRecord.made j m b p n) m.page = false := by
    rw [Bool.eq_false_iff, ne_eq, made_rackAdmits some' later]
    rintro ⟨service, two, place⟩
    obtain e | few | e := full
    · exact Bool.false_ne_true (e.symm.trans service)
    · omega
    · exact Bool.false_ne_true (e.symm.trans place)
  rw [route_made gate, made_direct some', decide_eq_false later, refused]
  cases u.lowestFree <;> rfl

/-! ### The read of the sheet (R2, R11, R73, R76, R107) -/

/-- R3: a marked read shows a page of its set. -/
theorem content_page {x : Window} (h : x.content = .marked m) : 1 ≤ m.page ∧ m.page ≤ m.pages := by
  unfold Window.content at h
  split at h
  · split at h
    · split at h
      · split at h
        · next q _ _ _ valid =>
          cases h
          have ok := valid.2
          simp only [Strip.valid, Bool.and_eq_true, decide_eq_true_eq] at ok
          obtain ⟨⟨⟨_, low⟩, high⟩, _⟩ := ok
          exact ⟨low, high⟩
        · cases h
      · cases h
    · cases h
  · cases h

theorem marks_page (h : s.marks n m) : 1 ≤ m.page ∧ m.page ≤ m.pages := by
  obtain ⟨_, _, _, _, _, _, content⟩ := h
  obtain ⟨x, _, content⟩ := Option.map_eq_some_iff.mp content
  exact content_page content

/-- A marked read whose choice leaves the gate alone. -/
theorem exec_marks_chosen {d : Chosen} (h : s.marks n m) (choice : s.chooseMarked m = d) (gc : d.state.gc = s.gc) (a : Bool) :
    ∃ x, exec (.readerSample false a) s = .next ((d.state.sighting m.id).withFront x
      { s.gc with queue := s.gc.queue ++ [{ carrier := n, action := d.action, target := d.target }] }) := by
  obtain ⟨room, still, low, high, last, number, content⟩ := h
  obtain ⟨w, window, content⟩ := Option.map_eq_some_iff.mp content
  rw [window] at number
  have sighted : (d.state.sighting m.id).gc = s.gc := ((sighting_frame _ _).gc (by decide)).trans gc
  have chosen : s.chooseRead (.marked m) = { d with state := d.state.sighting m.id } := by rw [State.chooseRead, choice]
  have read : s.reads w = { d.state.sighting m.id with
      gc := { s.gc with queue := s.gc.queue ++ [{ carrier := n, action := d.action, target := d.target }] } } := by
    rw [reads_lapless number still, content, carrierRead_room room, chosen]
    dsimp only
    rw [sighted]
  exact ⟨_, by rw [exec_closing ⟨high, last, window⟩ a, read]; rfl⟩

/-- R73: the claim decision takes the set. -/
structure State.takes (s : State) (n : Nat) (m : Mark) (j : JobRecord) (p c : Nat) : Prop where
  marks : s.marks n m
  open' : s.passesMarked = false
  job : s.findJob m.id.job = some j
  undone : m.id.num ∉ j.doneMap
  gate : s.gc.gate ≠ .faulted
  standing : s.standing m.id = false
  new : s.findSet m.id = none
  opened : j.state = .opened
  may : s.mayClaim j = true
  pocket : s.pocketFor j m.pages = some p
  bin : s.searchBin = some c

theorem chooseMarked_takes (h : s.takes n m j p c) :
    s.chooseMarked m = (s.claimMade j m c p).route (SetRecord.made j m c p s.co.made) m := by
  rw [chooseMarked_unheld h.open' h.job h.undone h.new, h.standing, if_neg Bool.false_ne_true, if_neg (by simp [h.opened]),
    if_neg h.gate, State.claimDecision, h.may, h.pocket, h.bin]
  rfl

theorem updSet_rackFull (s : State) (i : SetId) (f : SetRecord → SetRecord) : (s.updSet i f).co.rackFull = s.co.rackFull := by
  unfold State.updSet State.putSet
  repeat' split
  all_goals simp only [tell_sets]

/-- The read of the claimed sheet, from the choice of its action. -/
theorem exec_takes {d : Chosen} {l : List PageStatus} (h : s.takes n m j p c)
    (choice : (s.claimMade j m c p).route (SetRecord.made j m c p s.co.made) m = d) (gc : d.state.gc = s.gc)
    (made : s.claims j m c p d.state l) (a : Bool) : ∃ t, exec (.readerSample false a) s = .next t
      ∧ s.claims j m c p t l
      ∧ t.gc = { s.gc with queue := s.gc.queue ++ [{ carrier := n, action := d.action, target := d.target }] }
      ∧ t.hr = d.state.hr
      ∧ t.co.rackFull = d.state.co.rackFull := by
  obtain ⟨x, read⟩ := exec_marks_chosen h.marks ((chooseMarked_takes h).trans choice) gc a
  refine ⟨_, read, made.sighting.of_same rfl rfl rfl (by simp [State.sameBut, State.withFront]), rfl, ?_, ?_⟩
  · exact (sighting_frame d.state m.id).hr (by decide)
  · exact updSet_rackFull d.state m.id _

/-- R40, R76: the first page in the set's order goes to the bin. -/
theorem exec_takes_direct (h : s.takes n m j p c) (first : m.page = if j.order = .forward then 1 else m.pages) (a : Bool) :
    ∃ t, exec (.readerSample false a) s = .next t
      ∧ s.claims j m c p t (set1 (List.replicate m.pages .absent) m.page .inboundBin)
      ∧ t.gc = { s.gc with queue := s.gc.queue ++ [{ carrier := n, action := .bin c, target := some { id := m.id,
                                                                                                      page := m.page,
                                                                                                      record := s.co.made } }] }
      ∧ t.hr = s.hr := by
  have frame := claimMade_frame s j m c p
  obtain ⟨low, high⟩ := marks_page h.marks
  have choice := route_made_direct (j := j) (b := c) (p := p) (n := s.co.made) (u := s.claimMade j m c p)
    (by rw [frame.gc (by decide)]; exact h.gate) (low.trans high) first
  have page := setPage_frame (s.claimMade j m c p) m.id m.page .inboundBin
  obtain ⟨t, read, claims, gc, hr, _⟩ := exec_takes h choice ((page.gc (by decide)).trans (frame.gc (by decide)))
    ((claimMade_claims h.new).setPage m.page .inboundBin) a
  exact ⟨t, read, claims, gc, hr.trans ((page.hr (by decide)).trans (frame.hr (by decide)))⟩

/-- The rack as the tests of R41 see it. -/
theorem rack_of_hr (h : t.hr = s.hr) : t.rackInService = s.rackInService ∧ t.freeRackPockets = s.freeRackPockets
    ∧ t.inletPlaceFree = s.inletPlaceFree ∧ t.lowestFree = s.lowestFree := by
  simp only [State.rackInService, State.freeRackPockets, State.inletPlaceFree, State.lowestFree, h, and_self]

theorem lowestFree_of_free (h : 1 ≤ s.freeRackPockets) : ∃ k, s.lowestFree = some k := by
  obtain ⟨x, mem⟩ := List.exists_mem_of_length_pos (Nat.lt_of_lt_of_le Nat.one_pos h)
  obtain ⟨inside, free⟩ := List.mem_filter.mp mem
  obtain ⟨k, number, there⟩ := mem_iff_nth1.mp inside
  exact Option.isSome_iff_exists.mp (List.find?_isSome.mpr ⟨k, number, by simpa [there] using free⟩)

/-- R41, R76: another page goes to the rack where the rack has room. -/
theorem exec_takes_rack (h : s.takes n m j p c) (later : m.page ≠ if j.order = .forward then 1 else m.pages)
    (service : s.rackInService = true) (free : s.lowestFree = some k) (two : 2 ≤ s.freeRackPockets)
    (place : s.inletPlaceFree = true) (a : Bool) : ∃ t, exec (.readerSample false a) s = .next t
      ∧ s.claims j m c p t (set1 (List.replicate m.pages .absent) m.page (.inboundRack k))
      ∧ t.gc = { s.gc with queue := s.gc.queue ++ [{ carrier := n, action := .rack k, target := some { id := m.id,
                                                                                                       page := m.page,
                                                                                                       record := s.co.made } }] }
      ∧ t.hr = { s.hr with pockets := set1 s.hr.pockets k (.reserved m.id m.page), inletReserved := s.hr.inletReserved + 1 } := by
  have frame := claimMade_frame s j m c p
  obtain ⟨low, high⟩ := marks_page h.marks
  obtain ⟨service', free', place', lowest'⟩ := rack_of_hr (frame.hr (by decide))
  have choice := route_made_rack (j := j) (b := c) (p := p) (n := s.co.made) (u := s.claimMade j m c p)
    (by rw [frame.gc (by decide)]; exact h.gate) (low.trans high) later (service'.trans service) (lowest'.trans free)
    (free' ▸ two) (place'.trans place)
  have reserved : s.claims j m c p ((s.claimMade j m c p).reserve k m.id m.page) (List.replicate m.pages .absent) :=
    (claimMade_claims h.new).of_same rfl rfl rfl (by simp [State.sameBut, State.reserve])
  have page := setPage_frame ((s.claimMade j m c p).reserve k m.id m.page) m.id m.page (.inboundRack k)
  obtain ⟨t, read, claims, gc, hr, _⟩ := exec_takes h choice ((page.gc (by decide)).trans (frame.gc (by decide)))
    (reserved.setPage m.page (.inboundRack k)) a
  refine ⟨t, read, claims, gc, hr.trans ((page.hr (by decide)).trans ?_)⟩
  rw [State.reserve, frame.hr (by decide)]

/-- R42, R76: another page passes where it has not, and is counted. -/
theorem exec_takes_pass (h : s.takes n m j p c) (later : m.page ≠ if j.order = .forward then 1 else m.pages)
    (full : s.rackInService = false ∨ s.freeRackPockets ≤ 1 ∨ s.inletPlaceFree = false) (a : Bool) :
    ∃ t, exec (.readerSample false a) s = .next t
      ∧ s.claims j m c p t (List.replicate m.pages .absent)
      ∧ t.gc = { s.gc with queue := s.gc.queue ++ [Entry.bare n .pass] }
      ∧ t.hr = s.hr
      ∧ t.co.rackFull = count s.co.rackFull := by
  have frame := claimMade_frame s j m c p
  obtain ⟨low, high⟩ := marks_page h.marks
  obtain ⟨service', free', place', _⟩ := rack_of_hr (frame.hr (by decide))
  have choice := route_made_pass (j := j) (b := c) (p := p) (n := s.co.made) (u := s.claimMade j m c p)
    (by rw [frame.gc (by decide)]; exact h.gate) (low.trans high) later (by rwa [service', free', place'])
  obtain ⟨t, read, claims, gc, hr, counted⟩ := exec_takes h choice (frame.gc (by decide))
    ((claimMade_claims h.new).of_same rfl rfl rfl (by simp [State.sameBut, State.countRackFull, State.choose])) a
  refine ⟨t, read, claims, gc, hr.trans (frame.hr (by decide)), counted.trans (congrArg count ?_)⟩
  rw [claimMade_co]

/-- The page of the first sheet has the status its route gives it. -/
theorem routed_status (page : 1 ≤ m.page ∧ m.page ≤ m.pages) (x : PageStatus) :
    (SetRecord.claimedWith j m b p n (set1 (List.replicate m.pages .absent) m.page x)).status m.page = x := by
  have there : nth1 (set1 (List.replicate m.pages PageStatus.absent) m.page x) m.page = some x :=
    nth1_set1_same x page.1 (by simpa using page.2)
  simp only [SetRecord.status, SetRecord.claimedWith, there, Option.getD_some]

/-- R76: whichever way its first sheet goes, the claim is made, and no other page of the set has left ABSENT. -/
theorem exec_takes_claims (h : s.takes n m j p c) (a : Bool) : ∃ t l, exec (.readerSample false a) s = .next t
    ∧ s.claims j m c p t l ∧ l.length = m.pages
    ∧ ∀ q, q ≠ m.page → (SetRecord.claimedWith j m c p s.co.made l).status q = .absent := by
  have absent (q : Nat) := made_status (j := j) (m := m) (b := c) (p := p) (n := s.co.made) q
  have routed (x : PageStatus) (q : Nat) (other : q ≠ m.page) :
      (SetRecord.claimedWith j m c p s.co.made (set1 (List.replicate m.pages .absent) m.page x)).status q = .absent :=
    (status_setStatus_other (SetRecord.made j m c p s.co.made) x other.symm).trans (absent q)
  by_cases first : m.page = if j.order = .forward then 1 else m.pages
  · obtain ⟨t, read, claims, _⟩ := exec_takes_direct h first a
    exact ⟨t, _, read, claims, by simp, routed _⟩
  · by_cases room : s.rackInService = true ∧ 2 ≤ s.freeRackPockets ∧ s.inletPlaceFree = true
    · obtain ⟨service, two, place⟩ := room
      obtain ⟨k, free⟩ := lowestFree_of_free (s := s) (by omega)
      obtain ⟨t, read, claims, _⟩ := exec_takes_rack h first service free two place a
      exact ⟨t, _, read, claims, by simp, routed _⟩
    · have full : s.rackInService = false ∨ s.freeRackPockets ≤ 1 ∨ s.inletPlaceFree = false := by
        by_contra none
        simp only [not_or, Bool.not_eq_false, not_le] at none
        exact room none
      obtain ⟨t, read, claims, _⟩ := exec_takes_pass h first full a
      exact ⟨t, _, read, claims, by simp, fun q _ => absent q⟩

/-- R28, R33, R36, R105, R135, R139: what the statement says of the claim itself. -/
theorem State.claims.read {l : List PageStatus} (h : s.claims j m c p t l) (bin : s.searchBin = some c) :
    t.binState c = some .assigned ∧ ∀ x, nth1 s.dc.pockets p = some x → ∃ y, nth1 t.dc.pockets p = some y
      ∧ y.binding = some (x.binding.getD m.id.job) ∧ y.refs = x.refs + 1
      ∧ y.committed = x.committed + wholeCost m.pages j.staple ∧ y.lamp = y.lampOf := by
  refine ⟨?_, fun x hx => ⟨_, h.pocket x hx, ?_, rfl, rfl, rfl⟩⟩
  · have available : nth1 s.co.bins c = some .available := by simpa [State.binState] using List.find?_some bin
    obtain ⟨low, high⟩ := mem_numbers_of_nth1 available
    rw [State.binState, h.bins]
    exact nth1_set1_same _ low high
  · change (if x.binding = none then some m.id.job else x.binding) = _
    cases x.binding <;> rfl

end Sys2Proof.Machine

open Sys2Proof Sys2Proof.Machine

/-- Settles O20: `State.claims` holds of the claim made, and the three routes its first sheet can take keep it. -/
theorem claimMadeAtRead : Obligations.ClaimMadeAtRead := by
  refine ⟨?_, ?_, ?_, ?_, ?_, ?_, ?_, ?_, ?_⟩
  · intro s n m j p c a marks open' job undone gate standing new opened may pocket bin
    have takes : s.takes n m j p c := ⟨marks, open', job, undone, gate, standing, new, opened, may, pocket, bin⟩
    obtain ⟨t, l, read, claims, length, rest⟩ := exec_takes_claims takes a
    obtain ⟨assigned, charged⟩ := claims.read bin
    exact ⟨t, read, ⟨_, claims.record, rfl, length, fun q _ => rest q⟩, assigned, claims.pointer, claims.others, claims.claim,
      charged, claims.frame⟩
  · intro s n m j p c a marks open' job undone gate standing new opened may pocket bin first
    have takes : s.takes n m j p c := ⟨marks, open', job, undone, gate, standing, new, opened, may, pocket, bin⟩
    obtain ⟨t, read, claims, gc, hr⟩ := exec_takes_direct takes first a
    exact ⟨t, read, ⟨_, claims.record, routed_status (marks_page marks) _⟩, gc, hr⟩
  · intro s n m j p c a k marks open' job undone gate standing new opened may pocket bin later service free two place
    have takes : s.takes n m j p c := ⟨marks, open', job, undone, gate, standing, new, opened, may, pocket, bin⟩
    obtain ⟨t, read, claims, gc, hr⟩ := exec_takes_rack takes later service free two place a
    exact ⟨t, read, ⟨_, claims.record, routed_status (marks_page marks) _⟩, gc, hr⟩
  · intro s n m j p c a marks open' job undone gate standing new opened may pocket bin later full
    have takes : s.takes n m j p c := ⟨marks, open', job, undone, gate, standing, new, opened, may, pocket, bin⟩
    obtain ⟨t, read, claims, gc, hr, counted⟩ := exec_takes_pass takes later full a
    exact ⟨t, read, ⟨_, claims.record, made_status m.page⟩, gc, hr, counted⟩
  · intro s j
    simp only [mayClaim_iff, one_le_freeBins, headStatus_able, affinity_iff, betterPlaced_iff]
  · intro s j n p x there bound first
    have found : s.boundPocket j.job = some p :=
      find?_places there (by simpa using bound) fun q y below hy => by simpa using first q y below hy
    rw [pocketFor_bound there found, wholeCost_eq]
    exact if_congr (admits_iff x _) rfl rfl
  · intro s j n p x unbound there free empty first
    rw [pocketFor_unbound (boundPocket_none unbound)]
    refine find?_places there (by simp [Pocket.bindable, free, empty]) fun q y below hy => ?_
    simpa [Pocket.bindable] using first q y below hy
  · intro s i inside available first
    have found : (List.range s.co.bins.length).find?
        ((fun b => s.binState b == some .available) ∘ fun i => (s.co.searchPtr - 1 + i) % s.co.bins.length + 1) = some i :=
      List.find?_range_eq_some.mpr ⟨by simpa using available, List.mem_range.mpr inside, fun k hk => by
        simpa using first k hk⟩
    rw [State.searchBin, State.searchOrder, List.find?_map, found]
    rfl
  · intro s j n unbound none
    rw [pocketFor_unbound (boundPocket_none unbound)]
    exact find?_places_none fun y mem => by simpa [Pocket.bindable] using none y mem

end

section
/-! ## Where the sets stand

The bins, the carriage's requests and the jaws against the set table (R29, R32, R117 to R120), and the rack against the page
maps (R54 to R62). Each law is stated over what it reads of the records, set by set, and kept by the few changes that the
operations make to that; an operation is then one or more such changes. -/

namespace Sys2Proof.Machine

/-- The state and the bin of a set's record. -/
abbrev Lodger := SetId → Option (SetState × Option Nat)

def SetRecord.lodging (r : SetRecord) : SetState × Option Nat := (r.state, r.bin)

def State.lodger (s : State) : Lodger := fun i => (s.findSet i).map SetRecord.lodging

/-- R29: the state of a set in a jaw. -/
abbrev SetState.inAJaw (x : SetState) : Prop := x = .inJaw ∨ x = .delivering

/-- R117: the state of the set that a request moves. -/
def CarriageRequest.moves (q : CarriageRequest) : SetState := if q.isUnload then .surrendering else .complete

/-- R29, R32, R35: the bins against the records. -/
structure BinsHold (lodger : Lodger) (bin : Nat → Option BinState) : Prop where
  named : ∀ {i x b}, lodger i = some (x, some b) → bin b = some .assigned ∨ bin b = some .jammed
  alone : ∀ {i j x y b}, lodger i = some (x, some b) → lodger j = some (y, some b) → i = j
  holder : ∀ {b}, bin b = some .assigned → ∃ i x, lodger i = some (x, some b)
  binned : ∀ {i x c}, lodger i = some (x, c) → x = .surrendering ∨ (c.isSome = true ↔ ¬x.inAJaw)

/-- R117, R118: the carriage's requests against the records. -/
structure RequestsHold (lodger : Lodger) (requests : List CarriageRequest) : Prop where
  moves : ∀ q ∈ requests, lodger q.id = some (q.moves, some q.bin)
  one : (requests.map CarriageRequest.id).Nodup

/-- R119, R120: the jaws against the records. -/
structure JawsHold (lodger : Lodger) (carriage : CarriageState) (jaw : JawName → JawState) : Prop where
  loading : ∀ {q j}, carriage = .busy q (some j) → jaw j = .loading q.id
  seated : ∀ {i x c}, lodger i = some (x, c) → x.inAJaw → ∃ j st, jaw j = .holding i st
  jawed : ∀ {i j st}, jaw j = .holding i st → ∃ x c, lodger i = some (x, c) ∧ x.inAJaw
  one : ∀ {i j k st st'}, jaw j = .holding i st → jaw k = .holding i st' → j = k

/-- R29, R32, R34, R35, R117 to R120: the law of the places, set by set. -/
structure State.housed (s : State) : Prop where
  bins : BinsHold s.lodger s.binState
  requests : RequestsHold s.lodger s.carriageRequests
  jaws : JawsHold s.lodger s.sc.carriage s.jaw

/-! ### The view and the state -/

variable {s t : State}

theorem lodger_eq_some {i : SetId} {x : SetState} {c : Option Nat} :
    s.lodger i = some (x, c) ↔ ∃ r, s.findSet i = some r ∧ r.state = x ∧ r.bin = c := by
  simp [State.lodger, SetRecord.lodging]

theorem held_eq_some {x : JawState} {i : SetId} : x.held = some i ↔ ∃ st, x = .holding i st := by
  cases x <;> simp [JawState.held]

theorem mem_setsInJaws {i : SetId} : i ∈ s.setsInJaws ↔ ∃ j st, s.jaw j = .holding i st := by
  simp only [State.setsInJaws, List.mem_filterMap, List.mem_cons, List.not_mem_nil, or_false, held_eq_some]
  constructor
  · rintro ⟨_, rfl | rfl, st, h⟩
    · exact ⟨.a, st, h⟩
    · exact ⟨.b, st, h⟩
  · rintro ⟨j, st, h⟩
    cases j
    · exact ⟨_, .inl rfl, st, h⟩
    · exact ⟨_, .inr rfl, st, h⟩

theorem oneJaw_iff : s.setsInJaws.Nodup ↔
    ∀ {i j k st st'}, s.jaw j = .holding i st → s.jaw k = .holding i st' → j = k := by
  constructor
  · intro h i j k st st' a b
    have apart : ∀ st st', s.sc.jawA = .holding i st → s.sc.jawB ≠ .holding i st' := fun st st' a b => by
      simp [State.setsInJaws, JawState.held, a, b] at h
    cases j <;> cases k
    · rfl
    · exact absurd b (apart _ _ a)
    · exact absurd a (apart _ _ b)
    · rfl
  · intro h
    unfold State.setsInJaws
    cases a : s.sc.jawA.held with
    | none => cases b : s.sc.jawB.held <;> simp [a, b]
    | some i =>
      cases b : s.sc.jawB.held with
      | none => simp [a, b]
      | some k =>
        obtain ⟨st, a'⟩ := held_eq_some.mp a
        obtain ⟨st', b'⟩ := held_eq_some.mp b
        have apart : i ≠ k := by
          rintro rfl
          exact nomatch h (j := .a) (k := .b) a' b'
        simp [a, b, apart]

theorem forall_sets_iff (d : s.distinct) {P : SetRecord → Prop} :
    (∀ r ∈ s.co.sets, P r) ↔ ∀ i r, s.findSet i = some r → P r :=
  ⟨fun h _ r found => h r (findSet_mem found), fun h r m => h r.id r (findSet_of_mem d m)⟩

theorem exists_sets_iff (d : s.distinct) {i : SetId} {P : SetRecord → Prop} :
    (∃ r ∈ s.co.sets, r.id = i ∧ P r) ↔ ∃ r, s.findSet i = some r ∧ P r :=
  ⟨fun ⟨r, m, e, h⟩ => ⟨r, e ▸ findSet_of_mem d m, h⟩, fun ⟨r, found, h⟩ => ⟨r, findSet_mem found, findSet_id found, h⟩⟩

theorem requestSound_iff (d : s.distinct) {q : CarriageRequest} :
    s.requestSound q ↔ s.lodger q.id = some (q.moves, some q.bin) := by
  rw [State.requestSound, exists_sets_iff d, lodger_eq_some]
  unfold CarriageRequest.moves
  exact exists_congr fun r => and_congr_right fun _ => And.comm

theorem oneHolder_iff (d : s.distinct) : s.co.sets.Pairwise (fun q r => q.bin.isSome = true → q.bin ≠ r.bin)
    ↔ ∀ {i j x y b}, s.lodger i = some (x, some b) → s.lodger j = some (y, some b) → i = j := by
  constructor
  · intro h i j x y b hi hj
    obtain ⟨q, foundq, _, binq⟩ := lodger_eq_some.mp hi
    obtain ⟨r, foundr, _, binr⟩ := lodger_eq_some.mp hj
    have symm : Std.Symm fun q r : SetRecord => q.bin.isSome = true → q.bin ≠ r.bin :=
      ⟨fun _ _ h some' same => h (same ▸ some') same.symm⟩
    by_contra other
    have apart : q ≠ r := by
      rintro rfl
      exact other ((findSet_id foundq).symm.trans (findSet_id foundr))
    exact h.forall (findSet_mem foundq) (findSet_mem foundr) apart (by rw [binq]; rfl) (binq.trans binr.symm)
  · intro h
    refine List.Pairwise.imp_of_mem (fun {q r} hq hr apart some' same => apart ?_) d
    obtain ⟨b, bin⟩ := Option.isSome_iff_exists.mp some'
    exact h (lodger_eq_some.mpr ⟨q, findSet_of_mem d hq, rfl, bin⟩)
      (lodger_eq_some.mpr ⟨r, findSet_of_mem d hr, rfl, same.symm.trans bin⟩)

/-- O16's law of the places is the law of the view. -/
theorem placesSound_iff (d : s.distinct) : s.placesSound ↔ s.housed := by
  constructor
  · rintro ⟨binOfRecord, oneHolder, holder, binOfState, requests, oneRequest, loading, jawOfRecord, recordOfJaw, oneJaw⟩
    rw [forall_sets_iff d] at binOfRecord binOfState jawOfRecord
    refine ⟨⟨fun h => ?_, (oneHolder_iff d).mp oneHolder, fun {b} h => ?_, fun h => ?_⟩,
      ⟨fun q m => (requestSound_iff d).mp (requests q m), oneRequest⟩,
      ⟨fun {q j} h => ?_, fun h jaw => ?_, fun h => ?_, oneJaw_iff.mp oneJaw⟩⟩
    · obtain ⟨r, found, _, bin⟩ := lodger_eq_some.mp h
      exact binOfRecord _ r found _ bin
    · have inside := (nth1_isSome_iff s.co.bins b).mp (by rw [show nth1 s.co.bins b = _ from h]; rfl)
      obtain ⟨r, m, bin⟩ := holder b (mem_numbers.mpr inside) h
      exact ⟨r.id, r.state, lodger_eq_some.mpr ⟨r, findSet_of_mem d m, rfl, bin⟩⟩
    · obtain ⟨r, found, rfl, rfl⟩ := lodger_eq_some.mp h
      exact binOfState _ r found
    · have flight : s.carriageInFlight = some q := by simp only [State.carriageInFlight, h]
      exact loading j (by cases j <;> simp) q flight h
    · obtain ⟨r, found, rfl, _⟩ := lodger_eq_some.mp h
      have := jawOfRecord _ r found jaw
      rw [findSet_id found] at this
      exact mem_setsInJaws.mp this
    · obtain ⟨r, m, rfl, jaw⟩ := recordOfJaw _ (mem_setsInJaws.mpr ⟨_, _, h⟩)
      exact ⟨r.state, r.bin, lodger_eq_some.mpr ⟨r, findSet_of_mem d m, rfl, rfl⟩, jaw⟩
  · rintro ⟨⟨named, alone, holder, binned⟩, ⟨moves, oneRequest⟩, ⟨loading, seated, jawed, oneJaw⟩⟩
    have lodger : ∀ {i r}, s.findSet i = some r → s.lodger i = some (r.state, r.bin) :=
      fun found => lodger_eq_some.mpr ⟨_, found, rfl, rfl⟩
    refine ⟨?_, (oneHolder_iff d).mpr alone, fun b _ h => ?_, ?_, fun q m => (requestSound_iff d).mpr (moves q m),
      oneRequest, fun j _ q _ h => loading h, ?_, fun i m => ?_, oneJaw_iff.mpr oneJaw⟩
    · refine (forall_sets_iff d).mpr fun i r found b held => named (i := i) (x := r.state) ?_
      rw [← Option.mem_def.mp held]
      exact lodger found
    · obtain ⟨i, x, h⟩ := holder h
      obtain ⟨r, found, _, bin⟩ := lodger_eq_some.mp h
      exact ⟨r, findSet_mem found, bin⟩
    · exact (forall_sets_iff d).mpr fun i r found => binned (lodger found)
    · refine (forall_sets_iff d).mpr fun i r found jaw => mem_setsInJaws.mpr ?_
      rw [findSet_id found]
      exact seated (lodger found) jaw
    · obtain ⟨j, st, h⟩ := mem_setsInJaws.mp m
      obtain ⟨x, c, h, jaw⟩ := jawed h
      obtain ⟨r, found, rfl, _⟩ := lodger_eq_some.mp h
      exact ⟨r, findSet_mem found, findSet_id found, jaw⟩

/-! ### The bins: the changes the operations make -/

section
variable {lodger : Lodger} {bin bin' : Nat → Option BinState} {i : SetId} {x y : SetState} {b : Nat} {c : Option Nat}

theorem BinsHold.restate (h : BinsHold lodger bin) (was : lodger i = some (x, c))
    (binned : y = .surrendering ∨ (c.isSome = true ↔ ¬y.inAJaw)) : BinsHold (Function.update lodger i (some (y, c))) bin := by
  obtain ⟨named, alone, holder, binned'⟩ := h
  refine ⟨?_, ?_, ?_, ?_⟩ <;> simp only [Function.update_apply] <;> grind

/-- R34, R35: the record gives up its bin, which no longer is ASSIGNED. -/
theorem BinsHold.giveUp (h : BinsHold lodger bin) (was : lodger i = some (x, some b))
    (state : y = .surrendering ∨ y.inAJaw) (given : bin' b ≠ some .assigned) (others : ∀ d, d ≠ b → bin' d = bin d) :
    BinsHold (Function.update lodger i (some (y, none))) bin' := by
  obtain ⟨named, alone, holder, binned⟩ := h
  refine ⟨?_, ?_, ?_, ?_⟩ <;> simp only [Function.update_apply] <;> grind

theorem BinsHold.remove (h : BinsHold lodger bin) (was : lodger i = some (x, none)) :
    BinsHold (Function.update lodger i none) bin := by
  obtain ⟨named, alone, holder, binned⟩ := h
  refine ⟨?_, ?_, ?_, ?_⟩ <;> simp only [Function.update_apply] <;> grind

theorem BinsHold.claim (h : BinsHold lodger bin) (new : lodger i = none) (available : bin b = some .available) :
    BinsHold (Function.update lodger i (some (.claiming, some b))) (Function.update bin b (some .assigned)) := by
  obtain ⟨named, alone, holder, binned⟩ := h
  have own : Function.update lodger i (some (.claiming, some b)) i = some (.claiming, some b) := Function.update_self ..
  refine ⟨?_, ?_, fun {d} e => ?_, ?_⟩
  case refine_3 =>
    by_cases same : d = b
    · exact ⟨i, .claiming, same ▸ own⟩
    · rw [Function.update_of_ne same] at e
      obtain ⟨j, x, held⟩ := holder e
      exact ⟨j, x, by rw [Function.update_of_ne (fun k => by rw [k, new] at held; cases held)]; exact held⟩
  all_goals simp only [Function.update_apply]; grind

/-- R35: a bin is JAMMED. -/
theorem BinsHold.jam (h : BinsHold lodger bin) : BinsHold lodger (Function.update bin b (some .jammed)) := by
  obtain ⟨named, alone, holder, binned⟩ := h
  refine ⟨?_, alone, ?_, binned⟩ <;> simp only [Function.update_apply] <;> grind

/-- R34: a bin that no record names is AVAILABLE. -/
theorem BinsHold.clear (h : BinsHold lodger bin) (unheld : ∀ i x, lodger i ≠ some (x, some b)) :
    BinsHold lodger (Function.update bin b (some .available)) := by
  obtain ⟨named, alone, holder, binned⟩ := h
  refine ⟨?_, alone, ?_, binned⟩ <;> simp only [Function.update_apply] <;> grind

end

/-! ### The carriage's requests: the changes the operations make -/

section
variable {lodger : Lodger} {l m : List CarriageRequest} {i : SetId} {q : CarriageRequest}

theorem RequestsHold.fewer (h : RequestsHold lodger l) (sub : m.Sublist l) : RequestsHold lodger m :=
  ⟨fun q hq => h.moves q (sub.subset hq), h.one.sublist (sub.map _)⟩

theorem RequestsHold.join (h : RequestsHold lodger l) (moves : lodger q.id = some (q.moves, some q.bin))
    (first : ∀ p ∈ l, p.id ≠ q.id) : RequestsHold lodger (l ++ [q]) := by
  refine ⟨fun p hp => ?_, ?_⟩
  · obtain hp | hp := List.mem_append.mp hp
    · exact h.moves p hp
    · rw [List.mem_singleton.mp hp]
      exact moves
  · rw [List.map_append, List.map_singleton, List.nodup_append]
    refine ⟨h.one, List.nodup_singleton _, ?_⟩
    simpa using first

theorem RequestsHold.rewrite {z : Option (SetState × Option Nat)} (h : RequestsHold lodger l) (none : ∀ p ∈ l, p.id ≠ i) :
    RequestsHold (Function.update lodger i z) l :=
  ⟨fun q hq => by rw [Function.update_of_ne (none q hq)]; exact h.moves q hq, h.one⟩

end

/-! ### The jaws: the changes the operations make -/

section
variable {lodger : Lodger} {carriage carriage' : CarriageState} {jaw : JawName → JawState} {i : SetId} {j : JawName}
  {q : CarriageRequest} {x y : SetState} {c d : Option Nat} {st st' : Stapling}

/-- A record that is in no jaw changes into another, or joins or leaves the table. -/
theorem JawsHold.rewrite {z : Option (SetState × Option Nat)} (h : JawsHold lodger carriage jaw)
    (was : ∀ x c, lodger i = some (x, c) → ¬x.inAJaw) (now : ∀ x c, z = some (x, c) → ¬x.inAJaw) :
    JawsHold (Function.update lodger i z) carriage jaw := by
  obtain ⟨loading, seated, jawed, one⟩ := h
  refine ⟨loading, ?_, ?_, one⟩ <;> simp only [Function.update_apply] <;> grind

/-- R128: a set in a jaw stays in it. -/
theorem JawsHold.restate (h : JawsHold lodger carriage jaw) (was : lodger i = some (x, c)) (seated : x.inAJaw)
    (now : y.inAJaw) : JawsHold (Function.update lodger i (some (y, d))) carriage jaw := by
  obtain ⟨loading, seated, jawed, one⟩ := h
  refine ⟨loading, ?_, ?_, one⟩ <;> simp only [Function.update_apply] <;> grind

/-- The carriage is no longer BUSY, or loads what it loaded. -/
theorem JawsHold.drive (h : JawsHold lodger carriage jaw)
    (same : ∀ q j, carriage' = .busy q (some j) → carriage = .busy q (some j)) : JawsHold lodger carriage' jaw :=
  ⟨fun e => h.loading (same _ _ e), h.seated, h.jawed, h.one⟩

/-- R118, R119: a request starts, with a FREE jaw to load. -/
theorem JawsHold.load (h : JawsHold lodger carriage jaw) (free : jaw j = .free) :
    JawsHold lodger (.busy q (some j)) (Function.update jaw j (.loading q.id)) := by
  obtain ⟨loading, seated, jawed, one⟩ := h
  refine ⟨?_, ?_, ?_, ?_⟩ <;> simp only [Function.update_apply] <;> grind

/-- R120: the set that was being loaded is in its jaw. -/
theorem JawsHold.seat (h : JawsHold lodger (.busy q (some j)) jaw) (was : lodger q.id = some (x, c)) (out : ¬x.inAJaw)
    (now : y.inAJaw) : JawsHold (Function.update lodger q.id (some (y, d))) .idle (Function.update jaw j (.holding q.id st)) := by
  obtain ⟨loading, seated, jawed, one⟩ := h
  have was' := loading rfl
  refine ⟨nofun, fun {i z e} a inside => ?_, ?_, ?_⟩
  · by_cases own : i = q.id
    · exact ⟨j, st, by rw [own, Function.update_self]⟩
    · rw [Function.update_of_ne own] at a
      obtain ⟨k, st', holding⟩ := seated a inside
      exact ⟨k, st', by rw [Function.update_of_ne fun same => by rw [same, was'] at holding; cases holding]; exact holding⟩
  all_goals simp only [Function.update_apply]; grind

/-- R128, R130: the set in a jaw leaves the table, and the jaw holds and loads none. -/
theorem JawsHold.leave {z : JawState} (h : JawsHold lodger carriage jaw) (holding : jaw j = .holding i st)
    (now : z.held = none) : JawsHold (Function.update lodger i none) carriage (Function.update jaw j z) := by
  obtain ⟨loading, seated, jawed, one⟩ := h
  refine ⟨?_, ?_, ?_, ?_⟩ <;> simp only [Function.update_apply] <;> grind [JawState.held]

/-- R123, R125: what SC keeps with the set in a jaw changes. -/
theorem JawsHold.rehold (h : JawsHold lodger carriage jaw) (holding : jaw j = .holding i st) :
    JawsHold lodger carriage (Function.update jaw j (.holding i st')) := by
  obtain ⟨loading, seated, jawed, one⟩ := h
  refine ⟨?_, ?_, ?_, ?_⟩ <;> simp only [Function.update_apply] <;> grind

/-- R119: an OCCUPIED jaw is FREE. -/
theorem JawsHold.vacate (h : JawsHold lodger carriage jaw) (occupied : jaw j = .occupied) :
    JawsHold lodger carriage (Function.update jaw j .free) := by
  obtain ⟨loading, seated, jawed, one⟩ := h
  refine ⟨?_, ?_, ?_, ?_⟩ <;> simp only [Function.update_apply] <;> grind

end

end Sys2Proof.Machine
end

section
/-! ## The rack against the page maps (R30, R54 to R62, R67) -/

namespace Sys2Proof.Machine

/-- The records of the sets, as `findSet` reads them. -/
abbrev Table := SetId → Option SetRecord

def Table.page (g : Table) (i : SetId) (p : Nat) : PageStatus := ((g i).map (fun r => r.status p)).getD .absent

def Table.number (g : Table) (i : SetId) : Option Nat := (g i).map SetRecord.record

/-- The rack pocket a page is for, and whether its sheet lies in it. -/
def PageStatus.shelf : PageStatus → Option (Nat × Bool)
  | .inboundRack k => some (k, false)
  | .held k | .releasing k => some (k, true)
  | .absent | .inboundBin | .placed => none

/-- The page a rack pocket is for, and whether its sheet lies in it. -/
def PocketState.sheet : PocketState → Option (SetId × Nat × Bool)
  | .reserved i p => some (i, p, false)
  | .holding i p => some (i, p, true)
  | .free | .occupied => none

def Rack.sheet (h : Rack) (k : Nat) : Option (SetId × Nat × Bool) := (nth1 h.pockets k).bind PocketState.sheet

/-- A page that an approach entry, the inlet or a release may be for. -/
def PageStatus.awaited : PageStatus → Bool
  | .inboundBin | .inboundRack _ | .releasing _ => true
  | .absent | .held _ | .placed => false

/-- R54 Notes: the pockets and the pages name each other. -/
def Shelved (g : Table) (h : Rack) : Prop := ∀ k i p b, h.sheet k = some (i, p, b) ↔ (g.page i p).shelf = some (k, b)

/-- R40, R41: the page of an entry is inbound as its action says, in the record the entry was made for. -/
def Entry.sound (g : Table) (e : Entry) : Prop :=
  match e.action with
  | .bin _ => ∃ t, e.target = some t ∧ g.number t.id = some t.record ∧ g.page t.id t.page = .inboundBin
  | .rack k => ∃ t, e.target = some t ∧ g.number t.id = some t.record ∧ g.page t.id t.page = .inboundRack k
  | .pass | .reject | .fill => True

/-- R54 to R62: the entries `l`, the inlet and the releases are those of pages on their way, one each. -/
structure Served (g : Table) (h : Rack) (l : List Entry) : Prop where
  entries : ∀ e ∈ l, e.sound g
  oneEntry : (l.filterMap Entry.diverts).Nodup
  reserved : h.inletReserved = (l.filterMap Entry.rackPocket).length
  room : h.inletReserved + h.inlet.length ≤ 2
  inlet : ∀ x ∈ h.inlet, g.page x.id x.page = .inboundRack x.pocket
  oneSheet : (l.filterMap Entry.rackPocket ++ h.inlet.map InletSheet.pocket).Nodup
  store : h.storing = h.inlet.take h.storing.length
  releases : ∀ x ∈ h.allReleases, g.page x.id x.page = .releasing x.pocket
  oneRelease : (h.allReleases.map Release.pocket).Nodup

/-- R49, R51: the states with nothing on its way. -/
abbrev SetState.ended (x : SetState) : Prop := x = .complete ∨ x.inAJaw

/-- R29, R30, R49: what a record keeps of its pages. -/
structure SetRecord.filed (half : Nat) (service : Prop) (r : SetRecord) : Prop where
  whole : r.map.length = r.pages
  share : r.share ≤ half
  ended : service → r.state.ended → r.anyPage PageStatus.moving = false

abbrev Rack.inService (h : Rack) : Prop := h.rack ≠ .outOfService

/-- R30, R54 to R62, R67: the law of the rack, with the approach entries and the gate operation in flight `l`. -/
structure Racks (g : Table) (half : Nat) (h : Rack) (l : List Entry) : Prop where
  filed : ∀ {i r}, g i = some r → r.filed half h.inService
  shelved : Shelved g h
  served : h.inService → Served g h l
  emptied : h.rack = .outOfService → h.emptied

/-- Page `p` of set `i` turns to `y`, and nothing else that the rack's law reads of the records changes. -/
structure Table.turns (g : Table) (i : SetId) (p : Nat) (y : PageStatus) (g' : Table) : Prop where
  number : ∀ j, g'.number j = g.number j
  here : g'.page i p = y
  elsewhere : ∀ j q, ¬(j = i ∧ q = p) → g'.page j q = g.page j q

section
variable {g g' : Table} {h h' : Rack} {l l' : List Entry} {e : Entry} {i : SetId} {p k : Nat} {b b' : Bool} {y : PageStatus}

/-! ### The pockets -/

theorem Shelved.same (s : Shelved g h) (pages : ∀ i p, (g'.page i p).shelf = (g.page i p).shelf)
    (pockets : ∀ k, h'.sheet k = h.sheet k) : Shelved g' h' := fun k i p b => by
  rw [pockets, pages]
  exact s k i p b

/-- A page leaves the rack with its pocket, or comes to it, or its sheet comes into it. -/
theorem Shelved.turn {x : Option (SetId × Nat × Bool)} (s : Shelved g h) (turns : g.turns i p y g')
    (others : ∀ j, j ≠ k → h'.sheet j = h.sheet j) (pocket : h'.sheet k = x)
    (was : h.sheet k = none ∧ (g.page i p).shelf = none ∨ ∃ b, h.sheet k = some (i, p, b))
    (now : x = none ∧ y.shelf = none ∨ ∃ b, x = some (i, p, b) ∧ y.shelf = some (k, b)) : Shelved g' h' := by
  obtain ⟨_, here, elsewhere⟩ := turns
  intro j i' p' b'
  have before := s j i' p' b'
  have own := fun b => s k i p b
  by_cases page : i' = i ∧ p' = p
  · obtain ⟨rfl, rfl⟩ := page
    grind
  · rw [elsewhere _ _ page]
    grind

/-! ### The entries, the inlet and the releases -/

/-- What the law of the entries reads of the rack. -/
def Rack.desk (h : Rack) : Nat × List InletSheet × List InletSheet × List Release :=
  (h.inletReserved, h.inlet, h.storing, h.allReleases)

def Entry.diverting (e : Entry) : Bool :=
  match e.action with
  | .bin _ | .rack _ => true
  | .pass | .reject | .fill => false

theorem Entry.sound.restate (s : e.sound g)
    (pages : ∀ i p, (g.page i p).awaited = true → g'.page i p = g.page i p ∧ g'.number i = g.number i) : e.sound g' := by
  unfold Entry.sound at s ⊢
  split at s
  · obtain ⟨t, target, number, page⟩ := s
    obtain ⟨page', number'⟩ := pages t.id t.page (by rw [page]; rfl)
    exact ⟨t, target, number'.trans number, page'.trans page⟩
  · obtain ⟨t, target, number, page⟩ := s
    obtain ⟨page', number'⟩ := pages t.id t.page (by rw [page]; rfl)
    exact ⟨t, target, number'.trans number, page'.trans page⟩
  all_goals trivial

/-- The pages that are awaited stay as they are. -/
theorem Served.restate (s : Served g h l) (desk : h'.desk = h.desk)
    (pages : ∀ i p, (g.page i p).awaited = true → g'.page i p = g.page i p ∧ g'.number i = g.number i) : Served g' h' l := by
  simp only [Rack.desk, Prod.mk.injEq] at desk
  obtain ⟨reserved', inlet', storing', releases'⟩ := desk
  obtain ⟨entries, oneEntry, reserved, room, inlet, oneSheet, store, releases, oneRelease⟩ := s
  refine ⟨fun e m => (entries e m).restate pages, oneEntry, by rw [reserved', reserved], by rw [reserved', inlet']; exact room,
    fun x m => ?_, by rw [inlet']; exact oneSheet, by rw [storing', inlet']; exact store, fun x m => ?_,
    by rw [releases']; exact oneRelease⟩
  · have page := inlet x (inlet' ▸ m)
    rw [(pages _ _ (by rw [page]; rfl)).1, page]
  · have page := releases x (releases' ▸ m)
    rw [(pages _ _ (by rw [page]; rfl)).1, page]

theorem filterMap_diverting {α : Type} {f : Entry → Option α} (none : ∀ e, e.diverting = false → f e = none) (l : List Entry) :
    l.filterMap f = (l.filter Entry.diverting).filterMap f := by
  rw [List.filterMap_filter]
  refine List.filterMap_congr fun e _ => ?_
  split
  · rfl
  · rename_i not
    exact none e (by simpa using not)

theorem diverts_of_not {e : Entry} (h : e.diverting = false) : e.diverts = none := by
  unfold Entry.diverting at h
  unfold Entry.diverts
  split at h <;> simp_all

theorem rackPocket_of_not {e : Entry} (h : e.diverting = false) : e.rackPocket = none := by
  unfold Entry.diverting at h
  unfold Entry.rackPocket
  split at h <;> simp_all

theorem sound_of_not {e : Entry} (h : e.diverting = false) : e.sound g := by
  unfold Entry.diverting at h
  unfold Entry.sound
  split at h <;> simp_all

/-- The entries that divert a sheet to the bin or to the rack are all that the law reads, in any order. -/
theorem Served.perm (s : Served g h l) (same : (l.filter Entry.diverting).Perm (l'.filter Entry.diverting)) :
    Served g h l' := by
  obtain ⟨entries, oneEntry, reserved, room, inlet, oneSheet, store, releases, oneRelease⟩ := s
  rw [filterMap_diverting fun _ => diverts_of_not] at oneEntry
  rw [filterMap_diverting fun _ => rackPocket_of_not] at reserved oneSheet
  have pockets := same.filterMap Entry.rackPocket
  refine ⟨fun e m => ?_, ?_, ?_, room, inlet, ?_, store, releases, oneRelease⟩
  · cases kind : e.diverting with
    | false => exact sound_of_not kind
    | true => exact entries e (List.mem_filter.mp (same.mem_iff.mpr (List.mem_filter.mpr ⟨m, kind⟩))).1
  · rw [filterMap_diverting fun _ => diverts_of_not]
    exact (same.filterMap _).nodup_iff.mp oneEntry
  · rw [filterMap_diverting fun _ => rackPocket_of_not, reserved]
    exact pockets.length_eq
  · rw [filterMap_diverting fun _ => rackPocket_of_not]
    exact (pockets.append_right _).nodup_iff.mp oneSheet

/-- A diverting entry names the record and the page it was made for. -/
theorem Entry.sound.page (s : e.sound g) {t : PageRef} (d : e.diverts = some t) :
    g.number t.id = some t.record ∧ ((∃ b, e.action = .bin b ∧ g.page t.id t.page = .inboundBin)
      ∨ ∃ k, e.action = .rack k ∧ g.page t.id t.page = .inboundRack k) := by
  unfold Entry.sound at s
  unfold Entry.diverts at d
  split at s
  · rename_i b action
    rw [action] at d
    obtain ⟨u, target, number, page⟩ := s
    obtain rfl : u = t := Option.some.inj (target.symm.trans d)
    exact ⟨number, .inl ⟨b, action, page⟩⟩
  · rename_i k action
    rw [action] at d
    obtain ⟨u, target, number, page⟩ := s
    obtain rfl : u = t := Option.some.inj (target.symm.trans d)
    exact ⟨number, .inr ⟨k, action, page⟩⟩
  all_goals rename_i action; rw [action] at d; cases d

/-- The page of another entry turns. -/
theorem Entry.sound.turn (s : e.sound g) (turns : g.turns i p y g')
    (other : ∀ t, e.diverts = some t → ¬(t.id = i ∧ t.page = p)) : e.sound g' := by
  obtain ⟨number', _, elsewhere⟩ := turns
  unfold Entry.diverts at other
  unfold Entry.sound at s ⊢
  split at s
  · rename_i action
    rw [action] at other
    obtain ⟨t, target, number, page⟩ := s
    exact ⟨t, target, (number' _).trans number, (elsewhere _ _ (other t target)).trans page⟩
  · rename_i action
    rw [action] at other
    obtain ⟨t, target, number, page⟩ := s
    exact ⟨t, target, (number' _).trans number, (elsewhere _ _ (other t target)).trans page⟩
  all_goals trivial

/-- The pages of the entries, the inlet's sheets and the releases are apart. -/
theorem Served.apart (s : Served g h (e :: l)) {t : PageRef} (d : e.diverts = some t) :
    (∀ f ∈ l, ∀ u, f.diverts = some u → ¬(u.id = t.id ∧ u.page = t.page))
      ∧ (∀ x ∈ h.inlet, ¬(x.id = t.id ∧ x.page = t.page)) ∧ ∀ x ∈ h.allReleases, ¬(x.id = t.id ∧ x.page = t.page) := by
  obtain ⟨number, page⟩ := (s.entries e (List.mem_cons_self ..)).page d
  have oneEntry := s.oneEntry
  rw [List.filterMap_cons_some d, List.nodup_cons] at oneEntry
  refine ⟨fun f m u du ⟨id, pg⟩ => oneEntry.1 (List.mem_filterMap.mpr ⟨f, m, ?_⟩), fun x m ⟨id, pg⟩ => ?_,
    fun x m ⟨id, pg⟩ => ?_⟩
  · have number' := ((s.entries f (List.mem_cons_of_mem _ m)).page du).1
    rw [id, number] at number'
    obtain ⟨i, p, n⟩ := t
    obtain ⟨i', p', n'⟩ := u
    cases id; cases pg; cases number'
    exact du
  · have inlet := s.inlet x m
    rw [id, pg] at inlet
    obtain ⟨b, _, bin⟩ | ⟨k, action, rack⟩ := page
    · rw [bin] at inlet; cases inlet
    · rw [rack] at inlet
      cases inlet
      have sheets := s.oneSheet
      rw [List.filterMap_cons_some (b := x.pocket) (by rw [Entry.rackPocket, action]), List.cons_append, List.nodup_cons] at sheets
      exact sheets.1 (List.mem_append_right _ (List.mem_map_of_mem m))
  · have release := s.releases x m
    rw [id, pg] at release
    obtain ⟨b, _, bin⟩ | ⟨k, _, rack⟩ := page
    · rw [bin] at release; cases release
    · rw [rack] at release; cases release

/-- R13, R43, R44: an entry goes, and its page turns. -/
theorem Served.drop {t : PageRef} (s : Served g h (e :: l)) (d : e.diverts = some t) (turns : g.turns t.id t.page y g')
    (reserved' : h'.inletReserved = h.inletReserved - e.rackPocket.toList.length) (inlet' : h'.inlet = h.inlet)
    (storing' : h'.storing = h.storing) (releases' : h'.allReleases = h.allReleases) : Served g' h' l := by
  obtain ⟨entriesApart, inletApart, releasesApart⟩ := s.apart d
  obtain ⟨entries, oneEntry, reserved, room, inlet, oneSheet, store, releases, oneRelease⟩ := s
  have own : (e :: l).filterMap Entry.rackPocket = e.rackPocket.toList ++ l.filterMap Entry.rackPocket := by
    cases pocket : e.rackPocket with
    | none => rw [List.filterMap_cons_none pocket]; rfl
    | some k => rw [List.filterMap_cons_some pocket]; rfl
  rw [own, List.length_append] at reserved
  rw [own, List.append_assoc] at oneSheet
  refine ⟨fun f m => (entries f (List.mem_cons_of_mem _ m)).turn turns (entriesApart f m), ?_, by omega,
    by rw [inlet']; omega, fun x m => ?_, by rw [inlet']; exact oneSheet.of_append_right, by rw [storing', inlet']; exact store,
    fun x m => ?_, by rw [releases']; exact oneRelease⟩
  · rw [List.filterMap_cons_some d] at oneEntry
    exact oneEntry.of_cons
  · rw [inlet'] at m
    rw [turns.elsewhere _ _ (inletApart x m)]
    exact inlet x m
  · rw [releases'] at m
    rw [turns.elsewhere _ _ (releasesApart x m)]
    exact releases x m

/-- R16, R58: a RACK operation's sheet comes into the inlet. -/
theorem Served.divert {x : InletSheet} (s : Served g h (e :: l)) (pocket : e.rackPocket = some x.pocket)
    (page : g.page x.id x.page = .inboundRack x.pocket) (reserved' : h'.inletReserved = h.inletReserved - 1)
    (inlet' : h'.inlet = h.inlet ++ [x]) (storing' : h'.storing = h.storing) (releases' : h'.allReleases = h.allReleases)
    (full : h.storing.length ≤ h.inlet.length) : Served g h' l := by
  obtain ⟨entries, oneEntry, reserved, room, inlet, oneSheet, store, releases, oneRelease⟩ := s
  rw [List.filterMap_cons_some pocket] at reserved oneSheet
  rw [List.length_cons] at reserved
  refine ⟨fun f m => entries f (List.mem_cons_of_mem _ m), ?_, by omega, ?_, fun z m => ?_, ?_, ?_, fun z m => ?_, ?_⟩
  · cases d : e.diverts with
    | none => rw [List.filterMap_cons_none d] at oneEntry; exact oneEntry
    | some t => rw [List.filterMap_cons_some d] at oneEntry; exact oneEntry.of_cons
  · rw [inlet', List.length_append, List.length_singleton]
    omega
  · rw [inlet'] at m
    obtain m | m := List.mem_append.mp m
    · exact inlet z m
    · rw [List.mem_singleton.mp m]
      exact page
  · rw [inlet', List.map_append, ← List.append_assoc]
    exact (List.perm_append_singleton _ _).nodup_iff.mpr oneSheet
  · rw [storing', inlet', List.take_append_of_le_length full]
    exact store
  · exact releases z (releases' ▸ m)
  · rw [releases']
    exact oneRelease

/-- R61: the oldest sheet of the inlet is stored, and its page turns. -/
theorem Served.stored {x : InletSheet} {rest : List InletSheet} (s : Served g h l) (head : h.inlet = x :: rest)
    (turns : g.turns x.id x.page y g') (reserved' : h'.inletReserved = h.inletReserved) (inlet' : h'.inlet = rest)
    (storing' : h'.storing = []) (releases' : h'.allReleases = h.allReleases) : Served g' h' l := by
  obtain ⟨entries, oneEntry, reserved, room, inlet, oneSheet, store, releases, oneRelease⟩ := s
  have own := inlet x (head ▸ List.mem_cons_self ..)
  rw [head, List.map_cons, List.nodup_append] at oneSheet
  obtain ⟨oneRack, oneInlet, apart⟩ := oneSheet
  rw [List.nodup_cons] at oneInlet
  refine ⟨fun f m => (entries f m).turn turns fun t d same => ?_, oneEntry, reserved' ▸ reserved, ?_, fun z m => ?_, ?_,
    by rw [storing', inlet']; rfl, fun z m => ?_, releases' ▸ oneRelease⟩
  · obtain ⟨_, page⟩ := (entries f m).page d
    rw [same.1, same.2, own] at page
    obtain ⟨_, _, bin⟩ | ⟨k, action, rack⟩ := page
    · cases bin
    · cases rack
      exact apart _ (List.mem_filterMap.mpr ⟨f, m, by rw [Entry.rackPocket, action]⟩) _ (List.mem_cons_self ..) rfl
  · rw [head, List.length_cons] at room
    rw [reserved', inlet']
    omega
  · rw [inlet'] at m
    have page := inlet z (head ▸ List.mem_cons_of_mem _ m)
    rw [turns.elsewhere _ _ fun same => ?_]
    · exact page
    · rw [same.1, same.2, own] at page
      injection page with pocket
      exact oneInlet.1 (List.mem_map.mpr ⟨z, m, pocket.symm⟩)
  · rw [inlet', List.nodup_append]
    exact ⟨oneRack, oneInlet.2, fun a ha b hb => apart a ha b (List.mem_cons_of_mem _ hb)⟩
  · rw [releases'] at m
    have page := releases z m
    rw [turns.elsewhere _ _ fun same => ?_]
    · exact page
    · rw [same.1, same.2, own] at page
      cases page

/-- R65: a release is done, and its page turns. -/
theorem Served.released {x : Release} {rest : List Release} (s : Served g h l) (head : h.allReleases = x :: rest)
    (turns : g.turns x.id x.page y g') (reserved' : h'.inletReserved = h.inletReserved) (inlet' : h'.inlet = h.inlet)
    (storing' : h'.storing = h.storing) (releases' : h'.allReleases = rest) : Served g' h' l := by
  obtain ⟨entries, oneEntry, reserved, room, inlet, oneSheet, store, releases, oneRelease⟩ := s
  have own := releases x (head ▸ List.mem_cons_self ..)
  rw [head, List.map_cons, List.nodup_cons] at oneRelease
  refine ⟨fun f m => (entries f m).turn turns fun t d same => ?_, oneEntry, reserved' ▸ reserved, ?_, fun z m => ?_, ?_,
    by rw [storing', inlet']; exact store, fun z m => ?_, releases' ▸ oneRelease.2⟩
  · obtain ⟨_, page⟩ := (entries f m).page d
    rw [same.1, same.2, own] at page
    obtain ⟨_, _, bin⟩ | ⟨k, action, rack⟩ := page
    · cases bin
    · cases rack
  · rw [reserved', inlet']
    exact room
  · rw [inlet'] at m
    have page := inlet z m
    rw [turns.elsewhere _ _ fun same => ?_]
    · exact page
    · rw [same.1, same.2, own] at page
      cases page
  · rw [inlet']
    exact oneSheet
  · rw [releases'] at m
    have page := releases z (head ▸ List.mem_cons_of_mem _ m)
    rw [turns.elsewhere _ _ fun same => ?_]
    · exact page
    · rw [same.1, same.2, own] at page
      injection page with pocket
      exact oneRelease.1 (List.mem_map.mpr ⟨z, m, pocket.symm⟩)

/-- R45, R47: a HELD page is released. -/
theorem Served.release {x : Release} (s : Served g h l) (shelved : Shelved g h) (held : g.page x.id x.page = .held x.pocket)
    (turns : g.turns x.id x.page (.releasing x.pocket) g') (reserved' : h'.inletReserved = h.inletReserved)
    (inlet' : h'.inlet = h.inlet) (storing' : h'.storing = h.storing) (releases' : h'.allReleases = h.allReleases ++ [x]) :
    Served g' h' l := by
  have pages : ∀ i p, (g.page i p).awaited = true → g'.page i p = g.page i p ∧ g'.number i = g.number i := fun i p awaited =>
    ⟨turns.elsewhere i p fun same => (by rw [same.1, same.2, held] at awaited; cases awaited), turns.number i⟩
  have fresh : ∀ z ∈ h.allReleases, z.pocket ≠ x.pocket := fun z m same => by
    have page := s.releases z m
    have own := (shelved x.pocket z.id z.page true).mpr (by rw [page, ← same]; rfl)
    rw [(shelved x.pocket x.id x.page true).mpr (by rw [held]; rfl)] at own
    injection own with own
    injection own with id own
    injection own with pg
    rw [← id, ← pg, held] at page
    cases page
  obtain ⟨entries, oneEntry, reserved, room, inlet, oneSheet, store, releases, oneRelease⟩ :=
    s.restate (h' := h) rfl pages
  refine ⟨entries, oneEntry, reserved' ▸ reserved, ?_, inlet' ▸ inlet, inlet' ▸ oneSheet, ?_, fun z m => ?_, ?_⟩
  · rw [reserved', inlet']; exact room
  · rw [storing', inlet']; exact store
  · rw [releases'] at m
    obtain m | m := List.mem_append.mp m
    · exact releases z m
    · rw [List.mem_singleton.mp m]
      exact turns.here
  · rw [releases', List.map_append, List.nodup_append]
    refine ⟨oneRelease, List.nodup_singleton _, ?_⟩
    simpa using fresh

/-- R11, R40, R41: an entry is made for an ABSENT page. -/
theorem Served.join {t : PageRef} (s : Served g h l) (shelved : Shelved g h) (d : e.diverts = some t)
    (absent : g.page t.id t.page = .absent) (number : g.number t.id = some t.record) (turns : g.turns t.id t.page y g')
    (kind : (∃ b, e.action = .bin b ∧ y = .inboundBin) ∨ ∃ k, e.action = .rack k ∧ y = .inboundRack k)
    (free : ∀ k ∈ e.rackPocket, h.sheet k = none)
    (reserved' : h'.inletReserved = h.inletReserved + e.rackPocket.toList.length)
    (room' : h'.inletReserved + h.inlet.length ≤ 2) (inlet' : h'.inlet = h.inlet) (storing' : h'.storing = h.storing)
    (releases' : h'.allReleases = h.allReleases) : Served g' h' (e :: l) := by
  have pages : ∀ i p, (g.page i p).awaited = true → g'.page i p = g.page i p ∧ g'.number i = g.number i := fun i p awaited =>
    ⟨turns.elsewhere i p fun same => (by rw [same.1, same.2, absent] at awaited; cases awaited), turns.number i⟩
  have target : e.target = some t := by
    obtain ⟨_, action, _⟩ | ⟨_, action, _⟩ := kind <;> simpa [Entry.diverts, action] using d
  have sound : e.sound g' := by
    unfold Entry.sound
    obtain ⟨_, action, rfl⟩ | ⟨_, action, rfl⟩ := kind <;> rw [action] <;>
      exact ⟨t, target, (turns.number _).trans number, turns.here⟩
  have own : (e :: l).filterMap Entry.rackPocket = e.rackPocket.toList ++ l.filterMap Entry.rackPocket := by
    cases pocket : e.rackPocket with
    | none => rw [List.filterMap_cons_none pocket]; rfl
    | some k => rw [List.filterMap_cons_some pocket]; rfl
  have apart : ∀ f ∈ l, f.diverts ≠ some t := fun f m d' => by
    obtain ⟨_, ⟨_, _, page⟩ | ⟨_, _, page⟩⟩ := (s.entries f m).page d' <;> rw [absent] at page <;> cases page
  have emptyPocket : ∀ k ∈ e.rackPocket, (∀ f ∈ l, f.rackPocket ≠ some k) ∧ ∀ x ∈ h.inlet, x.pocket ≠ k := fun k m => by
    have none := free k m
    refine ⟨fun f mf pocket => ?_, fun x mx same => ?_⟩
    · have sound := s.entries f mf
      unfold Entry.sound at sound
      unfold Entry.rackPocket at pocket
      split at pocket
      · rename_i action
        cases pocket
        rw [action] at sound
        obtain ⟨u, _, _, page⟩ := sound
        have := (shelved k u.id u.page false).mpr (by rw [page]; rfl)
        rw [none] at this
        cases this
      all_goals cases pocket
    · have := (shelved x.pocket x.id x.page false).mpr (by rw [s.inlet x mx]; rfl)
      rw [same, none] at this
      cases this
  obtain ⟨entries, oneEntry, reserved, room, inlet, oneSheet, store, releases, oneRelease⟩ :=
    s.restate (h' := h) rfl pages
  refine ⟨fun f m => ?_, ?_, ?_, by rw [inlet']; exact room', inlet' ▸ inlet, ?_, by rw [storing', inlet']; exact store,
    releases' ▸ releases, releases' ▸ oneRelease⟩
  · obtain rfl | m := List.mem_cons.mp m
    · exact sound
    · exact entries f m
  · rw [List.filterMap_cons_some d, List.nodup_cons]
    refine ⟨fun m => ?_, oneEntry⟩
    obtain ⟨f, m, d'⟩ := List.mem_filterMap.mp m
    exact apart f m d'
  · rw [own, List.length_append, reserved', reserved, Nat.add_comm]
  · rw [own, inlet', List.append_assoc, List.nodup_append]
    refine ⟨by cases e.rackPocket <;> simp, oneSheet, fun k m j mj same => ?_⟩
    subst same
    obtain ⟨noEntry, noSheet⟩ := emptyPocket k (Option.mem_toList.mp m)
    obtain mj | mj := List.mem_append.mp mj
    · obtain ⟨f, mf, pocket⟩ := List.mem_filterMap.mp mj
      exact noEntry f mf pocket
    · obtain ⟨x, mx, pocket⟩ := List.mem_map.mp mj
      exact noSheet x mx pocket

end
end Sys2Proof.Machine
end

section
namespace Sys2Proof.Machine

/-! ### The records' pages -/

section
variable {r v : SetRecord} {half : Nat} {S S' : Prop} {p : Nat} {y : PageStatus} {f : PageStatus → PageStatus}

theorem status_mem {r : SetRecord} {p : Nat} (h : r.status p ≠ .absent) : r.status p ∈ r.map :=
  mem_map_iff.mpr ⟨p, mem_numbers.mpr (page_in_map h), rfl⟩

theorem resting_iff : r.anyPage PageStatus.moving = false ↔ ∀ p, (r.status p).moving = false := by
  constructor
  · intro h p
    by_contra moving
    have inside := page_in_map (r := r) (p := p) (by intro absent; rw [absent] at moving; exact moving rfl)
    have := anyPage_iff.mpr ⟨p, mem_numbers.mpr inside, by simpa using moving⟩
    rw [h] at this
    cases this
  · intro h
    by_contra moving
    obtain ⟨p, _, moves⟩ := anyPage_iff.mp (by simpa using moving)
    rw [h p] at moves
    cases moves

/-- The count of a kind of page after one page's change. -/
theorem count_setStatus (r : SetRecord) (q : PageStatus → Bool) {p : Nat} (inside : 1 ≤ p ∧ p ≤ r.map.length) (y : PageStatus) :
    (r.setStatus p y).count q = r.count q - (if q (r.status p) then 1 else 0) + if q y then 1 else 0 := by
  obtain ⟨low, high⟩ := inside
  obtain ⟨k, rfl⟩ : ∃ k, p = k + 1 := ⟨p - 1, by omega⟩
  have status : r.status (k + 1) = r.map[k] := by simp [SetRecord.status, nth1, show k < r.map.length by omega]
  rw [status]
  simp only [SetRecord.count, SetRecord.setStatus, set1, ← List.countP_eq_length_filter]
  exact List.countP_set high

theorem count_pos {q : PageStatus → Bool} (h : r.status p ≠ .absent) (hit : q (r.status p) = true) : 1 ≤ r.count q :=
  List.length_pos_of_mem (List.mem_filter.mpr ⟨status_mem h, hit⟩)

theorem setStatus_of_outside {r : SetRecord} {p : Nat} (outside : ¬(1 ≤ p ∧ p ≤ r.map.length)) (y : PageStatus) :
    r.setStatus p y = r := by
  have same : set1 r.map p y = r.map := by
    cases p with
    | zero => rfl
    | succ k => exact List.set_eq_of_length_le (by omega)
  rw [SetRecord.setStatus, same]

theorem SetRecord.filed.weaken (f : r.filed half S) (only : S' → S) : r.filed half S' :=
  ⟨f.whole, f.share, fun s => f.ended (only s)⟩

/-- The pages stay, and a state with nothing on its way is entered with nothing on its way. -/
theorem SetRecord.filed.restate (f : r.filed half S) (pages : v.pages = r.pages) (map : v.map = r.map)
    (ended : S → v.state.ended → r.state.ended ∨ r.anyPage PageStatus.moving = false) : v.filed half S := by
  refine ⟨by rw [map, pages, f.whole], ?_, fun s e => ?_⟩
  · have share := f.share
    rw [SetRecord.share, SetRecord.count] at share ⊢
    rw [map]
    exact share
  · rw [SetRecord.anyPage, map]
    exact (ended s e).elim (f.ended s) fun h => h

/-- A page turns: to rest, or from its way, or in a set that awaits pages; into the rack from it, or with room in the share. -/
theorem SetRecord.filed.turn (f : r.filed half S)
    (moves : y.moving = false ∨ (r.status p).moving = true ∨ ¬r.state.ended)
    (shares : y.inShare = true → (r.status p).inShare = true ∨ r.share + 1 ≤ half) : (r.setStatus p y).filed half S := by
  by_cases inside : 1 ≤ p ∧ p ≤ r.map.length
  · refine ⟨?_, ?_, fun s e => resting_iff.mpr fun q => ?_⟩
    · rw [SetRecord.setStatus, length_set1]
      exact f.whole
    · have share := f.share
      rw [SetRecord.share, count_setStatus r _ inside y]
      rw [SetRecord.share] at share shares
      by_cases enters : y.inShare = true
      · rw [if_pos enters]
        obtain was | room := shares enters
        · have := count_pos (q := PageStatus.inShare) (r := r) (p := p) (by intro absent; rw [absent] at was; cases was) was
          rw [if_pos was]
          omega
        · split <;> omega
      · rw [if_neg enters]
        split <;> omega
    · have resting := resting_iff.mp (f.ended s e)
      by_cases own : p = q
      · subst own
        by_cases absent : r.status p = .absent
        · obtain still | was | not := moves
          · simp [SetRecord.status, SetRecord.setStatus, nth1_set1_same y inside.1 inside.2, still]
          · rw [resting] at was; cases was
          · exact absurd e not
        · rw [status_setStatus_same _ absent]
          obtain still | was | not := moves
          · exact still
          · rw [resting] at was; cases was
          · exact absurd e not
      · rw [status_setStatus_other r y own]
        exact resting q
  · rw [setStatus_of_outside inside y]
    exact f

theorem status_map_of (absent : f .absent = .absent) (h : v.map = r.map.map f) (p : Nat) : v.status p = f (r.status p) := by
  simp only [SetRecord.status, h]
  cases p with
  | zero => simpa [nth1] using absent.symm
  | succ k =>
    simp only [nth1, List.getElem?_map]
    cases r.map[k]? with
    | none => simpa using absent.symm
    | some x => rfl

/-- Pages become ABSENT. -/
theorem SetRecord.filed.lost (g : r.filed half S) (pages : v.pages = r.pages) (map : v.map = r.map.map f)
    (only : ∀ x, f x = x ∨ f x = .absent) (ended : v.state.ended → r.state.ended) : v.filed half S := by
  have absent : f .absent = .absent := (only .absent).elim (fun h => h) fun h => h
  refine ⟨by rw [map, pages, List.length_map, g.whole], ?_, fun s e => resting_iff.mpr fun q => ?_⟩
  · refine Nat.le_trans ?_ g.share
    simp only [SetRecord.share, SetRecord.count, map, ← List.countP_eq_length_filter, List.countP_map]
    refine List.countP_mono_left fun x _ hit => ?_
    obtain same | lost := only x
    · rw [Function.comp_apply, same] at hit
      exact hit
    · rw [Function.comp_apply, lost] at hit
      cases hit
  · rw [status_map_of absent map]
    obtain same | lost := only (r.status q)
    · rw [same]
      exact resting_iff.mp (g.ended s (ended e)) q
    · rw [lost]
      rfl

end

/-! ### The table after an operation -/

section
variable {s : State} {g g' : Table} {i : SetId} {r v : SetRecord} {p : Nat} {y : PageStatus}

theorem Table.page_of (h : g i = some r) (p : Nat) : g.page i p = r.status p := by rw [Table.page, h]; rfl

theorem Table.page_of_none (h : g i = none) (p : Nat) : g.page i p = .absent := by rw [Table.page, h]; rfl

theorem Table.number_of (h : g i = some r) : g.number i = some r.record := by rw [Table.number, h]; rfl

/-- A page that is not ABSENT is a record's. -/
theorem Table.page_record (h : g.page i p ≠ .absent) : ∃ r, g i = some r ∧ r.status p = g.page i p := by
  cases e : g i with
  | none => exact absurd (Table.page_of_none e p) h
  | some r => exact ⟨r, rfl, (Table.page_of e p).symm⟩

theorem filed_update {half : Nat} {S : Prop} (all : ∀ {j q}, g j = some q → q.filed half S) (own : v.filed half S) :
    ∀ {j q}, Function.update g i (some v) j = some q → q.filed half S := by
  intro j q h
  by_cases same : j = i
  · rw [same, Function.update_self] at h
    cases h
    exact own
  · rw [Function.update_of_ne same] at h
    exact all h

/-- A record whose page alone changes. -/
theorem update_turns (found : g i = some r) (number : v.record = r.record) (map : v.map = set1 r.map p y)
    (inside : 1 ≤ p ∧ p ≤ r.map.length) : g.turns i p y (Function.update g i (some v)) := by
  have own : Function.update g i (some v) i = some v := Function.update_self ..
  have status : ∀ q, v.status q = (r.setStatus p y).status q := fun q => by rw [SetRecord.status, map]; rfl
  refine ⟨fun j => ?_, ?_, fun j q other => ?_⟩
  · by_cases same : j = i
    · rw [same, Table.number_of own, Table.number_of found, number]
    · simp only [Table.number, Function.update_of_ne same]
  · rw [Table.page_of own, status]
    simp [SetRecord.status, SetRecord.setStatus, nth1_set1_same y inside.1 inside.2]
  · by_cases same : j = i
    · rw [same, Table.page_of own, Table.page_of found, status]
      exact status_setStatus_other r y fun e => other ⟨same, e.symm⟩
    · simp only [Table.page, Function.update_of_ne same]

theorem findSet_putSet (found : s.findSet v.id = some r) : (s.putSet v).findSet = Function.update s.findSet v.id (some v) := by
  funext j
  by_cases same : j = v.id
  · rw [same, Function.update_self, findSet_putSet_same found]
  · rw [Function.update_of_ne same, findSet_putSet_other s v same]

theorem findSet_setPage (found : s.findSet i = some r) (p : Nat) (y : PageStatus) :
    (s.setPage i p y).findSet = Function.update s.findSet i (some (r.setStatus p y)) := by
  obtain rfl := findSet_id found
  have put : s.setPage r.id p y = s.putSet (r.setStatus p y) := by simp only [State.setPage, State.updSet, found]
  rw [put, findSet_putSet (v := r.setStatus p y) found]
  rfl

theorem findSet_removal (s : State) (i : SetId) : (s.removeSet i).findSet = Function.update s.findSet i none := by
  funext j
  by_cases same : j = i
  · rw [same, Function.update_self, findSet_removeSet]
  · rw [Function.update_of_ne same]
    exact (removeSet_courses s i).others j (by simpa using same)

end
end Sys2Proof.Machine
end

section
namespace Sys2Proof.Machine

/-! ### The law of the rack: the changes the operations make -/

section
variable {g g' : Table} {half : Nat} {h h' : Rack} {l l' : List Entry} {e : Entry} {t : PageRef} {i : SetId} {p k : Nat}
  {y : PageStatus}

/-- A rack out of service is for no page. -/
theorem Racks.shelfless (s : Racks g half h l) (out : h.rack = .outOfService) (i : SetId) (p : Nat) :
    (g.page i p).shelf = none := by
  obtain ⟨_, _, _, emptied⟩ := s.emptied out
  cases shelf : (g.page i p).shelf with
  | none => rfl
  | some z =>
    obtain ⟨k, b⟩ := z
    have sheet := (s.shelved k i p b).mpr shelf
    unfold Rack.sheet at sheet
    cases pocket : nth1 h.pockets k with
    | none => rw [pocket] at sheet; cases sheet
    | some x =>
      rw [pocket] at sheet
      have inside := (nth1_isSome_iff h.pockets k).mp (by rw [pocket]; rfl)
      obtain rfl | rfl := emptied x (mem_iff_nth1.mpr ⟨k, mem_numbers.mpr inside, pocket⟩) <;> cases sheet

/-- The records change, and no page in the rack or on its way with them. -/
theorem Racks.table (s : Racks g half h l) (filed : ∀ {i r}, g' i = some r → r.filed half h.inService)
    (shelf : ∀ i p, (g'.page i p).shelf = (g.page i p).shelf)
    (pages : h.inService → ∀ i p, (g.page i p).awaited = true → g'.page i p = g.page i p ∧ g'.number i = g.number i) :
    Racks g' half h l :=
  ⟨filed, s.shelved.same shelf fun _ => rfl, fun service => (s.served service).restate rfl (pages service), s.emptied⟩

/-- The rack changes in nothing its law reads. -/
theorem Racks.rack (s : Racks g half h l) (pockets : ∀ k, h'.sheet k = h.sheet k) (desk : h'.desk = h.desk)
    (service : h'.rack = .outOfService → h.rack = .outOfService) (emptied : h.emptied → h'.emptied)
    (serving : h.rack = .outOfService → h'.rack = .outOfService) : Racks g half h' l :=
  ⟨fun found => (s.filed found).weaken fun here => mt serving here, s.shelved.same (fun _ _ => rfl) pockets,
    fun here => (s.served (mt serving here)).restate desk fun _ _ _ => ⟨rfl, rfl⟩, fun out => emptied (s.emptied (service out))⟩

/-- The diverting entries are the same, in any order. -/
theorem Racks.perm (s : Racks g half h l) (same : (l.filter Entry.diverting).Perm (l'.filter Entry.diverting)) :
    Racks g half h l' :=
  ⟨s.filed, s.shelved, fun service => (s.served service).perm same, s.emptied⟩

/-- R67: out of service, a page that is in no pocket turns. -/
theorem Racks.unserved (s : Racks g half h l) (out : h.rack = .outOfService) (turns : g.turns i p y g')
    (shelf : y.shelf = none) (filed : ∀ {i r}, g' i = some r → r.filed half h.inService) : Racks g' half h l' := by
  refine ⟨filed, s.shelved.same (fun j q => ?_) fun _ => rfl, fun service => absurd out service, s.emptied⟩
  by_cases own : j = i ∧ q = p
  · rw [own.1, own.2, turns.here, shelf, s.shelfless out]
  · rw [turns.elsewhere j q own]

/-- R43, R44: a BIN entry goes, and its page turns. -/
theorem Racks.dropBin {b : Nat} (s : Racks g half h (e :: l)) (action : e.action = .bin b) (target : e.target = some t)
    (turns : g.turns t.id t.page y g') (shelf : y.shelf = none)
    (filed : ∀ {i r}, g' i = some r → r.filed half h.inService) : Racks g' half h l := by
  by_cases out : h.rack = .outOfService
  · exact s.unserved out turns shelf filed
  · have served := s.served out
    have d : e.diverts = some t := by rw [Entry.diverts, action]; exact target
    obtain ⟨_, ⟨_, _, page⟩ | ⟨_, action', _⟩⟩ := (served.entries e (List.mem_cons_self ..)).page d
    · refine ⟨filed, s.shelved.same (fun j q => ?_) fun _ => rfl,
        fun _ => served.drop d turns (by simp [Entry.rackPocket, action]) rfl rfl rfl, s.emptied⟩
      by_cases own : j = t.id ∧ q = t.page
      · rw [own.1, own.2, turns.here, shelf, page]
        rfl
      · rw [turns.elsewhere j q own]
    · rw [action] at action'; cases action'

/-- Pocket `k` takes a state, and others stay as they are. -/
theorem sheet_set1_other (h : Rack) {j k : Nat} (x : PocketState) (other : j ≠ k) :
    Rack.sheet { h with pockets := set1 h.pockets k x } j = h.sheet j := by
  simp only [Rack.sheet, nth1_set1_other _ _ other.symm]

theorem sheet_set1_same (h : Rack) {k : Nat} (x : PocketState) (inside : 1 ≤ k ∧ k ≤ h.pockets.length) :
    Rack.sheet { h with pockets := set1 h.pockets k x } k = x.sheet := by
  simp only [Rack.sheet, nth1_set1_same _ inside.1 inside.2, Option.bind_some]

theorem sheet_inside {h : Rack} {x : SetId × Nat × Bool} (sheet : h.sheet k = some x) : 1 ≤ k ∧ k ≤ h.pockets.length := by
  refine (nth1_isSome_iff _ _).mp ?_
  unfold Rack.sheet at sheet
  cases e : nth1 h.pockets k with
  | none => rw [e] at sheet; cases sheet
  | some _ => rfl

/-- R44, R57: a RACK entry goes, its page is ABSENT again, and its pocket FREE. -/
theorem Racks.dropRack (s : Racks g half h (e :: l)) (service : h.inService) (action : e.action = .rack k)
    (target : e.target = some t) (turns : g.turns t.id t.page .absent g')
    (filed : ∀ {i r}, g' i = some r → r.filed half h.inService) :
    Racks g' half { h with pockets := set1 h.pockets k .free, inletReserved := h.inletReserved - 1 } l := by
  have served := s.served service
  have d : e.diverts = some t := by rw [Entry.diverts, action]; exact target
  obtain ⟨_, ⟨_, action', _⟩ | ⟨k', action', page⟩⟩ := (served.entries e (List.mem_cons_self ..)).page d
  · rw [action] at action'; cases action'
  · rw [action] at action'
    cases action'
    have sheet := (s.shelved k t.id t.page false).mpr (by rw [page]; rfl)
    exact ⟨filed, s.shelved.turn turns (fun j other => sheet_set1_other h _ other) (sheet_set1_same h .free (sheet_inside sheet))
      (.inr ⟨_, sheet⟩) (.inl ⟨rfl, rfl⟩),
      fun _ => served.drop d turns (by simp [Entry.rackPocket, action]) rfl rfl rfl, fun out => absurd out service⟩

/-- R16, R58: the sheet of a RACK operation comes into the inlet. -/
theorem Racks.divert (s : Racks g half h (e :: l)) (service : h.inService) (action : e.action = .rack k)
    (pocket : nth1 h.pockets k = some (.reserved i p)) :
    Racks g half { h with
      inletReserved := h.inletReserved - 1, inlet := h.inlet ++ [{ pocket := k, id := i, page := p }] } l := by
  have served := s.served service
  have page : g.page i p = .inboundRack k := by
    have shelf := (s.shelved k i p false).mp (by simp [Rack.sheet, pocket, PocketState.sheet])
    cases status : g.page i p <;> rw [status] at shelf <;> cases shelf
    rfl
  have full : h.storing.length ≤ h.inlet.length := by
    have := congrArg List.length served.store
    rw [List.length_take] at this
    omega
  exact ⟨s.filed, s.shelved, fun _ => served.divert (x := { pocket := k, id := i, page := p })
    (by rw [Entry.rackPocket, action]) page rfl rfl rfl rfl full, fun out => absurd out service⟩

/-- R16: an entry that its action has done with goes. -/
theorem Racks.undivert (s : Racks g half h (e :: l)) (other : e.diverting = false) : Racks g half h l :=
  s.perm (by rw [List.filter_cons_of_neg (by simp [other])])

/-- R61: the oldest sheet of the inlet is stored. -/
theorem Racks.stored {x : InletSheet} (s : Racks g half h l) (busy : h.rack = .busy (.store x))
    (turns : g.turns x.id x.page (.held x.pocket) g')
    (filed : ∀ {i r}, g' i = some r → r.filed half h.inService) :
    Racks g' half { h with
      rack := .idle, inlet := h.inlet.drop 1, pockets := set1 h.pockets x.pocket (.holding x.id x.page) } l := by
  have service : h.inService := by rw [Rack.inService, busy]; nofun
  have served := s.served service
  have storing : h.storing = [x] := by simp only [Rack.storing, busy]
  obtain ⟨rest, head⟩ : ∃ rest, h.inlet = x :: rest := by
    have store := served.store
    rw [storing] at store
    cases inlet : h.inlet with
    | nil => rw [inlet] at store; cases store
    | cons z rest => rw [inlet] at store; cases store; exact ⟨rest, rfl⟩
  have page := served.inlet x (head ▸ List.mem_cons_self ..)
  have sheet := (s.shelved x.pocket x.id x.page false).mpr (by rw [page]; rfl)
  exact ⟨fun found => (filed found).weaken fun _ => service, s.shelved.turn turns (fun j other => sheet_set1_other h _ other)
    (sheet_set1_same h _ (sheet_inside sheet)) (.inr ⟨_, sheet⟩) (.inr ⟨true, rfl, rfl⟩),
    fun _ => served.stored head turns rfl (by rw [head]; rfl) rfl (by simp only [Rack.allReleases, busy]), nofun⟩

/-- R65: a release is done, and its page turns. -/
theorem Racks.released {x : Release} (s : Racks g half h l) (busy : h.rack = .busy (.release x))
    (turns : g.turns x.id x.page y g') (shelf : y.shelf = none)
    (filed : ∀ {i r}, g' i = some r → r.filed half h.inService) :
    Racks g' half { h with rack := .idle, pockets := set1 h.pockets x.pocket .free } l := by
  have service : h.inService := by rw [Rack.inService, busy]; nofun
  have served := s.served service
  have head : h.allReleases = x :: h.releases := by simp only [Rack.allReleases, busy]; rfl
  have page := served.releases x (head ▸ List.mem_cons_self ..)
  have sheet := (s.shelved x.pocket x.id x.page true).mpr (by rw [page]; rfl)
  exact ⟨fun found => (filed found).weaken fun _ => service, s.shelved.turn turns (fun j other => sheet_set1_other h _ other)
    (sheet_set1_same h _ (sheet_inside sheet)) (.inr ⟨_, sheet⟩) (.inl ⟨rfl, shelf⟩),
    fun _ => served.released head turns rfl rfl (by simp only [Rack.storing, busy]) rfl, nofun⟩

/-- R45, R47: a HELD page is released. -/
theorem Racks.release {x : Release} (s : Racks g half h l) (held : g.page x.id x.page = .held x.pocket)
    (turns : g.turns x.id x.page (.releasing x.pocket) g')
    (filed : ∀ {i r}, g' i = some r → r.filed half h.inService) :
    Racks g' half { h with releases := h.releases ++ [x] } l := by
  have service : h.inService := fun out => by
    have shelf := s.shelfless out x.id x.page
    rw [held] at shelf
    cases shelf
  refine ⟨filed, s.shelved.same (fun j q => ?_) fun _ => rfl,
    fun _ => (s.served service).release s.shelved held turns rfl rfl rfl ?_, fun out => absurd out service⟩
  · by_cases own : j = x.id ∧ q = x.page
    · rw [own.1, own.2, turns.here, held]
      rfl
    · rw [turns.elsewhere j q own]
  · simp only [Rack.allReleases, List.append_assoc]

/-- R11, R40: a sheet is sent to the bin. -/
theorem Racks.joinBin {b : Nat} (s : Racks g half h l) (action : e.action = .bin b) (target : e.target = some t)
    (absent : g.page t.id t.page = .absent) (number : g.number t.id = some t.record)
    (turns : g.turns t.id t.page .inboundBin g') (filed : ∀ {i r}, g' i = some r → r.filed half h.inService) :
    Racks g' half h (e :: l) := by
  have d : e.diverts = some t := by rw [Entry.diverts, action]; exact target
  have bin : e.rackPocket = none := by rw [Entry.rackPocket, action]
  refine ⟨filed, s.shelved.same (fun j q => ?_) fun _ => rfl, fun service => ?_, s.emptied⟩
  · by_cases own : j = t.id ∧ q = t.page
    · rw [own.1, own.2, turns.here, absent]
      rfl
    · rw [turns.elsewhere j q own]
  · have served := s.served service
    exact served.join s.shelved d absent number turns (.inl ⟨b, action, rfl⟩) (by simp [bin]) (by simp [bin]) served.room
      rfl rfl rfl

/-- R11, R41, R55: a sheet is sent to the rack, a FREE pocket and a place in the inlet being reserved for it. -/
theorem Racks.joinRack (s : Racks g half h l) (service : h.inService) (action : e.action = .rack k) (target : e.target = some t)
    (absent : g.page t.id t.page = .absent) (number : g.number t.id = some t.record)
    (turns : g.turns t.id t.page (.inboundRack k) g') (free : nth1 h.pockets k = some .free)
    (room : h.inletReserved + h.inlet.length < 2) (filed : ∀ {i r}, g' i = some r → r.filed half h.inService) :
    Racks g' half { h with pockets := set1 h.pockets k (.reserved t.id t.page), inletReserved := h.inletReserved + 1 } (e :: l) := by
  have d : e.diverts = some t := by rw [Entry.diverts, action]; exact target
  have rack : e.rackPocket = some k := by rw [Entry.rackPocket, action]
  have sheet : h.sheet k = none := by rw [Rack.sheet, free]; rfl
  have inside := (nth1_isSome_iff h.pockets k).mp (by rw [free]; rfl)
  refine ⟨filed, s.shelved.turn turns (fun j other => sheet_set1_other h _ other) (sheet_set1_same h _ inside)
    (.inl ⟨sheet, by rw [absent]; rfl⟩) (.inr ⟨false, rfl, rfl⟩), fun _ => ?_, fun out => absurd out service⟩
  refine (s.served service).join s.shelved d absent number turns (.inr ⟨k, action, rfl⟩) ?_ (by simp [rack]) (by dsimp only; omega)
    rfl rfl rfl
  rw [rack]
  rintro _ ⟨⟩
  exact sheet

/-- R60: the arbiter issues a STORE of the oldest sheet of the inlet. -/
theorem Racks.issueStore {x : InletSheet} {rest : List InletSheet} (s : Racks g half h l) (idle : h.rack = .idle)
    (head : h.inlet = x :: rest) : Racks g half { h with rack := .busy (.store x) } l := by
  have service : h.inService := by rw [Rack.inService, idle]; nofun
  obtain ⟨entries, oneEntry, reserved, room, inlet, oneSheet, store, releases, oneRelease⟩ := s.served service
  have same : Rack.allReleases { h with rack := .busy (.store x) } = h.allReleases := by simp only [Rack.allReleases, idle]
  exact ⟨fun found => (s.filed found).weaken fun _ => service, s.shelved, fun _ => ⟨entries, oneEntry, reserved, room, inlet, oneSheet,
    by rw [head]; rfl, same ▸ releases, same ▸ oneRelease⟩, nofun⟩

/-- R60: the arbiter issues the oldest release. -/
theorem Racks.issueRelease {x : Release} {rest : List Release} (s : Racks g half h l) (idle : h.rack = .idle)
    (head : h.releases = x :: rest) : Racks g half { h with rack := .busy (.release x), releases := rest } l := by
  refine s.rack (fun _ => rfl) ?_ nofun (fun _ => ?_) (by rw [idle]; nofun)
  · simp only [Rack.desk, Rack.storing, Rack.allReleases, idle, head]
    rfl
  · rename_i emptied
    obtain ⟨_, _, none, _⟩ := emptied
    rw [head] at none
    cases none

end

/-! ### The law and O33 -/

/-- O33's law, with the entries `l` for those of the gate. -/
def State.racksWith (s : State) (l : List Entry) : Prop := Racks s.findSet (s.rackFitted / 2) s.hr l

def State.racked (s : State) : Prop := s.racksWith s.gateEntries

section
variable {s : State} {i : SetId} {r : SetRecord} {p k : Nat} {x : PageStatus}

theorem sheet_reserved : s.hr.sheet k = some (i, p, false) ↔ nth1 s.hr.pockets k = some (.reserved i p) := by
  unfold Rack.sheet
  cases nth1 s.hr.pockets k with
  | none => simp
  | some z => cases z <;> simp [PocketState.sheet]

theorem sheet_holding : s.hr.sheet k = some (i, p, true) ↔ nth1 s.hr.pockets k = some (.holding i p) := by
  unfold Rack.sheet
  cases nth1 s.hr.pockets k with
  | none => simp
  | some z => cases z <;> simp [PocketState.sheet]

theorem shelf_inbound : x.shelf = some (k, false) ↔ x = .inboundRack k := by cases x <;> simp [PageStatus.shelf]

theorem shelf_in : x.shelf = some (k, true) ↔ x = .held k ∨ x = .releasing k := by cases x <;> simp [PageStatus.shelf]

theorem pageHas_iff (d : s.distinct) (h : x ≠ .absent) : s.pageHas i p x ↔ Table.page s.findSet i p = x := by
  rw [State.pageHas, exists_sets_iff d]
  constructor
  · rintro ⟨r, found, rfl⟩
    exact Table.page_of found p
  · rintro rfl
    exact Table.page_record h

theorem entrySound_iff {e : Entry} : s.entrySound e ↔ e.sound s.findSet := by
  have record : ∀ (t : PageRef) (x : PageStatus), x ≠ .absent → ((∃ r ∈ s.recordOf t, r.status t.page = x) ↔
      Table.number s.findSet t.id = some t.record ∧ Table.page s.findSet t.id t.page = x) := fun t x h => by
    unfold State.recordOf
    cases found : s.findSet t.id with
    | none => simp [Table.number, found]
    | some r =>
      rw [Table.number_of found, Table.page_of found]
      by_cases own : r.record = t.record <;> simp [own]
  unfold State.entrySound Entry.sound
  cases e.action with
  | bin b => exact exists_congr fun t => and_congr_right fun _ => record t _ nofun
  | rack k => exact exists_congr fun t => and_congr_right fun _ => record t _ nofun
  | pass | reject | fill => exact Iff.rfl

theorem pages_iff (d : s.distinct) : Shelved s.findSet s.hr ↔
    (∀ r ∈ s.co.sets, ∀ p ∈ numbers r.map.length, s.pageSound r.id p (r.status p))
      ∧ ∀ k ∈ numbers s.hr.pockets.length, ∀ x ∈ nth1 s.hr.pockets k, s.pocketSound k x := by
  constructor
  · intro h
    refine ⟨(forall_sets_iff d).mpr fun i r found p _ => ?_, fun k _ x pocket => ?_⟩
    · have status := Table.page_of found p
      rw [findSet_id found]
      unfold State.pageSound
      split
      · rename_i k page
        exact sheet_reserved.mp ((h k i p false).mpr (by rw [status, page]; rfl))
      · rename_i k page
        exact sheet_holding.mp ((h k i p true).mpr (by rw [status, page]; rfl))
      · rename_i k page
        exact sheet_holding.mp ((h k i p true).mpr (by rw [status, page]; rfl))
      all_goals trivial
    · cases x with
      | reserved i p => exact (pageHas_iff d (by nofun)).mpr (shelf_inbound.mp ((h k i p false).mp (sheet_reserved.mpr pocket)))
      | holding i p =>
        exact (shelf_in.mp ((h k i p true).mp (sheet_holding.mpr pocket))).imp (pageHas_iff d (by nofun)).mpr (pageHas_iff d (by nofun)).mpr
      | free => trivial
      | occupied => trivial
  · rintro ⟨pages, pockets⟩ k i p b
    rw [forall_sets_iff d] at pages
    have pocketOf : ∀ x, nth1 s.hr.pockets k = some x → s.pocketSound k x := fun x pocket =>
      pockets k (mem_numbers.mpr ((nth1_isSome_iff _ _).mp (by rw [pocket]; rfl))) x pocket
    have pageOf : Table.page s.findSet i p ≠ .absent → s.pageSound i p (Table.page s.findSet i p) := fun h => by
      obtain ⟨r, found, status⟩ := Table.page_record h
      have sound := pages i r found p (mem_numbers.mpr (page_in_map (by rw [status]; exact h)))
      rwa [findSet_id found, status] at sound
    cases b with
    | false =>
      rw [sheet_reserved, shelf_inbound]
      refine ⟨fun pocket => (pageHas_iff d (by nofun)).mp (pocketOf _ pocket), fun page => ?_⟩
      have sound := pageOf (by rw [page]; nofun)
      rw [page] at sound
      exact sound
    | true =>
      rw [sheet_holding, shelf_in]
      refine ⟨fun pocket => (pocketOf _ pocket).imp (pageHas_iff d (by nofun)).mp (pageHas_iff d (by nofun)).mp, ?_⟩
      rintro (page | page)
      · have sound := pageOf (by rw [page]; nofun)
        rw [page] at sound
        exact sound
      · have sound := pageOf (by rw [page]; nofun)
        rw [page] at sound
        exact sound

theorem inService_iff : s.rackInService = true ↔ s.hr.inService := by simp [State.rackInService]

theorem outOfService_iff : s.rackInService = false ↔ s.hr.rack = .outOfService := by simp [State.rackInService]

/-- O33's law is the law of the table. -/
theorem rackSound_iff (d : s.distinct) : s.rackSound ↔ s.racked := by
  constructor
  · rintro ⟨wholeMap, share, pages, pockets, served, outOfService⟩
    have shelved := (pages_iff d).mpr ⟨pages, pockets⟩
    rw [forall_sets_iff d] at wholeMap share
    refine ⟨fun {i r} found => ⟨wholeMap i r found, share i r found, fun service ended => ?_⟩, shelved, fun service => ?_,
      fun out => outOfService (outOfService_iff.mpr out)⟩
    · exact (served (inService_iff.mpr service)).ended r (findSet_mem found) ended
    · obtain ⟨entries, oneEntry, places, inlet, oneSheet, store, releases, oneRelease, _⟩ := served (inService_iff.mpr service)
      exact ⟨fun e m => entrySound_iff.mp (entries e m), oneEntry, places.1, places.2,
        fun x m => shelf_inbound.mp ((shelved _ _ _ _).mp (sheet_reserved.mpr (inlet x m))), oneSheet, store,
        fun x m => (pageHas_iff d (by nofun)).mp (releases x m).2, oneRelease⟩
  · rintro ⟨filed, shelved, served, emptied⟩
    obtain ⟨pages, pockets⟩ := (pages_iff d).mp shelved
    refine ⟨(forall_sets_iff d).mpr fun i r found => (filed found).whole, (forall_sets_iff d).mpr fun i r found => (filed found).share,
      pages, pockets, fun service => ?_, fun out => emptied (outOfService_iff.mp out)⟩
    have service := inService_iff.mp service
    obtain ⟨entries, oneEntry, reserved, room, inlet, oneSheet, store, releases, oneRelease⟩ := served service
    exact ⟨fun e m => entrySound_iff.mpr (entries e m), oneEntry, ⟨reserved, room⟩,
      fun x m => sheet_reserved.mp ((shelved _ _ _ _).mpr (shelf_inbound.mpr (inlet x m))), oneSheet, store,
      fun x m => ⟨sheet_holding.mp ((shelved _ _ _ _).mpr (shelf_in.mpr (.inr (releases x m)))), (pageHas_iff d (by nofun)).mpr (releases x m)⟩,
      oneRelease, (forall_sets_iff d).mpr fun i r found => (filed found).ended service⟩

end
end Sys2Proof.Machine
end

section
/-! ### What an operation keeps of the places and of the rack

`State.lodges` says for an operation that it keeps the fitted lists, the law of the places, and with it the law of the rack.
Operations are taken in the order of the model's files. -/

namespace Sys2Proof.Machine

/-- What the fitted lists' law reads. -/
def State.fitting (s : State) : Straps × Nat × Nat × Nat × Nat :=
  (s.bs.straps, s.co.bins.length, s.hr.pockets.length, s.dc.pockets.length, s.lc.peers.length)

abbrev State.fits (s t : State) : Prop := t.fitting = s.fitting

/-- The laws of the fitted lists, the places and the rack that `s` meets, `t` meets. -/
structure State.lodges (s t : State) : Prop where
  fits : s.listsFitted → t.listsFitted
  places : s.housed → t.housed
  rack : s.housed → s.racked → t.racked

/-- What the laws of the places and of the rack read beside the records. -/
def State.grounds (s : State) : List BinState × Rack × List Entry × GateState × CarriageState × List CarriageRequest ×
    JawState × JawState :=
  (s.co.bins, s.hr, s.gc.queue, s.gc.gate, s.sc.carriage, s.sc.carriageQueue, s.sc.jawA, s.sc.jawB)

/-! ### Composing -/

section
variable {s t u : State}

theorem listsFitted_iff : s.listsFitted ↔ s.co.bins.length = s.bs.straps.fittedBins ∧ s.hr.pockets.length = s.bs.straps.fittedRack
    ∧ s.dc.pockets.length = s.bs.straps.fittedPockets ∧ s.lc.peers.length = 8 := Iff.rfl

theorem State.fits.listsFitted (h : s.fits t) (fitted : s.listsFitted) : t.listsFitted := by
  simp only [State.fits, State.fitting, Prod.mk.injEq] at h
  obtain ⟨straps, bins, rack, pockets, peers⟩ := h
  rw [listsFitted_iff] at fitted ⊢
  rw [straps, bins, rack, pockets, peers]
  exact fitted

theorem State.fits.trans (h : s.fits t) (k : t.fits u) : s.fits u := Eq.trans k h

theorem State.lodges.refl (s : State) : s.lodges s := ⟨id, id, fun _ => id⟩

theorem State.lodges.trans (h : s.lodges t) (k : t.lodges u) : s.lodges u :=
  ⟨k.fits ∘ h.fits, k.places ∘ h.places, fun housed racked => k.rack (h.places housed) (h.rack housed racked)⟩

theorem lodges_foldl {α : Type} (f : State → α → State) (h : ∀ t x, State.lodges t (f t x)) :
    ∀ (xs : List α) (s : State), s.lodges (xs.foldl f s)
  | [], s => .refl s
  | x :: xs, s => (h s x).trans (lodges_foldl f h xs (f s x))

/-- An operation whose account rests on the law of the places. -/
theorem State.lodges.given (fits : s.fits t) (h : s.housed → s.lodges t) : s.lodges t :=
  ⟨fits.listsFitted, fun housed => (h housed).places housed, fun housed => (h housed).rack housed⟩

theorem State.fits.rackFitted (h : s.fits t) : t.rackFitted = s.rackFitted := by
  simp only [State.fits, State.fitting, Prod.mk.injEq] at h
  rw [State.rackFitted, h.1, State.rackFitted]

theorem lodger_of (h : t.findSet = s.findSet) : t.lodger = s.lodger := by
  funext i
  rw [State.lodger, h, State.lodger]

theorem lodger_update {i : SetId} {z : Option SetRecord} (h : t.findSet = Function.update s.findSet i z) :
    t.lodger = Function.update s.lodger i (z.map SetRecord.lodging) := by
  funext j
  rw [State.lodger, h]
  by_cases same : j = i
  · rw [same, Function.update_self, Function.update_self]
  · rw [Function.update_of_ne same, Function.update_of_ne same]
    rfl

theorem jaw_of (h : t.grounds = s.grounds) : t.jaw = s.jaw := by
  simp only [State.grounds, Prod.mk.injEq] at h
  funext j
  cases j
  · exact h.2.2.2.2.2.2.1
  · exact h.2.2.2.2.2.2.2

/-- The law of the places where the records alone change. -/
theorem housed_of (h : t.grounds = s.grounds) : t.housed ↔
    BinsHold t.lodger s.binState ∧ RequestsHold t.lodger s.carriageRequests ∧ JawsHold t.lodger s.sc.carriage s.jaw := by
  have jaws := jaw_of h
  simp only [State.grounds, Prod.mk.injEq] at h
  obtain ⟨bins, _, _, _, carriage, queue, _, _⟩ := h
  have binState : t.binState = s.binState := by funext b; rw [State.binState, bins, State.binState]
  have requests : t.carriageRequests = s.carriageRequests := by
    rw [State.carriageRequests, State.carriageInFlight, carriage, queue]
    rfl
  constructor
  · rintro ⟨h1, h2, h3⟩
    exact ⟨binState ▸ h1, requests ▸ h2, carriage ▸ jaws ▸ h3⟩
  · rintro ⟨h1, h2, h3⟩
    exact ⟨binState.symm ▸ h1, requests.symm ▸ h2, carriage.symm ▸ jaws.symm ▸ h3⟩

/-- The law of the rack where the records alone change. -/
theorem racked_of (h : t.grounds = s.grounds) (fits : s.fits t) :
    t.racked ↔ Racks t.findSet (s.rackFitted / 2) s.hr s.gateEntries := by
  rw [State.racked, State.racksWith, fits.rackFitted]
  simp only [State.grounds, Prod.mk.injEq] at h
  obtain ⟨_, rack, queue, gate, _⟩ := h
  have entries : t.gateEntries = s.gateEntries := by rw [State.gateEntries, queue, gate]; rfl
  rw [rack, entries]

/-- An operation that changes nothing the laws read. -/
theorem State.lodges.of_same (sets : t.findSet = s.findSet) (grounds : t.grounds = s.grounds) (fits : s.fits t) : s.lodges t where
  fits := fits.listsFitted
  places h := (housed_of grounds).mpr (by rw [lodger_of sets]; exact ⟨h.bins, h.requests, h.jaws⟩)
  rack _ h := (racked_of grounds fits).mpr (by rw [sets]; exact h)

/-- What the laws read. -/
def State.lodgings (s : State) := (s.co.sets, s.grounds, s.fitting)

theorem State.lodges.of (h : t.lodgings = s.lodgings) : s.lodges t := by
  simp only [State.lodgings, Prod.mk.injEq] at h
  exact .of_same (by funext i; rw [State.findSet, h.1, State.findSet]) h.2.1 h.2.2

theorem State.lodges.after (k : t.lodges u) (h : t.lodgings = s.lodgings) : s.lodges u := (State.lodges.of h).trans k

/-- An operation whose frame names nothing that the laws read but lists whose lengths stay. -/
theorem State.lodges.of_frame {l : List Block} (h : s.sameBut l t)
    (sub : ∀ b ∈ l, b ∈ [Block.ri, .jt, .cu, .rf, .pw, .dc, .lc, .bs, .queue]) (fits : s.fits t) : s.lodges t := by
  have frame := sameBut_mono h sub
  have co := frame.co (by decide)
  exact .of_same (funext (findSet_of_co co))
    (by simp only [State.grounds, co, frame.hr (by decide), frame.gc (by decide), frame.sc (by decide)]) fits

/-- An operation whose frame names no list either. -/
theorem State.lodges.of_plain {l : List Block} (h : s.sameBut l t)
    (sub : ∀ b ∈ l, b ∈ [Block.ri, .jt, .cu, .rf, .pw, .queue]) : s.lodges t := by
  have frame := sameBut_mono h sub
  refine .of_frame frame (by decide) ?_
  simp only [State.fits, State.fitting, frame.bs (by decide), frame.co (by decide), frame.hr (by decide), frame.dc (by decide),
    frame.lc (by decide)]

end
end Sys2Proof.Machine
end

section
namespace Sys2Proof.Machine

variable {s t : State}

/-! ### The lists keep their lengths -/

theorem wantState_fits (s : State) : s.fits s.wantState := by
  unfold State.wantState State.pushState State.addDue
  repeat' split
  all_goals rfl

theorem tell_fits (old new : State) : new.fits (State.tell old new) := by
  unfold State.tell
  split
  · rfl
  · exact wantState_fits new

theorem setBin_fits (s : State) (b : Nat) (x : BinState) : s.fits (s.setBin b x) :=
  .trans (by simp [State.fits, State.fitting]) (tell_fits _ _)

theorem freeBin_fits (s : State) (b : Nat) : s.fits (s.freeBin b) := by
  unfold State.freeBin
  split
  · exact setBin_fits s b _
  · rfl

theorem changePocket_fits (s : State) (p : Nat) (f : Pocket → Pocket) : s.fits (s.changePocket p f) :=
  .trans (by simp [State.fits, State.fitting]) (tell_fits _ _)

theorem unbindingTest_fits (s : State) (p : Nat) : s.fits (s.unbindingTest p) := by
  unfold State.unbindingTest
  split
  · rfl
  · split
    · exact changePocket_fits s _ _
    · rfl

theorem fits_foldl {α : Type} (f : State → α → State) (h : ∀ t x, State.fits t (f t x)) :
    ∀ (xs : List α) (s : State), s.fits (xs.foldl f s)
  | [], _ => rfl
  | x :: xs, s => (h s x).trans (fits_foldl f h xs (f s x))

theorem unbindJob_fits (s : State) (j : Nat) : s.fits (s.unbindJob j) :=
  fits_foldl _ (fun t p => by
    split
    · exact unbindingTest_fits t p
    · rfl) _ _

theorem putSet_fits (s : State) (r : SetRecord) : s.fits (s.putSet r) := by
  unfold State.putSet
  split
  · rfl
  · exact .trans (by simp [State.fits, State.fitting]) (tell_fits _ _)

theorem updSet_fits (s : State) (i : SetId) (f : SetRecord → SetRecord) : s.fits (s.updSet i f) := by
  unfold State.updSet
  split
  · rfl
  · exact putSet_fits s _

theorem setPage_fits (s : State) (i : SetId) (p : Nat) (x : PageStatus) : s.fits (s.setPage i p x) := updSet_fits s i _

theorem addSet_fits (s : State) (r : SetRecord) : s.fits (s.addSet r) :=
  .trans (by simp [State.fits, State.fitting]) (tell_fits _ _)

theorem dropSet_fits (s : State) (r : SetRecord) : s.fits (s.dropSet r) := by
  refine .trans ?_ (unbindingTest_fits _ _)
  exact .trans (by simp [State.fits, State.fitting]) (tell_fits _ _)

theorem addDone_fits (s : State) (i : SetId) : s.fits (s.addDone i) := by
  unfold State.addDone
  split
  · rfl
  · split
    · rfl
    · dsimp only
      split
      · rfl
      · exact .trans (t := s.putJob _) rfl (unbindJob_fits _ _)

theorem setJaw_fits (s : State) (j : JawName) (x : JawState) : s.fits (s.setJaw j x) := by cases j <;> rfl

theorem carriageIssue_fits (s : State) : s.fits s.carriageIssue := by
  unfold State.carriageIssue
  split
  · split
    · rfl
    · split
      · rfl
      · split
        · exact .trans (by rfl) (setJaw_fits _ _ _)
        · rfl
    · split <;> rfl
  · rfl

theorem arbiterIssue_fits (s : State) : s.fits s.arbiterIssue := by
  unfold State.arbiterIssue
  repeat' split
  all_goals rfl

theorem startTest_fits (s : State) : s.fits s.startTest := by
  unfold State.startTest
  dsimp only
  split
  · exact carriageIssue_fits s
  · exact (carriageIssue_fits s).trans (arbiterIssue_fits _)

theorem queueCarriage_fits (s : State) (q : CarriageRequest) : s.fits (s.queueCarriage q) := by
  rw [queueCarriage_eq]
  split
  · exact .trans (t := s.withCarriage _) rfl (startTest_fits _)
  · rfl

theorem withdrawCarriage_fits (s : State) (i : SetId) (x : Bool) : s.fits (s.withdrawCarriage i x) := by
  rw [withdrawCarriage_eq]
  split
  · exact .trans (t := s.withCarriage _) rfl (startTest_fits _)
  · rfl

theorem deliverTest_fits (s : State) (p : Nat) : s.fits (s.deliverTest p) := by
  unfold State.deliverTest
  split
  · rfl
  · split
    · split
      · rfl
      · simp [State.fits, State.fitting]
    · rfl

end Sys2Proof.Machine
end

section
namespace Sys2Proof.Machine

variable {s t : State} {i : SetId} {r v : SetRecord}

/-! ### Ops.lean -/

theorem wantState_lodges (s : State) : s.lodges s.wantState := .of_frame (wantState_frame s) (by decide) (wantState_fits s)

theorem tell_lodges (old new : State) : new.lodges (State.tell old new) :=
  .of_frame (tell_frame old new) (by decide) (tell_fits old new)

theorem changePocket_lodges (s : State) (p : Nat) (f : Pocket → Pocket) : s.lodges (s.changePocket p f) :=
  .of_frame (changePocket_frame s p f) (by decide) (changePocket_fits s p f)

theorem unbindingTest_lodges (s : State) (p : Nat) : s.lodges (s.unbindingTest p) :=
  .of_frame (unbindingTest_frame s p) (by decide) (unbindingTest_fits s p)

theorem unbindJob_lodges (s : State) (j : Nat) : s.lodges (s.unbindJob j) :=
  .of_frame (unbindJob_frame s j) (by decide) (unbindJob_fits s j)

theorem addDone_lodges (s : State) (i : SetId) : s.lodges (s.addDone i) :=
  .of_frame (addDone_frame s i) (by decide) (addDone_fits s i)

theorem putSet_bins (s : State) (r : SetRecord) : (s.putSet r).co.bins = s.co.bins := by
  unfold State.putSet
  split
  · rfl
  · rw [tell_sets]

theorem grounds_of_frame {l : List Block} (h : s.sameBut l t) (sub : ∀ b ∈ l, b ∈ [Block.ri, .jt, .cu, .co, .rf, .pw, .dc, .lc, .bs, .queue])
    (bins : t.co.bins = s.co.bins) : t.grounds = s.grounds := by
  have frame := sameBut_mono h sub
  simp only [State.grounds, bins, frame.hr (by decide), frame.gc (by decide), frame.sc (by decide)]

theorem putSet_grounds (s : State) (r : SetRecord) : (s.putSet r).grounds = s.grounds :=
  grounds_of_frame (putSet_frame s r) (by decide) (putSet_bins s r)

theorem setPage_grounds (s : State) (i : SetId) (p : Nat) (x : PageStatus) : (s.setPage i p x).grounds = s.grounds := by
  unfold State.setPage State.updSet
  split
  · rfl
  · exact putSet_grounds s _

/-- A record changed in nothing that pages and entries read. -/
theorem update_pages {g : Table} (found : g i = some r) (number : v.record = r.record) (map : v.map = r.map) (j : SetId) :
    Table.number (Function.update g i (some v)) j = g.number j
      ∧ ∀ p, Table.page (Function.update g i (some v)) j p = g.page j p := by
  have own : Function.update g i (some v) i = some v := Function.update_self ..
  by_cases same : j = i
  · rw [same, Table.number_of own, Table.number_of found, number]
    refine ⟨rfl, fun p => ?_⟩
    rw [Table.page_of own, Table.page_of found, SetRecord.status, map, SetRecord.status]
  · refine ⟨?_, fun p => ?_⟩
    · simp only [Table.number, Function.update_of_ne same]
    · simp only [Table.page, Function.update_of_ne same]

/-- R49, R51: the rack's law where a record changes but for its pages. -/
theorem Racks.restate {g : Table} {half : Nat} {h : Rack} {l : List Entry} (law : Racks g half h l) (found : g i = some r)
    (number : v.record = r.record) (pages : v.pages = r.pages) (map : v.map = r.map)
    (ended : h.inService → v.state.ended → r.state.ended ∨ r.anyPage PageStatus.moving = false) :
    Racks (Function.update g i (some v)) half h l :=
  law.table (filed_update law.filed ((law.filed found).restate pages map ended))
    (fun j p => by rw [(update_pages found number map j).2])
    fun _ j p _ => ⟨(update_pages found number map j).2 p, (update_pages found number map j).1⟩

/-- No request moves a set whose record is neither COMPLETE nor SURRENDERING. -/
theorem unrequested (h : s.housed) (found : s.findSet i = some r) (state : r.state ≠ .complete ∧ r.state ≠ .surrendering) :
    ∀ q ∈ s.carriageRequests, q.id ≠ i := by
  rintro q m rfl
  obtain ⟨r', found', moved, _⟩ := lodger_eq_some.mp (h.requests.moves q m)
  rw [found] at found'
  cases found'
  rw [CarriageRequest.moves] at moved
  split at moved
  · exact state.2 moved
  · exact state.1 moved

/-- The places where a record takes another state, in or out of the jaws as before. -/
theorem rewrite_housed (grounds : t.grounds = s.grounds) (table : t.findSet = Function.update s.findSet v.id (some v))
    (found : s.findSet v.id = some r) (bin : v.bin = r.bin) (jaw : v.state.inAJaw ↔ r.state.inAJaw)
    (holds : v.state = .surrendering ∨ r.state ≠ .surrendering ∨ r.bin.isSome = true ∧ ¬v.state.inAJaw)
    (requests : ∀ q ∈ s.carriageRequests, q.id = v.id → v.state = r.state) (h : s.housed) : t.housed := by
  have was : s.lodger v.id = some (r.state, r.bin) := lodger_eq_some.mpr ⟨r, found, rfl, rfl⟩
  rw [housed_of grounds, lodger_update table]
  have lodging : Option.map SetRecord.lodging (some v) = some (v.state, r.bin) := by rw [Option.map_some, SetRecord.lodging, bin]
  rw [lodging]
  refine ⟨h.bins.restate was ?_, ⟨fun q m => ?_, h.requests.one⟩, ?_⟩
  · obtain surrendering | other | held := holds
    · exact .inl surrendering
    · exact .inr (((h.bins.binned was).resolve_left other).trans (not_congr jaw.symm))
    · exact .inr ⟨fun _ => held.2, fun _ => held.1⟩
  · have moves := h.requests.moves q m
    by_cases own : q.id = v.id
    · rw [own] at moves ⊢
      rw [Function.update_self, requests q m own, ← was, moves]
    · rw [Function.update_of_ne own]
      exact moves
  · by_cases inside : r.state.inAJaw
    · exact h.jaws.restate was inside (jaw.mpr inside)
    · refine h.jaws.rewrite (fun x c own => ?_) fun x c own => ?_
      · rw [was] at own
        cases own
        exact inside
      · cases own
        exact fun here => inside (jaw.mp here)

theorem putSet_housed (found : s.findSet v.id = some r) (bin : v.bin = r.bin) (jaw : v.state.inAJaw ↔ r.state.inAJaw)
    (holds : v.state = .surrendering ∨ r.state ≠ .surrendering ∨ r.bin.isSome = true ∧ ¬v.state.inAJaw)
    (requests : ∀ q ∈ s.carriageRequests, q.id = v.id → v.state = r.state) (h : s.housed) : (s.putSet v).housed :=
  rewrite_housed (putSet_grounds s v) (findSet_putSet found) found bin jaw holds requests h

theorem putSet_racked (found : s.findSet v.id = some r) (number : v.record = r.record) (pages : v.pages = r.pages)
    (map : v.map = r.map) (ended : s.hr.inService → v.state.ended → r.state.ended ∨ r.anyPage PageStatus.moving = false)
    (h : s.racked) : (s.putSet v).racked := by
  rw [racked_of (putSet_grounds s v) (putSet_fits s v), findSet_putSet found]
  exact Racks.restate h found number pages map ended

/-- What a record keeps in a change that neither law reads. -/
structure SetRecord.stays (r v : SetRecord) : Prop where
  id : v.id = r.id
  lodging : v.lodging = r.lodging
  number : v.record = r.record
  pages : v.pages = r.pages
  map : v.map = r.map

theorem putSet_lodges (found : s.findSet i = some r) (stays : r.stays v) : s.lodges (s.putSet v) := by
  obtain ⟨own, lodging, number, pages, map⟩ := stays
  have state : v.state = r.state := congrArg Prod.fst lodging
  have bin : v.bin = r.bin := congrArg Prod.snd lodging
  rw [← findSet_id found, ← own] at found
  refine ⟨(putSet_fits s v).listsFitted, fun h => ?_, fun _ => putSet_racked found number pages map fun _ => by
    rw [state]; exact Or.inl⟩
  refine putSet_housed found bin (by rw [state]) ?_ (fun _ _ _ => state) h
  rw [state]
  by_cases surrendering : r.state = .surrendering
  · exact .inl surrendering
  · exact .inr (.inl surrendering)

theorem updSet_lodges (s : State) (i : SetId) {f : SetRecord → SetRecord} (stays : ∀ r, SetRecord.stays r (f r)) :
    s.lodges (s.updSet i f) := by
  unfold State.updSet
  split
  · exact .refl s
  · rename_i r found
    exact putSet_lodges found (stays r)

theorem progress_lodges (s : State) (i : SetId) : s.lodges (s.progress i) := updSet_lodges s i fun _ => ⟨rfl, rfl, rfl, rfl, rfl⟩

theorem sighting_lodges (s : State) (i : SetId) : s.lodges (s.sighting i) := updSet_lodges s i fun _ => ⟨rfl, rfl, rfl, rfl, rfl⟩

/-- R49, R50, R78: a record of a set outside the jaws takes another of their states, with no request for it. -/
theorem putSet_lodges_state (found : s.findSet v.id = some r) (bin : v.bin = r.bin) (number : v.record = r.record)
    (pages : v.pages = r.pages) (map : v.map = r.map) (outside : ¬r.state.inAJaw ∧ ¬v.state.inAJaw)
    (holds : r.state ≠ .surrendering ∨ r.bin.isSome = true)
    (requests : s.housed → ∀ q ∈ s.carriageRequests, q.id ≠ v.id)
    (ended : v.state.ended → r.anyPage PageStatus.moving = false) : s.lodges (s.putSet v) :=
  ⟨(putSet_fits s v).listsFitted,
    fun h => putSet_housed found bin ⟨fun inside => absurd inside outside.2, fun inside => absurd inside outside.1⟩
      (.inr (holds.imp_right fun some' => ⟨some', outside.2⟩)) (fun q m own => absurd own (requests h q m)) h,
    fun _ => putSet_racked found number pages map fun _ e => .inr (ended e)⟩

/-! ### Bins -/

theorem setBin_grounds (s : State) (b : Nat) (x : BinState) :
    (s.setBin b x).grounds = { s with co := { s.co with bins := set1 s.co.bins b x } }.grounds := by
  have frame := setBin_frame s b x
  simp only [State.grounds, setBin_co, frame.hr (by decide), frame.gc (by decide), frame.sc (by decide)]

theorem setBin_lodger (s : State) (b : Nat) (x : BinState) : (s.setBin b x).findSet = s.findSet := by
  funext i
  rw [State.findSet, setBin_co, State.findSet]

theorem binState_set1 {b : Nat} (inside : (s.binState b).isSome = true) (x : BinState) :
    (fun c => nth1 (set1 s.co.bins b x) c) = Function.update s.binState b (some x) := by
  obtain ⟨low, high⟩ := (nth1_isSome_iff _ _).mp inside
  funext c
  by_cases same : c = b
  · rw [same, Function.update_self, nth1_set1_same x low high]
  · rw [Function.update_of_ne same, nth1_set1_other _ _ (Ne.symm same)]
    rfl

/-- R34, R35: a bin takes a state. -/
theorem setBin_lodges {b : Nat} {x : BinState} (inside : (s.binState b).isSome = true)
    (holds : s.housed → BinsHold s.lodger (Function.update s.binState b (some x))) : s.lodges (s.setBin b x) := by
  refine ⟨(setBin_fits s b x).listsFitted, fun h => ?_, fun _ h => ?_⟩
  · have same := setBin_lodger s b x
    rw [housed_of (setBin_grounds s b x), lodger_of same]
    refine ⟨?_, h.requests, h.jaws⟩
    have held := holds h
    rw [← binState_set1 inside x] at held
    exact held
  · rw [racked_of (setBin_grounds s b x) (tell_fits s _), setBin_lodger]
    exact h

end Sys2Proof.Machine
end

section
namespace Sys2Proof.Machine

variable {s t : State} {i : SetId} {r v : SetRecord}

/-! ### Units.lean -/

theorem housed_of_blocks (co : t.co = s.co) (sc : t.sc = s.sc) (h : s.housed) : t.housed := by
  have lodger := lodger_of (funext (findSet_of_co co))
  have bins : t.binState = s.binState := by funext b; rw [State.binState, co, State.binState]
  have requests : t.carriageRequests = s.carriageRequests := by
    rw [State.carriageRequests, State.carriageInFlight, sc]
    rfl
  have jaw : t.jaw = s.jaw := by
    funext j
    cases j
    · exact congrArg Stapler.jawA sc
    · exact congrArg Stapler.jawB sc
  obtain ⟨h1, h2, h3⟩ := h
  refine ⟨?_, ?_, ?_⟩
  · rw [lodger, bins]; exact h1
  · rw [lodger, requests]; exact h2
  · rw [lodger, sc, jaw]; exact h3

theorem racked_of_blocks (co : t.co = s.co) (hr : t.hr = s.hr) (gc : t.gc = s.gc) (fits : s.fits t) (h : s.racked) : t.racked := by
  have entries : t.gateEntries = s.gateEntries := by rw [State.gateEntries, gc]; rfl
  rw [State.racked, State.racksWith, funext (findSet_of_co co), fits.rackFitted, hr, entries]
  exact h

/-- An operation on the Stapler Controller's places alone. -/
theorem State.lodges.of_stapler {l : List Block} (h : s.sameBut l t)
    (sub : ∀ b ∈ l, b ∈ [Block.ri, .jt, .cu, .rf, .pw, .sc, .dc, .lc, .bs, .queue]) (fits : s.fits t)
    (places : s.housed → t.housed) : s.lodges t := by
  have frame := sameBut_mono h sub
  exact ⟨fits.listsFitted, places, fun _ => racked_of_blocks (frame.co (by decide)) (frame.hr (by decide)) (frame.gc (by decide)) fits⟩

/-- An operation on the rack alone. -/
theorem State.lodges.of_rack {l : List Block} (h : s.sameBut l t)
    (sub : ∀ b ∈ l, b ∈ [Block.ri, .gc, .jt, .cu, .hr, .rf, .pw, .dc, .lc, .bs, .queue]) (fits : s.fits t)
    (rack : s.housed → s.racked → t.racked) : s.lodges t := by
  have frame := sameBut_mono h sub
  exact ⟨fits.listsFitted, housed_of_blocks (frame.co (by decide)) (frame.sc (by decide)), rack⟩

theorem arbiterIssue_lodges (s : State) : s.lodges s.arbiterIssue := by
  refine .of_rack (arbiterIssue_frame s) (by decide) (arbiterIssue_fits s) fun _ h => ?_
  unfold State.arbiterIssue
  split
  · rename_i idle
    split
    · rename_i head
      exact Racks.issueStore h idle head
    · split
      · exact h
      · rename_i head
        split
        · exact Racks.issueRelease h idle head
        · split
          · exact Racks.issueRelease h idle head
          · exact h
  · exact h

theorem jaw_setJaw (s : State) (j : JawName) (x : JawState) : (s.setJaw j x).jaw = Function.update s.jaw j x := by
  funext k
  by_cases same : k = j
  · rw [same, Function.update_self, jaw_setJaw_same]
  · rw [Function.update_of_ne same, jaw_setJaw_other s x (Ne.symm same)]

theorem setJaw_requests (s : State) (j : JawName) (x : JawState) : (s.setJaw j x).carriageRequests = s.carriageRequests := by
  cases j <;> rfl

theorem setJaw_co (s : State) (j : JawName) (x : JawState) : (s.setJaw j x).co = s.co := (setJaw_frame s j x).co (by decide)

/-- A jaw takes a state. -/
theorem setJaw_housed {j : JawName} {x : JawState} (h : s.housed)
    (jaws : JawsHold s.lodger s.sc.carriage (Function.update s.jaw j x)) : (s.setJaw j x).housed := by
  have co := setJaw_co s j x
  refine ⟨?_, ?_, ?_⟩
  · rw [lodger_of (funext (findSet_of_co co))]
    have bins : (s.setJaw j x).binState = s.binState := by funext b; rw [State.binState, co, State.binState]
    rw [bins]
    exact h.bins
  · rw [lodger_of (funext (findSet_of_co co)), setJaw_requests]
    exact h.requests
  · rw [lodger_of (funext (findSet_of_co co)), jaw_setJaw, (setJaw_sc s j x).1]
    exact jaws

theorem chooseJaw_free {j : JawName} (h : s.chooseJaw = some j) : s.jaw j = .free := by
  unfold State.chooseJaw at h
  split at h
  · cases h
    assumption
  · split at h
    · cases h
      assumption
    · cases h

theorem carriageIssue_lodges (s : State) : s.lodges s.carriageIssue := by
  refine .of_stapler (carriageIssue_frame s) (by decide) (carriageIssue_fits s) fun h => ?_
  unfold State.carriageIssue
  split
  · rename_i idle
    have flight : s.carriageRequests = s.sc.carriageQueue := by
      simp only [State.carriageRequests, State.carriageInFlight, idle]
      rfl
    split
    · exact h
    · rename_i id b rest queue
      split
      · exact h
      · rename_i j chosen
        split
        · obtain ⟨bins, requests, jaws⟩ := h
          rw [flight, queue] at requests
          have loaded := jaws.load (q := .transfer id b) (chooseJaw_free chosen)
          cases j
          · refine ⟨bins, requests, ?_⟩
            rw [jaw_setJaw]
            exact loaded
          · refine ⟨bins, requests, ?_⟩
            rw [jaw_setJaw]
            exact loaded
        · exact h
    · rename_i id b m rest queue
      split
      · obtain ⟨bins, requests, jaws⟩ := h
        rw [flight, queue] at requests
        exact ⟨bins, requests, jaws.drive nofun⟩
      · exact h
  · exact h

theorem arbiter_lodges (s : State) : s.lodges s.arbiter := by
  unfold State.arbiter
  dsimp only
  split
  · exact arbiterIssue_lodges s
  · exact (arbiterIssue_lodges s).trans (carriageIssue_lodges _)

theorem startTest_lodges (s : State) : s.lodges s.startTest := by
  unfold State.startTest
  dsimp only
  split
  · exact carriageIssue_lodges s
  · exact (carriageIssue_lodges s).trans (arbiterIssue_lodges _)

theorem roomReport_lodges (s : State) : s.lodges s.roomReport := (arbiter_lodges s).trans (startTest_lodges _)

/-- A request joins the carriage's queue, for a set that none moves. -/
theorem queueCarriage_lodges {q : CarriageRequest} (moves : s.housed → s.lodger q.id = some (q.moves, some q.bin))
    (first : s.housed → ∀ p ∈ s.carriageRequests, p.id ≠ q.id) : s.lodges (s.queueCarriage q) := by
  have joined : s.lodges (s.withCarriage (s.sc.carriageQueue ++ [q])) := by
    refine .of_stapler (l := [.sc]) (by simp [State.sameBut, State.withCarriage]) (by decide) rfl fun h => ?_
    refine ⟨h.bins, ?_, h.jaws⟩
    have same : (s.withCarriage (s.sc.carriageQueue ++ [q])).carriageRequests = s.carriageRequests ++ [q] :=
      (List.append_assoc _ _ _).symm
    rw [same]
    exact h.requests.join (moves h) (first h)
  rw [queueCarriage_eq]
  split
  · exact joined.trans (startTest_lodges _)
  · exact joined

theorem withdrawCarriage_lodges (s : State) (i : SetId) (x : Bool) : s.lodges (s.withdrawCarriage i x) := by
  have fewer (p : CarriageRequest → Bool) : s.lodges (s.withCarriage (s.sc.carriageQueue.filter p)) := by
    refine .of_stapler (l := [.sc]) (by simp [State.sameBut, State.withCarriage]) (by decide) rfl fun h => ?_
    exact ⟨h.bins, h.requests.fewer (List.filter_sublist.append_left _), h.jaws⟩
  rw [withdrawCarriage_eq]
  split
  · exact (fewer _).trans (startTest_lodges _)
  · exact fewer _

theorem headIssue_lodges (s : State) : s.lodges s.headIssue := by
  unfold State.headIssue
  repeat' split
  all_goals exact .of rfl

theorem deliverTest_lodges (s : State) (p : Nat) : s.lodges (s.deliverTest p) :=
  .of_frame (deliverTest_frame s p) (by decide) (deliverTest_fits s p)

theorem deliverTests_lodges (s : State) : s.lodges s.deliverTests := lodges_foldl _ deliverTest_lodges _ _

/-- R123, R125: what SC keeps with the set in a jaw changes. -/
theorem setJaw_lodges_hold {j : JawName} {st : Stapling} (holding : s.jaw j = .holding i st) (st' : Stapling) :
    s.lodges (s.setJaw j (.holding i st')) :=
  .of_stapler (setJaw_frame s j _) (by decide) (setJaw_fits s j _) fun h => setJaw_housed h (h.jaws.rehold holding)

theorem fixOutcome_lodges (s : State) (j : JawName) (o : SetOutcome) : s.lodges (s.fixOutcome j o) := by
  unfold State.fixOutcome
  split
  · exact setJaw_lodges_hold ‹_› _
  · exact .refl s

/-- R128: a set in a jaw becomes DELIVERING. -/
theorem handOver_lodges {j : JawName} {o : SetOutcome} (jaw : s.housed → ∃ k st, s.jaw k = .holding i st) :
    s.lodges (s.handOver j i o) := by
  unfold State.handOver
  split
  · exact .refl s
  · rename_i r found
    have own := findSet_id found
    subst own
    have put : s.lodges (s.putSet (r.toState .delivering)) := by
      have inside : s.housed → r.state.inAJaw := fun h => by
        obtain ⟨k, st, holding⟩ := jaw h
        obtain ⟨x, c, lodged, inside⟩ := h.jaws.jawed holding
        obtain ⟨r', found', rfl, _⟩ := lodger_eq_some.mp lodged
        rw [found] at found'
        cases found'
        exact inside
      refine .given (putSet_fits s _) fun h => ⟨(putSet_fits s _).listsFitted, fun _ => ?_, fun _ => ?_⟩
      · have not : r.state ≠ .complete ∧ r.state ≠ .surrendering := by
          obtain e | e := inside h <;> rw [e] <;> decide
        exact putSet_housed (v := r.toState .delivering) found rfl ⟨fun _ => inside h, fun _ => .inr rfl⟩ (.inr (.inl not.2))
          (fun q m own => absurd own (unrequested h found not q m)) h
      · exact putSet_racked (v := r.toState .delivering) found rfl rfl rfl fun _ _ => .inl (.inr (inside h))
    refine (put.trans (fixOutcome_lodges _ j o)).trans ?_
    exact .after (deliverTests_lodges _) rfl

end Sys2Proof.Machine
end

section
namespace Sys2Proof.Machine

variable {s t : State} {i : SetId} {r v : SetRecord}

/-! ### Link.lean -/

theorem queueDone_lodges (s : State) : s.lodges s.queueDone := by
  unfold State.queueDone
  split
  · exact .refl s
  · exact .after (startTest_lodges _) rfl

theorem queueDue_lodges (s : State) : s.lodges s.queueDue := by
  unfold State.queueDue
  split
  · exact .refl s
  · dsimp only
    split <;> exact .of rfl

theorem fillPlace_lodges (s : State) : s.lodges s.fillPlace := by
  unfold State.fillPlace
  split
  · split
    · exact queueDue_lodges s
    · exact queueDone_lodges s
  · exact .refl s

theorem fillPlaces_lodges : ∀ (n : Nat) (s : State), s.lodges (State.fillPlaces n s)
  | 0, s => .refl s
  | n + 1, s => (fillPlace_lodges s).trans (fillPlaces_lodges n _)

theorem refillRoutine_lodges (s : State) : s.lodges s.refillRoutine := fillPlaces_lodges _ s

theorem joinDone_lodges (s : State) (d : DoneNotice) : s.lodges (s.joinDone d) := by
  unfold State.joinDone
  dsimp only
  split
  · exact .after (refillRoutine_lodges _) rfl
  · exact .of rfl

theorem queueWaiting_fits (s : State) : s.fits s.queueWaiting := by
  unfold State.queueWaiting
  split
  · split
    · rfl
    · rfl
    · unfold State.formHeld
      dsimp only
      split <;> rfl
  · rfl

theorem queueWaitings_fits : ∀ (n : Nat) (s : State), s.fits (State.queueWaitings n s)
  | 0, _ => rfl
  | n + 1, s => (queueWaiting_fits s).trans (queueWaitings_fits n _)

theorem dueYield_fits (s : State) (i : SetId) (x : YieldReason) : s.fits (s.dueYield i x) := .trans (by rfl) (queueWaitings_fits _ _)

theorem refillUrgent_lodges (s : State) : s.lodges s.refillUrgent :=
  .of_frame (refillUrgent_frame s) (by decide) (queueWaitings_fits _ s)

theorem dueYield_lodges (s : State) (i : SetId) (x : YieldReason) : s.lodges (s.dueYield i x) := .after (refillUrgent_lodges _) rfl

theorem withdrawUrgent_lodges (s : State) (hit : Notice → Bool) : s.lodges (s.withdrawUrgent hit) := by
  unfold State.withdrawUrgent
  dsimp only
  split
  · exact .of rfl
  · exact .after (refillUrgent_lodges _) rfl

theorem withdrawClaim_lodges (s : State) (i : SetId) : s.lodges (s.withdrawClaim i) := withdrawUrgent_lodges s _

theorem removeGone_lodges (s : State) (of : Nat → Bool) (q : List TxEntry) : s.lodges (s.removeGone of q) := by
  unfold State.removeGone
  dsimp only
  split
  · exact .of rfl
  · exact .after (refillRoutine_lodges _) rfl

theorem cancelGone_lodges (s : State) (of : Nat → Bool) : s.lodges (s.cancelGone of) := removeGone_lodges s of _

theorem yieldGone_lodges (s : State) (x : Nat) : s.lodges (s.yieldGone x) := removeGone_lodges s _ _

theorem offerNotice_lodges (s : State) (c : Option (BitVec 2 × BitVec 4)) : s.lodges (s.offerNotice c) := by
  unfold State.offerNotice
  dsimp only
  split
  · split <;> exact .of rfl
  · split <;> exact .of rfl
  · exact .refl s

theorem leaveLine_lodges (s : State) : s.lodges s.leaveLine := by
  have urgent : s.lodges (if (s.lc.urgent.filter fun e => e.onLine.isNone).length = s.lc.urgent.length then
      { s with lc := { s.lc with
        urgent := s.lc.urgent.filter fun e => e.onLine.isNone, routine := s.lc.routine.filter fun e => e.onLine.isNone } }
      else State.refillUrgent { s with lc := { s.lc with
        urgent := s.lc.urgent.filter fun e => e.onLine.isNone, routine := s.lc.routine.filter fun e => e.onLine.isNone } }) := by
    split
    · exact .of rfl
    · exact .after (refillUrgent_lodges _) rfl
  unfold State.leaveLine
  dsimp only
  split
  · exact urgent
  · exact urgent.trans (refillRoutine_lodges _)

theorem setPeer_lodges (s : State) (x : Nat) (p : Peer) : s.lodges (s.setPeer x p) :=
  .of (by simp [State.lodgings, State.grounds, State.fitting])

theorem markPresent_lodges (s : State) (x : Nat) : s.lodges (s.markPresent x) := (setPeer_lodges s _ _).trans (cancelGone_lodges _ _)

theorem restartPresence_lodges (s : State) (x : Nat) : s.lodges (s.restartPresence x) := by
  unfold State.restartPresence
  dsimp only
  split
  · exact setPeer_lodges s _ _
  · exact .refl s

theorem attemptSpoiled_lodges (s : State) : s.lodges s.attemptSpoiled := by
  unfold State.attemptSpoiled
  split
  · exact .refl s
  · dsimp only
    split
    · exact .after (leaveLine_lodges _) rfl
    · split
      · exact .of rfl
      · split
        · exact .after ((restartPresence_lodges _ _).trans (leaveLine_lodges _)) rfl
        · exact .after (leaveLine_lodges _) rfl

theorem wantHello_fits (s : State) : s.fits s.wantHello := by
  unfold State.wantHello State.addDue
  repeat' split
  all_goals rfl

theorem wantHello_lodges (s : State) : s.lodges s.wantHello := .of_frame (wantHello_frame s) (by decide) (wantHello_fits s)

theorem wantGone_lodges (s : State) (x : Nat) : s.lodges (s.wantGone x) := by
  unfold State.wantGone State.addDue
  repeat' split
  all_goals exact .of rfl

/-! ### Bay.lean -/

theorem setBay_fits (s : State) (x : BayState) : s.fits (s.setBay x) := .trans (by rfl) (wantState_fits _)

theorem setBay_lodges (s : State) (x : BayState) : s.lodges (s.setBay x) :=
  .of_frame (setBay_frame s x) (by decide) (setBay_fits s x)

theorem enterJoining_fits (s : State) : s.fits s.enterJoining := by
  refine .trans (setBay_fits s .joining) (.trans ?_ (wantHello_fits _))
  simp [State.fits, State.fitting]

theorem enterJoining_lodges (s : State) : s.lodges s.enterJoining :=
  .of_frame (enterJoining_frame s) (by decide) (enterJoining_fits s)

theorem enterActive_lodges (s : State) : s.lodges s.enterActive :=
  .of_frame (enterActive_frame s) (by decide) (.trans (setBay_fits s .active) rfl)

theorem drainTest_fits (s : State) : s.fits s.drainTest := by
  unfold State.drainTest
  split
  · exact setBay_fits s _
  · rfl

theorem drainTest_lodges (s : State) : s.lodges s.drainTest := .of_frame (drainTest_frame s) (by decide) (drainTest_fits s)

theorem rejoinTest_fits (s : State) : s.fits s.rejoinTest := by
  unfold State.rejoinTest
  split
  · exact enterJoining_fits s
  · rfl

theorem rejoinTest_lodges (s : State) : s.lodges s.rejoinTest :=
  .of_frame (rejoinTest_frame s) (by decide) (rejoinTest_fits s)

theorem setHeard_lodges (s : State) : s.lodges s.setHeard := .after (rejoinTest_lodges _) rfl

theorem removeSet_fits (s : State) (i : SetId) : s.fits (s.removeSet i) := by
  unfold State.removeSet
  split
  · rfl
  · exact ((dropSet_fits s _).trans (drainTest_fits _)).trans (rejoinTest_fits _)

theorem removeSet_bins (s : State) (i : SetId) : (s.removeSet i).co.bins = s.co.bins := by
  unfold State.removeSet
  split
  · rfl
  · rw [(rejoinTest_frame _).co (by decide), (drainTest_frame _).co (by decide), State.dropSet,
      (unbindingTest_frame _ _).co (by decide), tell_sets]

theorem removeSet_grounds (s : State) (i : SetId) : (s.removeSet i).grounds = s.grounds :=
  grounds_of_frame (removeSet_frame s i) (by decide) (removeSet_bins s i)

theorem PageStatus.moves_of_awaited {x : PageStatus} (h : x.awaited = true) : x.moving = true := by
  cases x <;> first | rfl | exact h

theorem PageStatus.shelf_of_still {x : PageStatus} (h : x.moving = false) : x.shelf = none := by
  cases x <;> first | rfl | exact nomatch h

/-- The rack's law where a record goes that has no page on its way. -/
theorem Racks.remove {g : Table} {half : Nat} {h : Rack} {l : List Entry} (law : Racks g half h l)
    (found : g i = some r) (shelf : ∀ p, (r.status p).shelf = none) (rests : h.inService → r.anyPage PageStatus.moving = false) :
    Racks (Function.update g i none) half h l := by
  have own : Function.update g i none i = none := Function.update_self ..
  refine law.table (fun {j q} there => ?_) (fun j p => ?_) fun service j p awaited => ?_
  · by_cases same : j = i
    · rw [same, own] at there
      cases there
    · rw [Function.update_of_ne same] at there
      exact law.filed there
  · by_cases same : j = i
    · rw [same, Table.page_of_none own, Table.page_of found, shelf]
      rfl
    · simp only [Table.page, Function.update_of_ne same]
  · by_cases same : j = i
    · rw [same, Table.page_of found] at awaited
      have moves := PageStatus.moves_of_awaited awaited
      rw [resting_iff.mp (rests service) p] at moves
      cases moves
    · simp only [Table.page, Table.number, Function.update_of_ne same, and_self]

/-- R100: a record goes that holds no bin, no request and no page on its way. -/
theorem removeSet_lodges (found : s.findSet i = some r) (bin : r.bin = none) (outside : ¬r.state.inAJaw)
    (requests : s.housed → ∀ q ∈ s.carriageRequests, q.id ≠ i) (rests : r.anyPage PageStatus.moving = false) :
    s.lodges (s.removeSet i) := by
  have was : s.lodger i = some (r.state, none) := lodger_eq_some.mpr ⟨r, found, rfl, bin⟩
  refine ⟨(removeSet_fits s i).listsFitted, fun h => ?_, fun _ law => ?_⟩
  · rw [housed_of (removeSet_grounds s i), lodger_update (findSet_removal s i)]
    refine ⟨h.bins.remove was, h.requests.rewrite (requests h), h.jaws.rewrite (fun x c own => ?_) nofun⟩
    rw [was] at own
    cases own
    exact outside
  · rw [racked_of (removeSet_grounds s i) (removeSet_fits s i), findSet_removal]
    exact Racks.remove law found (fun p => PageStatus.shelf_of_still (resting_iff.mp rests p)) fun _ => rests

end Sys2Proof.Machine
end

section
namespace Sys2Proof.Machine

variable {s t : State} {i : SetId} {r v : SetRecord}

/-! ### Sets.lean: the tests of a SURRENDERING set -/

/-- A bin that is freed is no longer ASSIGNED, and others stay as they are. -/
theorem freeBin_binState (s : State) (b : Nat) : (s.freeBin b).binState b ≠ some .assigned
    ∧ ∀ d, d ≠ b → (s.freeBin b).binState d = s.binState d := by
  unfold State.freeBin
  split
  · rename_i assigned
    have same : (s.setBin b .available).binState = Function.update s.binState b (some .available) := by
      rw [← binState_set1 (by rw [assigned]; rfl)]
      funext c
      rw [State.binState, setBin_co]
    rw [same, Function.update_self]
    exact ⟨nofun, fun d other => Function.update_of_ne other ..⟩
  · exact ⟨by assumption, fun _ _ => rfl⟩

theorem freeBin_table (s : State) (b : Nat) : (s.freeBin b).findSet = s.findSet := funext (findSet_freeBin s b)

/-- No request moves a SURRENDERING set with no UNLOAD queued or in flight. -/
theorem unrequested_surrendering (h : s.housed) (found : s.findSet i = some r) (state : r.state = .surrendering)
    (none : s.unloadPending i = false) : ∀ q ∈ s.carriageRequests, q.id ≠ i := by
  rintro q m rfl
  obtain ⟨r', found', moved, _⟩ := lodger_eq_some.mp (h.requests.moves q m)
  rw [found] at found'
  cases found'
  rw [state, CarriageRequest.moves] at moved
  split at moved
  · rename_i unload
    have pending := unloadPending_iff.mpr ⟨q, m, unload, rfl⟩
    rw [none] at pending
    cases pending
  · cases moved

/-- R34, R98: a SURRENDERING record gives up its bin. -/
theorem giveUp_lodges {b : Nat} (found : s.findSet i = some r) (state : r.state = .surrendering) (bin : r.bin = some b)
    (requests : s.housed → ∀ q ∈ s.carriageRequests, q.id ≠ i) : s.lodges ((s.freeBin b).putSet { r with bin := none }) := by
  obtain rfl := findSet_id found
  have found' : (s.freeBin b).findSet r.id = some r := by rw [freeBin_table]; exact found
  have fits := (freeBin_fits s b).trans (putSet_fits _ { r with bin := none })
  have table : ((s.freeBin b).putSet { r with bin := none }).findSet
      = Function.update s.findSet r.id (some { r with bin := none }) := by
    rw [findSet_putSet (v := { r with bin := none }) found', freeBin_table]
  have frame := sameBut_trans (sameBut_mono (freeBin_frame s b) (by decide)) (putSet_frame _ { r with bin := none })
  have was : s.lodger r.id = some (.surrendering, some b) := lodger_eq_some.mpr ⟨r, found, state, bin⟩
  have lodging : Option.map SetRecord.lodging (some { r with bin := none }) = some (.surrendering, none) := by
    rw [Option.map_some, SetRecord.lodging, state]
  refine ⟨fits.listsFitted, fun h => ?_, fun _ h => ?_⟩
  · have sc := frame.sc (by decide)
    have reqs : ((s.freeBin b).putSet { r with bin := none }).carriageRequests = s.carriageRequests := by
      rw [State.carriageRequests, State.carriageInFlight, sc]
      rfl
    have jaw : ((s.freeBin b).putSet { r with bin := none }).jaw = s.jaw := by
      funext j
      cases j
      · exact congrArg Stapler.jawA sc
      · exact congrArg Stapler.jawB sc
    obtain ⟨freed, others⟩ := freeBin_binState s b
    have bins : ((s.freeBin b).putSet { r with bin := none }).binState = (s.freeBin b).binState := by
      funext d
      rw [State.binState, putSet_bins, State.binState]
    refine ⟨?_, ?_, ?_⟩
    · rw [lodger_update table, lodging, bins]
      exact h.bins.giveUp was (.inl rfl) freed others
    · rw [lodger_update table, reqs]
      exact h.requests.rewrite (requests h)
    · rw [lodger_update table, lodging, jaw, sc]
      refine h.jaws.rewrite (fun x c own => ?_) fun x c own => ?_
      · rw [was] at own
        cases own
        decide
      · cases own
        decide
  · have entries : ((s.freeBin b).putSet { r with bin := none }).gateEntries = s.gateEntries := by
      rw [State.gateEntries, frame.gc (by decide)]
      rfl
    rw [State.racked, State.racksWith, table, fits.rackFitted, frame.hr (by decide), entries]
    exact Racks.restate h found rfl rfl rfl fun _ => Or.inl

theorem unloadTest_lodges (s : State) (i : SetId) : s.lodges (s.unloadTest i) := by
  unfold State.unloadTest
  split
  · exact .refl s
  · rename_i r found
    split
    · exact .refl s
    · rename_i b bin
      split
      · rename_i settled
        simp only [State.unloadSettled, Bool.and_eq_true, beq_iff_eq, Bool.not_eq_true'] at settled
        obtain ⟨⟨⟨⟨state, _⟩, _⟩, _⟩, none⟩ := settled
        rw [findSet_id found] at none
        have requests := fun h => unrequested_surrendering h found state none
        split
        · exact giveUp_lodges found state bin requests
        · exact queueCarriage_lodges (fun _ => lodger_eq_some.mpr ⟨r, found, state, bin⟩) requests
      · exact .refl s

theorem removalTest_lodges (s : State) (i : SetId) : s.lodges (s.removalTest i) := by
  unfold State.removalTest
  split
  · exact .refl s
  · rename_i r found
    split
    · rename_i removable
      simp only [State.removable, Bool.and_eq_true, beq_iff_eq, Bool.not_eq_true'] at removable
      obtain ⟨⟨⟨state, bin⟩, absent⟩, none⟩ := removable
      rw [findSet_id found] at none
      refine removeSet_lodges found bin (by rw [state]; decide) (fun h => unrequested_surrendering h found state none) ?_
      refine resting_iff.mpr fun p => ?_
      by_contra moves
      have away : r.status p ≠ .absent := fun e => by rw [e] at moves; exact moves rfl
      have := List.all_eq_true.mp absent _ (status_mem away)
      exact away (by simpa using this)
    · exact .refl s

/-! ### Sets.lean: entries undone -/

theorem undoPage_fits (s : State) (g : PageRef) : s.fits (s.undoPage g) := by
  unfold State.undoPage
  split
  · rfl
  · split
    · exact setPage_fits s _ _ _
    · rfl

theorem undoReservation_fits (s : State) (k : Nat) (i : SetId) (p : Nat) : s.fits (s.undoReservation k i p) := by
  unfold State.undoReservation
  split
  · simp [State.fits, State.fitting]
  · rfl

theorem undoAction_fits (s : State) (e : Entry) : s.fits (s.undoAction e) := by
  unfold State.undoAction
  split
  · exact undoPage_fits s _
  · exact (undoPage_fits s _).trans (undoReservation_fits _ _ _ _)
  · rfl

/-- A page's change leaves the law of the places alone. -/
theorem setPage_housed (i : SetId) (p : Nat) (x : PageStatus) (h : s.housed) : (s.setPage i p x).housed := by
  cases found : s.findSet i with
  | none =>
    have same : s.setPage i p x = s := by simp only [State.setPage, State.updSet, found]
    rw [same]
    exact h
  | some r =>
    have lodger : (s.setPage i p x).lodger = s.lodger := by
      rw [lodger_update (findSet_setPage found p x)]
      funext j
      by_cases same : j = i
      · rw [same, Function.update_self]
        exact (lodger_eq_some.mpr ⟨r, found, rfl, rfl⟩).symm
      · rw [Function.update_of_ne same]
    rw [housed_of (setPage_grounds s i p x), lodger]
    exact ⟨h.bins, h.requests, h.jaws⟩

theorem undoPage_housed (g : PageRef) (h : s.housed) : (s.undoPage g).housed := by
  unfold State.undoPage
  split
  · exact h
  · split
    · exact setPage_housed _ _ _ h
    · exact h

theorem undoAction_housed (e : Entry) (h : s.housed) : (s.undoAction e).housed := by
  unfold State.undoAction
  split
  · exact undoPage_housed _ h
  · rename_i k g _ _
    have frame := undoReservation_frame (s.undoPage g) k g.id g.page
    exact housed_of_blocks (frame.co (by decide)) (frame.sc (by decide)) (undoPage_housed _ h)
  · exact h

/-- A rack out of service does not serve the entries. -/
theorem Racks.out {g : Table} {half : Nat} {h : Rack} {l : List Entry} (law : Racks g half h l) (out : h.rack = .outOfService)
    (l' : List Entry) : Racks g half h l' := ⟨law.filed, law.shelved, fun service => absurd out service, law.emptied⟩

/-- R67: out of service, a page turns to one that is in no pocket, if the record has it. -/
theorem Racks.unserved_set {g : Table} {half : Nat} {h : Rack} {l : List Entry} {p : Nat} {y : PageStatus}
    (law : Racks g half h l) (out : h.rack = .outOfService) (found : g i = some r) (moving : y.moving = false) (l' : List Entry) :
    Racks (Function.update g i (some (r.setStatus p y))) half h l' := by
  have share : y.inShare = false := by cases y <;> first | rfl | exact nomatch moving
  have filed := (law.filed found).turn (p := p) (.inl moving) fun shares => by rw [share] at shares; cases shares
  by_cases inside : 1 ≤ p ∧ p ≤ r.map.length
  · exact law.unserved out (update_turns found rfl rfl inside) (PageStatus.shelf_of_still moving) (filed_update law.filed filed)
  · have same : Function.update g i (some (r.setStatus p y)) = g := by
      rw [setStatus_of_outside inside, ← found, Function.update_eq_self]
    rw [same]
    exact law.out out l'

theorem racksWith_setPage {p : Nat} {x : PageStatus} {l : List Entry} (found : s.findSet i = some r)
    (law : Racks (Function.update s.findSet i (some (r.setStatus p x))) (s.rackFitted / 2) s.hr l) :
    (s.setPage i p x).racksWith l := by
  rw [State.racksWith, findSet_setPage found, (setPage_fits s i p x).rackFitted, setPage_hr]
  exact law

theorem recordOf_of_sound {g : PageRef} (number : Table.number s.findSet g.id = some g.record) :
    ∃ r, s.findSet g.id = some r ∧ s.recordOf g = some r := by
  unfold State.recordOf
  cases found : s.findSet g.id with
  | none => simp [Table.number, found] at number
  | some r =>
    rw [Table.number_of found] at number
    exact ⟨r, rfl, if_pos (Option.some.inj number)⟩

/-- R67: out of service, the undoing of an entry takes at most a page back from its way to the bin. -/
theorem undoPage_racks_out {g : PageRef} {l : List Entry} (out : s.hr.rack = .outOfService) (law : s.racksWith l) (l' : List Entry) :
    (s.undoPage g).racksWith l' := by
  unfold State.undoPage
  split
  · exact Racks.out law out l'
  · rename_i r record
    split
    · have found := ((recordOf_eq_some s).mp record).1
      exact racksWith_setPage found (Racks.unserved_set law out found rfl l')
    · exact Racks.out law out l'

/-- R44: the page of a sound entry is taken back. -/
theorem undoPage_of_sound {g : PageRef} {x : PageStatus} (number : Table.number s.findSet g.id = some g.record)
    (page : Table.page s.findSet g.id g.page = x) (inbound : x.inboundP = true) :
    ∃ r, s.findSet g.id = some r ∧ r.status g.page = x ∧ s.undoPage g = s.setPage g.id g.page .absent := by
  obtain ⟨r, found, record⟩ := recordOf_of_sound number
  have status : r.status g.page = x := (Table.page_of found g.page).symm.trans page
  refine ⟨r, found, status, ?_⟩
  simp only [State.undoPage, record, status, inbound, if_true]

theorem filed_absent {half : Nat} {S : Prop} (f : r.filed half S) (p : Nat) : (r.setStatus p .absent).filed half S :=
  f.turn (.inl rfl) fun shares => nomatch shares

/-- R44, R57: the undoing of an entry takes it out of the rack's law. -/
theorem undoAction_racks {e : Entry} {l : List Entry} (law : s.racksWith (e :: l)) : (s.undoAction e).racksWith l := by
  by_cases out : s.hr.rack = .outOfService
  · unfold State.undoAction
    split
    · exact undoPage_racks_out out law l
    · rename_i k g _ _
      have undone := undoPage_racks_out (g := g) out law l
      have rack : (s.undoPage g).hr = s.hr := (undoPage_frame s g).hr (by decide)
      have unreserved : nth1 (s.undoPage g).hr.pockets k ≠ some (.reserved g.id g.page) := fun pocket => by
        have sheet := sheet_reserved.mpr pocket
        have shelf := (undone.shelved k g.id g.page false).mp sheet
        rw [Racks.shelfless undone (by rw [rack]; exact out)] at shelf
        cases shelf
      rw [State.undoReservation, if_neg unreserved]
      exact undone
    · exact Racks.out law out l
  · have served := law.served out
    have sound := served.entries e (List.mem_cons_self ..)
    unfold Entry.sound at sound
    unfold State.undoAction
    cases action : e.action with
    | bin b =>
      rw [action] at sound
      obtain ⟨g, target, number, page⟩ := sound
      obtain ⟨r, found, status, undone⟩ := undoPage_of_sound number page rfl
      rw [target]
      dsimp only
      rw [undone]
      refine racksWith_setPage found (Racks.dropBin law action target
        (update_turns (v := r.setStatus g.page .absent) found rfl rfl ?_) rfl ?_)
      · exact page_in_map (by rw [status]; nofun)
      · exact filed_update law.filed (filed_absent (law.filed found) _)
    | rack k =>
      rw [action] at sound
      obtain ⟨g, target, number, page⟩ := sound
      obtain ⟨r, found, status, undone⟩ := undoPage_of_sound number page rfl
      have reserved : nth1 s.hr.pockets k = some (.reserved g.id g.page) :=
        sheet_reserved.mp ((law.shelved k g.id g.page false).mpr (by rw [page]; rfl))
      rw [target]
      dsimp only
      rw [undone, State.undoReservation, setPage_hr, if_pos reserved]
      have dropped := Racks.dropRack law out action target
        (update_turns (v := r.setStatus g.page .absent) found rfl rfl (page_in_map (by rw [status]; nofun)))
        (filed_update law.filed (filed_absent (law.filed found) _))
      rw [State.racksWith]
      change Racks (s.setPage g.id g.page .absent).findSet ((s.setPage g.id g.page .absent).rackFitted / 2) _ l
      rw [findSet_setPage found, (setPage_fits s g.id g.page .absent).rackFitted]
      exact dropped
    | pass | reject | fill => exact Racks.undivert law (by rw [Entry.diverting, action])

theorem undoActions_racks : ∀ (es : List Entry) (s : State) {l : List Entry}, s.racksWith (es ++ l) →
    (es.foldl State.undoAction s).racksWith l
  | [], _, _, law => law
  | e :: es, s, _, law => undoActions_racks es (s.undoAction e) (undoAction_racks law)

theorem undoActions_housed : ∀ (es : List Entry) (s : State), s.housed → (es.foldl State.undoAction s).housed
  | [], _, h => h
  | e :: es, s, h => undoActions_housed es (s.undoAction e) (undoAction_housed e h)

theorem undoActions_frame (es : List Entry) (s : State) : s.sameBut [.co, .hr, .dc, .lc] (es.foldl State.undoAction s) :=
  sameBut_foldl _ undoAction_frame _ _

/-- R14: the entries that are hit rewritten to PASS leave the others to divert sheets. -/
theorem rewritten_perm (hit : Entry → Bool) (q l : List Entry) :
    ((q.filter (fun e => !hit e) ++ l).filter Entry.diverting).Perm
      ((q.map (fun e => if hit e then e.asPass else e) ++ l).filter Entry.diverting) := by
  have same : (q.filter (fun e => !hit e)).filter Entry.diverting
      = (q.map (fun e => if hit e then e.asPass else e)).filter Entry.diverting := by
    induction q with
    | nil => rfl
    | cons e q ih =>
      cases own : hit e with
      | true =>
        rw [List.filter_cons_of_neg (by simp [own]), List.map_cons, if_pos own, List.filter_cons_of_neg (by simp [Entry.diverting, Entry.asPass]), ih]
      | false =>
        rw [List.filter_cons_of_pos (by simp [own]), List.map_cons, if_neg (by simp [own]), List.filter_cons, List.filter_cons, ih]
  rw [List.filter_append, List.filter_append, same]

/-- R14: every entry of the approach queue that is hit is rewritten to PASS and undone. -/
theorem rewrites_lodges (hit : Entry → Bool) (s : State) : s.lodges
    { (s.gc.queue.filter hit).foldl State.undoAction s with
      gc := { ((s.gc.queue.filter hit).foldl State.undoAction s).gc with
        queue := ((s.gc.queue.filter hit).foldl State.undoAction s).gc.queue.map (fun e => if hit e then e.asPass else e) } } := by
  have gc := (undoActions_frame (s.gc.queue.filter hit) s).gc (by decide)
  have fits : s.fits ((s.gc.queue.filter hit).foldl State.undoAction s) := fits_foldl _ undoAction_fits _ _
  refine ⟨fun fitted => fits.listsFitted fitted, fun h => ?_, fun _ law => ?_⟩
  · exact housed_of_blocks (s := (s.gc.queue.filter hit).foldl State.undoAction s) rfl rfl (undoActions_housed _ s h)
  have split : (s.gateEntries.filter Entry.diverting).Perm ((s.gc.queue.filter hit ++ (s.gc.queue.filter (fun e => !hit e) ++
      (match s.gc.gate with | .busy e => [e] | .idle | .faulted => []))).filter Entry.diverting) := by
    rw [← List.append_assoc]
    exact (((List.filter_append_perm hit s.gc.queue).symm.append_right _)).filter _
  have undone := undoActions_racks _ s (Racks.perm law split)
  have rewritten := Racks.perm undone (rewritten_perm hit s.gc.queue _)
  rw [State.racked]
  unfold State.gateEntries
  rw [gc]
  exact rewritten

theorem rewriteSet_lodges (s : State) (i : SetId) : s.lodges (s.rewriteSet i) := rewrites_lodges _ s

theorem rewriteRack_lodges (s : State) : s.lodges s.rewriteRack := rewrites_lodges _ s

end Sys2Proof.Machine
end

section
namespace Sys2Proof.Machine

variable {s t : State} {i : SetId} {r v : SetRecord}

/-! ### Sets.lean: releases, surrender and completion -/

/-- R63: the law of the rack does not read where releases go. -/
theorem redirect_lodges (s : State) (i : SetId) : s.lodges (s.redirect i) := by
  refine .of_rack (redirect_frame s i) (by decide) rfl fun _ law => ?_
  have redirected (x : Release) : (if x.id = i then { x with dest := .feeder } else x).id = x.id
      ∧ (if x.id = i then { x with dest := .feeder } else x).page = x.page
      ∧ (if x.id = i then { x with dest := .feeder } else x).pocket = x.pocket := by split <;> exact ⟨rfl, rfl, rfl⟩
  refine ⟨law.filed, law.shelved, fun service => ?_, fun out => ?_⟩
  · obtain ⟨entries, oneEntry, reserved, room, inlet, oneSheet, store, releases, oneRelease⟩ := law.served service
    refine ⟨entries, oneEntry, reserved, room, inlet, oneSheet, store, fun x m => ?_, ?_⟩
    · obtain flight | queued := List.mem_append.mp m
      · exact releases x (List.mem_append_left _ flight)
      · obtain ⟨z, mz, rfl⟩ := List.mem_map.mp queued
        obtain ⟨id, page, pocket⟩ := redirected z
        rw [id, page, pocket]
        exact releases z (List.mem_append_right _ mz)
    · have pockets : (s.redirect i).hr.releases.map Release.pocket = s.hr.releases.map Release.pocket := by
        change (s.hr.releases.map _).map _ = _
        rw [List.map_map]
        exact List.map_congr_left fun x _ => (redirected x).2.2
      rw [Rack.allReleases, List.map_append] at oneRelease ⊢
      rw [pockets]
      exact oneRelease
  · obtain ⟨inlet, reserved, none, pockets⟩ := law.emptied out
    exact ⟨inlet, reserved, by change s.hr.releases.map _ = []; rw [none]; rfl, pockets⟩

/-- R45, R47: a HELD page is released, and its release queued. -/
theorem release_lodges {p k : Nat} (found : s.findSet i = some r) (held : r.status p = .held k) (dest : Dest) :
    s.lodges ((s.setPage i p (.releasing k)).queueRelease { pocket := k, id := i, page := p, dest := dest }) := by
  refine .trans ?_ (arbiter_lodges _)
  refine ⟨fun fitted => (setPage_fits s i p (.releasing k)).listsFitted fitted, fun h => ?_, fun _ law => ?_⟩
  · exact housed_of_blocks (s := s.setPage i p (.releasing k)) rfl rfl (setPage_housed i p _ h)
  · have inside := page_in_map (r := r) (p := p) (by rw [held]; nofun)
    have entries : (s.setPage i p (.releasing k)).gateEntries = s.gateEntries := by
      rw [State.gateEntries, (setPage_frame s i p (.releasing k)).gc (by decide)]
      rfl
    rw [State.racked, State.racksWith]
    change Racks (s.setPage i p (.releasing k)).findSet ((s.setPage i p (.releasing k)).rackFitted / 2)
      { (s.setPage i p (.releasing k)).hr with releases := (s.setPage i p (.releasing k)).hr.releases ++ [_] }
      (s.setPage i p (.releasing k)).gateEntries
    rw [entries, setPage_hr, findSet_setPage found, (setPage_fits s i p (.releasing k)).rackFitted]
    refine Racks.release law (x := { pocket := k, id := i, page := p, dest := dest }) ((Table.page_of found p).trans held)
      (update_turns (v := r.setStatus p (.releasing k)) found rfl rfl inside) (filed_update law.filed ?_)
    exact (law.filed found).turn (.inr (.inl (by rw [held]; rfl))) fun _ => .inl (by rw [held]; rfl)

theorem releaseToFeeder_lodges (s : State) (i : SetId) (p : Nat) : s.lodges (s.releaseToFeeder i p) := by
  unfold State.releaseToFeeder
  split
  · exact .refl s
  · split
    · exact release_lodges ‹_› ‹_› _
    · exact .refl s

theorem releaseTest_lodges (s : State) (i : SetId) : s.lodges (s.releaseTest i) := by
  unfold State.releaseTest
  split
  · exact .refl s
  · rename_i r found
    split
    · rename_i b p k _ page
      obtain ⟨q, j, held, e⟩ : ∃ q j, r.status q = .held j ∧ (p, k) = (q, j) := by
        unfold SetRecord.releasePage at page
        dsimp only at page
        split at page
        · cases page
        · split at page
          · split at page
            · cases page
            · cases page
              exact ⟨_, _, ‹_›, rfl⟩
          · cases page
      cases e
      exact release_lodges found held _
    · exact .refl s

theorem claimless_lodges (s : State) (r : SetRecord) : s.lodges (s.claimless r) := by
  unfold State.claimless
  split
  · exact withdrawClaim_lodges s _
  · exact .refl s

theorem countSurrender_lodges (s : State) : s.lodges s.countSurrender := .of rfl

/-- No request but a TRANSFER that is queued moves a COMPLETE set whose transfer is not in flight. -/
theorem unrequested_complete (h : s.housed) (found : s.findSet i = some r) (state : r.state = .complete)
    (flight : s.transferInFlight i = false) (q : CarriageRequest)
    (m : q ∈ s.carriageInFlight.toList ++ s.sc.carriageQueue.filter (fun q => !(q.id == i && q.isUnload == false))) : q.id ≠ i := by
  rintro rfl
  obtain inFlight | queued := List.mem_append.mp m
  · obtain ⟨r', found', moved, _⟩ := lodger_eq_some.mp (h.requests.moves q (List.mem_append_left _ inFlight))
    rw [found] at found'
    cases found'
    rw [state, CarriageRequest.moves] at moved
    split at moved
    · cases moved
    · rename_i transfer
      rw [Option.mem_toList] at inFlight
      simp only [State.transferInFlight, Option.mem_def.mp inFlight] at flight
      simp [transfer] at flight
  · obtain ⟨queued, other⟩ := List.mem_filter.mp queued
    obtain ⟨r', found', moved, _⟩ := lodger_eq_some.mp (h.requests.moves q (List.mem_append_right _ queued))
    rw [found] at found'
    cases found'
    rw [state, CarriageRequest.moves] at moved
    split at moved
    · cases moved
    · rename_i transfer
      simp [transfer] at other

/-- R93 steps 1 to 3: the record becomes SURRENDERING, and no TRANSFER of it stays queued. -/
theorem beginSurrender_lodges (found : s.findSet i = some r) (may : s.surrenderable r = true) : s.lodges (s.beginSurrender r) := by
  obtain rfl := findSet_id found
  have before := claimless_lodges s r
  have same := (claimless_frame s r)
  have found' : (s.claimless r).findSet r.id = some r := (findSet_of_co (same.co (by decide)) r.id).trans found
  rw [beginSurrender_eq]
  split
  · rename_i state
    have flight : s.transferInFlight r.id = false := by
      simpa [State.surrenderable, state] using may
    have unclaimed : s.claimless r = s := if_neg (by rw [state]; decide)
    rw [unclaimed]
    have given : s.lodges (((s.putSet r.surrendered).countSurrender).withCarriage
        (s.sc.carriageQueue.filter (fun q => !(q.id == r.id && q.isUnload == false)))) := by
      have fits : s.fits (((s.putSet r.surrendered).countSurrender).withCarriage
        (s.sc.carriageQueue.filter (fun q => !(q.id == r.id && q.isUnload == false)))) := putSet_fits s r.surrendered
      have grounds : (((s.putSet r.surrendered).countSurrender).withCarriage
          (s.sc.carriageQueue.filter (fun q => !(q.id == r.id && q.isUnload == false)))).grounds
          = (s.withCarriage (s.sc.carriageQueue.filter (fun q => !(q.id == r.id && q.isUnload == false)))).grounds := by
        have put := putSet_grounds s r.surrendered
        simp only [State.grounds, Prod.mk.injEq] at put
        obtain ⟨bins, rack, queue, gate, carriage, _, jawA, jawB⟩ := put
        simp only [State.grounds, State.withCarriage, State.countSurrender, bins, rack, queue, gate, carriage, jawA, jawB]
      have table : (((s.putSet r.surrendered).countSurrender).withCarriage
          (s.sc.carriageQueue.filter (fun q => !(q.id == r.id && q.isUnload == false)))).findSet
          = Function.update s.findSet r.surrendered.id (some r.surrendered) := findSet_putSet (v := r.surrendered) found
      refine ⟨fits.listsFitted, fun h => ?_, fun _ law => ?_⟩
      · refine rewrite_housed (r := r) grounds table found rfl (iff_of_false ?_ ?_) (.inl rfl)
          (fun q m own => ?_) ⟨h.bins, h.requests.fewer (List.filter_sublist.append_left _), h.jaws⟩
        · exact show ¬SetState.inAJaw .surrendering by decide
        · rw [state]; decide
        · exact absurd own (unrequested_complete h found state flight q m)
      · rw [racked_of grounds fits, table]
        exact Racks.restate law found rfl rfl rfl nofun
    have queue : (s.putSet r.surrendered).countSurrender.sc = s.sc := (putSet_frame s _).sc (by decide)
    rw [withdrawCarriage_eq, queue]
    split
    · exact given.trans (startTest_lodges _)
    · exact given
  · rename_i other
    refine (before.trans (putSet_lodges_state (v := r.surrendered) found' rfl rfl rfl rfl ?_ (.inl ?_) (fun h => ?_) nofun)).trans
      (countSurrender_lodges _)
    · cases state : r.state <;> simp_all [State.surrenderable, SetRecord.surrendered, SetRecord.toState]
    · intro state
      simp [State.surrenderable, state] at may
    · refine unrequested h found' ⟨other, ?_⟩
      intro state
      simp [State.surrenderable, state] at may

theorem endSurrender_lodges (s : State) (r : SetRecord) (x : Option YieldReason) : s.lodges (s.endSurrender r x) := by
  have yielded : s.lodges (match x with
      | some y => if r.state = .claiming then s else s.dueYield r.id y
      | none => s) := by
    split
    · split
      · exact .refl s
      · exact dueYield_lodges s _ _
    · exact .refl s
  refine .trans ?_ (removalTest_lodges _ _)
  refine .trans ?_ (unloadTest_lodges _ _)
  refine .trans ?_ (lodges_foldl _ (fun t p => releaseToFeeder_lodges t r.id p) _ _)
  exact (yielded.trans (rewriteSet_lodges _ _)).trans (redirect_lodges _ _)

/-- R93: a set that may be surrendered is. -/
theorem surrender_lodges {i : SetId} (x : Option YieldReason) (may : ∀ r, s.findSet i = some r → s.surrenderable r = true) :
    s.lodges (s.surrender i x) := by
  unfold State.surrender
  split
  · exact .refl s
  · rename_i r found
    exact (beginSurrender_lodges found (may r found)).trans (endSurrender_lodges _ _ _)

theorem surrenderTurn_lodges (x : Option YieldReason) (s : State) (i : SetId) : s.lodges (s.surrenderTurn x i) := by
  unfold State.surrenderTurn
  split
  · rename_i may
    refine surrender_lodges x fun r found => ?_
    rw [found] at may
    exact may
  · exact .refl s

theorem surrenderAll_lodges (s : State) (x : Option YieldReason) : s.lodges (s.surrenderAll x) := by
  rw [surrenderAll_eq]
  exact lodges_foldl _ (surrenderTurn_lodges x) _ _

theorem completeSet_fits (s : State) (r : SetRecord) (x : Bool) : s.fits (s.completeSet r x) :=
  (putSet_fits s _).trans (queueCarriage_fits _ _)

/-- R49, R51, R52: a set with nothing on its way becomes COMPLETE, and its TRANSFER is queued. -/
theorem completeSet_lodges (found : s.findSet i = some r) (x : Bool) (outside : ¬r.state.inAJaw)
    (holds : r.state ≠ .surrendering ∨ r.bin.isSome = true) (requests : s.housed → ∀ q ∈ s.carriageRequests, q.id ≠ i)
    (rests : r.anyPage PageStatus.moving = false) : s.lodges (s.completeSet r x) := by
  obtain rfl := findSet_id found
  refine .given (completeSet_fits s r x) fun h => ?_
  have put : s.lodges (s.putSet { r.toState .complete with isPartial := x }) :=
    putSet_lodges_state (v := { r.toState .complete with isPartial := x }) found rfl rfl rfl rfl
      ⟨outside, show ¬SetState.inAJaw .complete by decide⟩ holds
      requests fun _ => rests
  have bin : r.bin.isSome = true :=
    holds.elim (fun other => ((h.bins.binned (lodger_eq_some.mpr ⟨r, found, rfl, rfl⟩)).resolve_left other).mpr outside) fun h => h
  refine put.trans (queueCarriage_lodges (fun _ => ?_) fun _ q m => ?_)
  · refine lodger_eq_some.mpr ⟨_, findSet_putSet_same (r := { r.toState .complete with isPartial := x }) found, rfl, ?_⟩
    obtain ⟨b, e⟩ := Option.isSome_iff_exists.mp bin
    change r.bin = some (r.bin.getD 0)
    rw [e]
    rfl
  · have sc : (s.putSet { r.toState .complete with isPartial := x }).sc = s.sc := (putSet_frame s _).sc (by decide)
    rw [State.carriageRequests, State.carriageInFlight, sc] at m
    exact requests h q m

theorem placed_rests (h : r.map.all (· == .placed) = true) : r.anyPage PageStatus.moving = false := by
  refine resting_iff.mpr fun p => ?_
  by_contra moves
  have away : r.status p ≠ .absent := fun e => by rw [e] at moves; exact moves rfl
  have placed : r.status p = .placed := by simpa using List.all_eq_true.mp h _ (status_mem away)
  rw [placed] at moves
  exact moves rfl

theorem completionTest_lodges (s : State) (i : SetId) : s.lodges (s.completionTest i) := by
  unfold State.completionTest
  split
  · exact .refl s
  · rename_i r found
    split
    · rename_i state
      have other : r.state ≠ .complete ∧ r.state ≠ .surrendering := by rw [state]; decide
      split
      · rename_i placed
        exact completeSet_lodges found _ (by rw [state]; decide) (.inl other.2) (fun h => unrequested h found other) (placed_rests placed)
      · exact .refl s
    · rename_i state
      have other : r.state ≠ .complete ∧ r.state ≠ .surrendering := by rw [state]; decide
      split
      · exact .refl s
      · rename_i rests
        split
        · refine surrender_lodges _ fun q found' => ?_
          rw [found] at found'
          cases found'
          simp [State.surrenderable, state]
        · exact completeSet_lodges found _ (by rw [state]; decide) (.inl other.2) (fun h => unrequested h found other)
            (by simpa using rests)
    · exact .refl s

theorem afterChange_lodges (s : State) (i : SetId) : s.lodges (s.afterChange i) := by
  have open' := (releaseTest_lodges s i).trans (completionTest_lodges _ i)
  unfold State.afterChange
  split
  · exact .refl s
  · split
    · exact open'
    · exact open'
    · exact open'
    · exact (unloadTest_lodges s i).trans (removalTest_lodges _ i)
    all_goals exact .refl s

end Sys2Proof.Machine
end

section
namespace Sys2Proof.Machine

variable {s t : State} {i : SetId} {r v : SetRecord}

/-! ### Sets.lean: an entry leaves the gate, is undone, and the tests of its set follow -/

/-- The gate's entries with `g` for the gate. -/
def Gate.entries (g : Gate) : List Entry :=
  g.queue ++ (match g.gate with
    | .busy e => [e]
    | .idle | .faulted => [])

/-- The entry `e` leaves the gate, which is `g` then, and no other that diverts a sheet. -/
def State.givesEntry (s : State) (e : Entry) (g : Gate) : Prop :=
  (s.gateEntries.filter Entry.diverting).Perm ((e :: g.entries).filter Entry.diverting)

theorem gaveUp_racks {e : Entry} {g : Gate} (gives : s.givesEntry e g) (law : s.racked) :
    ({ s with gc := g } : State).racksWith (e :: g.entries) := Racks.perm law gives

/-- R13, R44: the entry that left the gate is undone. -/
theorem undone_lodges {e : Entry} {g : Gate} (gives : s.givesEntry e g) : s.lodges (State.undoAction { s with gc := g } e) := by
  refine ⟨fun fitted => (undoAction_fits { s with gc := g } e).listsFitted fitted, fun h => ?_, fun _ law => ?_⟩
  · exact undoAction_housed e (housed_of_blocks (s := s) rfl rfl h)
  · have undone := undoAction_racks (gaveUp_racks gives law)
    have entries : (State.undoAction { s with gc := g } e).gateEntries = g.entries := by
      rw [State.gateEntries, (undoAction_frame { s with gc := g } e).gc (by decide)]
      rfl
    rw [State.racked, entries]
    exact undone

theorem undoEntry_after (s : State) (e : Entry) : (s.undoAction e).lodges (s.undoEntry e) := by
  unfold State.undoEntry
  dsimp only
  split
  · exact .refl _
  · split
    · exact afterChange_lodges _ _
    · exact .refl _

theorem undoEntry_lodges {e : Entry} {g : Gate} (gives : s.givesEntry e g) : s.lodges (State.undoEntry { s with gc := g } e) :=
  (undone_lodges gives).trans (undoEntry_after _ e)

theorem lapse_lodges {e : Entry} {g : Gate} (gives : s.givesEntry e g) : s.lodges (State.lapse { s with gc := g } e) :=
  (undoEntry_lodges gives).trans (.of rfl)

theorem gives_head {e : Entry} {rest : List Entry} (queue : s.gc.queue = e :: rest) :
    s.givesEntry e { s.gc with queue := rest } := by
  unfold State.givesEntry State.gateEntries
  rw [queue]
  exact .refl _

theorem lapseOldest_lodges (s : State) : s.lodges s.lapseOldest := by
  unfold State.lapseOldest
  split
  · exact .refl s
  · exact lapse_lodges (gives_head ‹_›)

/-- An entry of the queue rewritten to PASS. -/
theorem rewrite_perm {q : List Entry} {n : Nat} {e : Entry} (at' : q[n]? = some e) :
    (q.filter Entry.diverting).Perm ((e :: q.set n e.asPass).filter Entry.diverting) := by
  induction q generalizing n with
  | nil => cases at'
  | cons x q ih =>
    cases n with
    | zero =>
      simp only [List.getElem?_cons_zero, Option.some.injEq] at at'
      subst at'
      rw [List.set_cons_zero, List.filter_cons (x := x) (xs := x.asPass :: q),
        List.filter_cons_of_neg (a := x.asPass) (by simp [Entry.diverting, Entry.asPass]), List.filter_cons]
    | succ n =>
      rw [List.set_cons_succ]
      refine .trans ?_ ((List.Perm.swap e x (q.set n e.asPass)).symm.symm.filter _)
      rw [List.filter_cons, List.filter_cons (x := x)]
      split
      · exact (ih (by simpa using at')).cons _
      · exact ih (by simpa using at')

theorem gives_at {n : Nat} {e : Entry} (at' : s.gc.queue[n]? = some e) :
    s.givesEntry e { s.gc with queue := s.gc.queue.set n e.asPass } := by
  unfold State.givesEntry State.gateEntries Gate.entries
  rw [List.filter_append, ← List.cons_append, List.filter_append]
  exact (rewrite_perm at').append_right _

theorem rewriteAt_lodges (s : State) (n : Nat) : s.lodges (s.rewriteAt n) := by
  unfold State.rewriteAt
  split
  · exact .refl s
  · exact undoEntry_lodges (gives_at ‹_›)

/-- An operation in flight leaves the gate. -/
theorem gives_flight {e : Entry} (busy : s.gc.gate = .busy e) (x : GateState) (free : x = .idle ∨ x = .faulted) :
    s.givesEntry e { s.gc with gate := x } := by
  unfold State.givesEntry State.gateEntries Gate.entries
  rw [busy]
  obtain rfl | rfl := free <;> dsimp only <;> rw [List.append_nil] <;> exact (List.perm_append_singleton _ _).filter _

/-! ### Page changes at completions -/

/-- R43: the page of a BIN operation turns to one at rest. -/
theorem diverted_lodges {e : Entry} {g : Gate} {b : Nat} {w : PageRef} {y : PageStatus} (gives : s.givesEntry e g)
    (action : e.action = .bin b) (target : e.target = some w) (record : s.recordOf w = some r) (still : y.moving = false) :
    s.lodges (State.setPage { s with gc := g } w.id w.page y) := by
  have found : ({ s with gc := g } : State).findSet w.id = some r := ((recordOf_eq_some s).mp record).1
  have share : y.inShare = false := by cases y <;> first | rfl | exact nomatch still
  refine ⟨fun fitted => (setPage_fits { s with gc := g } w.id w.page y).listsFitted fitted, fun h => ?_, fun _ law => ?_⟩
  · exact setPage_housed _ _ _ (housed_of_blocks (s := s) rfl rfl h)
  · have entries : (State.setPage { s with gc := g } w.id w.page y).gateEntries = g.entries := by
      rw [State.gateEntries, (setPage_frame { s with gc := g } w.id w.page y).gc (by decide)]
      rfl
    have gave := gaveUp_racks gives law
    rw [State.racked, entries]
    refine racksWith_setPage found ?_
    by_cases out : s.hr.rack = .outOfService
    · exact Racks.unserved_set gave out found still _
    · obtain ⟨_, ⟨_, _, page⟩ | ⟨_, action', _⟩⟩ :=
        ((gave.served out).entries e (List.mem_cons_self ..)).page (t := w) (by rw [Entry.diverts, action]; exact target)
      · have status : r.status w.page = .inboundBin := (Table.page_of found w.page).symm.trans page
        refine Racks.dropBin gave action target
          (update_turns (v := r.setStatus w.page y) found rfl rfl (page_in_map (by rw [status]; nofun)))
          (PageStatus.shelf_of_still still) (filed_update gave.filed ((gave.filed found).turn (.inl still) ?_))
        rw [share]
        exact nofun
      · rw [action] at action'
        cases action'

/-- R16: an entry that holds nothing any more leaves the gate. -/
theorem drop_lodges {e : Entry} {g : Gate} (gives : s.givesEntry e g)
    (held : s.housed → s.racked → s.hr.inService → e.diverting = false) : s.lodges { s with gc := g } := by
  refine ⟨fun fitted => fitted, fun h => housed_of_blocks (s := s) rfl rfl h, fun h law => ?_⟩
  have gave := gaveUp_racks gives law
  by_cases out : s.hr.rack = .outOfService
  · exact Racks.out gave out _
  · exact Racks.undivert gave (held h law out)

theorem binDiverted_lodges {e : Entry} {g : Gate} {b : Nat} {w : PageRef} (gives : s.givesEntry e g)
    (action : e.action = .bin b) (target : e.target = some w) : s.lodges (State.binDiverted { s with gc := g } b w) := by
  unfold State.binDiverted
  split
  · rename_i gone
    refine drop_lodges gives fun _ law service => ?_
    obtain ⟨number, _⟩ := (((gaveUp_racks gives law).served service).entries e (List.mem_cons_self ..)).page (t := w)
      (by rw [Entry.diverts, action]; exact target)
    obtain ⟨r, _, record⟩ := recordOf_of_sound number
    exact nomatch record.symm.trans gone
  · rename_i r record
    split
    · exact ((diverted_lodges gives action target record rfl).trans (progress_lodges _ _)).trans (afterChange_lodges _ _)
    · exact (diverted_lodges gives action target record rfl).trans (afterChange_lodges _ _)

/-- R16, R58: a RACK operation's sheet comes into the inlet, or lies there. -/
theorem rackDiverted_lodges {e : Entry} {g : Gate} {k : Nat} (gives : s.givesEntry e g) (action : e.action = .rack k) :
    s.lodges (State.rackDiverted { s with gc := g } k) := by
  unfold State.rackDiverted
  split
  · rename_i service
    have service : s.hr.inService := inService_iff.mp service
    split
    · rename_i i p pocket
      refine .trans ?_ (arbiter_lodges _)
      refine ⟨fun fitted => fitted, fun h => housed_of_blocks (s := s) rfl rfl h, fun _ law => ?_⟩
      have gave := gaveUp_racks gives law
      exact Racks.divert gave service action pocket
    · rename_i other
      refine ⟨fun fitted => fitted, fun h => housed_of_blocks (s := s) rfl rfl h, fun _ law => ?_⟩
      have gave := gaveUp_racks gives law
      have sound := (gave.served service).entries e (List.mem_cons_self ..)
      unfold Entry.sound at sound
      rw [action] at sound
      obtain ⟨w, _, _, page⟩ := sound
      exact absurd (sheet_reserved.mp ((gave.shelved k w.id w.page false).mpr (by rw [page]; rfl))) (other _ _)
  · rename_i out
    have out : s.hr.rack = .outOfService := by
      have := mt inService_iff.mpr out
      simpa using this
    refine ⟨fun fitted => fitted, fun h => housed_of_blocks (s := s) rfl rfl h, fun _ law => ?_⟩
    refine Racks.rack (Racks.out law out _) (fun _ => rfl) rfl (fun out => out) (fun emptied => emptied) fun out => out

/-! ### Rack completions -/

/-- R61: the sheet of a STORE lies in its pocket, and its page is HELD. -/
theorem stored_lodges {e : InletSheet} (busy : s.hr.rack = .busy (.store e)) (found : s.findSet e.id = some r) :
    s.lodges (State.setPage { s with hr := { s.hr with
      rack := .idle, inlet := s.hr.inlet.drop 1, pockets := set1 s.hr.pockets e.pocket (.holding e.id e.page) } }
      e.id e.page (.held e.pocket)) := by
  have length : s.fits { s with hr := { s.hr with
      rack := .idle, inlet := s.hr.inlet.drop 1, pockets := set1 s.hr.pockets e.pocket (.holding e.id e.page) } } := by
    simp [State.fits, State.fitting]
  have fits := length.trans (setPage_fits _ e.id e.page (.held e.pocket))
  refine ⟨fits.listsFitted, fun h => setPage_housed _ _ _ (housed_of_blocks (s := s) rfl rfl h), fun _ law => ?_⟩
  have service : s.hr.inService := by rw [Rack.inService, busy]; nofun
  have page : r.status e.page = .inboundRack e.pocket := by
    have served := law.served service
    have store := served.store
    simp only [Rack.storing, busy] at store
    cases inlet : s.hr.inlet with
    | nil => rw [inlet] at store; cases store
    | cons x rest =>
      rw [inlet] at store
      cases store
      rw [← served.inlet e (by rw [inlet]; exact List.mem_cons_self ..), Table.page_of found]
  have entries : (State.setPage { s with hr := { s.hr with
      rack := .idle, inlet := s.hr.inlet.drop 1, pockets := set1 s.hr.pockets e.pocket (.holding e.id e.page) } }
      e.id e.page (.held e.pocket)).gateEntries = s.gateEntries := by
    rw [State.gateEntries, (setPage_frame _ e.id e.page (.held e.pocket)).gc (by decide)]
    rfl
  rw [State.racked, entries]
  refine racksWith_setPage found (Racks.stored law busy
    (update_turns (v := r.setStatus e.page (.held e.pocket)) found rfl rfl (page_in_map (by rw [page]; nofun)))
    (filed_update law.filed ((law.filed found).turn (.inr (.inl (by rw [page]; rfl))) fun _ => .inl (by rw [page]; rfl))))

theorem storeDone_lodges {e : InletSheet} (busy : s.hr.rack = .busy (.store e)) : s.lodges (s.storeDone e) := by
  refine .trans ?_ (arbiter_lodges _)
  unfold State.pageStored
  split
  · rename_i gone
    have length : s.fits { s with hr := { s.hr with
        rack := .idle, inlet := s.hr.inlet.drop 1, pockets := set1 s.hr.pockets e.pocket (.holding e.id e.page) } } := by
      simp [State.fits, State.fitting]
    refine ⟨length.listsFitted, fun h => housed_of_blocks (s := s) rfl rfl h, fun _ law => ?_⟩
    have served := law.served (by rw [Rack.inService, busy]; nofun)
    have store := served.store
    simp only [Rack.storing, busy] at store
    cases inlet : s.hr.inlet with
    | nil => rw [inlet] at store; cases store
    | cons x rest =>
      rw [inlet] at store
      cases store
      have page := served.inlet e (by rw [inlet]; exact List.mem_cons_self ..)
      rw [Table.page_of_none (g := s.findSet) gone] at page
      cases page
  · rename_i r found
    have stored := (stored_lodges busy found).trans (progress_lodges _ e.id)
    dsimp only
    split
    · exact (stored.trans (releaseToFeeder_lodges _ _ _)).trans (afterChange_lodges _ _)
    · exact stored.trans (afterChange_lodges _ _)

/-- R65: a release has left its pocket, and its page turns to one at rest. -/
theorem released_lodges {x : Release} {y : PageStatus} (busy : s.hr.rack = .busy (.release x)) (found : s.findSet x.id = some r)
    (still : y.moving = false) (f : Feeder) :
    s.lodges (State.setPage { s with hr := { s.hr with rack := .idle, pockets := set1 s.hr.pockets x.pocket .free }, rf := f }
      x.id x.page y) := by
  have length : s.fits { s with hr := { s.hr with rack := .idle, pockets := set1 s.hr.pockets x.pocket .free }, rf := f } := by
    simp [State.fits, State.fitting]
  have fits := length.trans (setPage_fits _ x.id x.page y)
  refine ⟨fits.listsFitted, fun h => setPage_housed _ _ _ (housed_of_blocks (s := s) rfl rfl h), fun _ law => ?_⟩
  have page : r.status x.page = .releasing x.pocket := by
    rw [← (law.served (by rw [Rack.inService, busy]; nofun)).releases x (by simp [Rack.allReleases, busy]), Table.page_of found]
  have share : y.inShare = false := by cases y <;> first | rfl | exact nomatch still
  have entries : (State.setPage { s with hr := { s.hr with rack := .idle, pockets := set1 s.hr.pockets x.pocket .free }, rf := f }
      x.id x.page y).gateEntries = s.gateEntries := by
    rw [State.gateEntries, (setPage_frame _ x.id x.page y).gc (by decide)]
    rfl
  rw [State.racked, entries]
  refine racksWith_setPage found (Racks.released law busy
    (update_turns (v := r.setStatus x.page y) found rfl rfl (page_in_map (by rw [page]; nofun)))
    (PageStatus.shelf_of_still still) (filed_update law.filed ((law.filed found).turn (.inl still) ?_)))
  rw [share]
  exact nofun

/-- The release in flight is of a page of a record. -/
theorem released_record {x : Release} (busy : s.hr.rack = .busy (.release x)) (law : s.racked) : (s.findSet x.id).isSome = true := by
  have page := (law.served (by rw [Rack.inService, busy]; nofun)).releases x (by simp [Rack.allReleases, busy])
  obtain ⟨r, found, _⟩ := Table.page_record (g := s.findSet) (i := x.id) (p := x.page) (by rw [page]; nofun)
  rw [found]
  rfl

/-- Where the law gives the release no record there is none to follow. -/
theorem unreleased_lodges {x : Release} (busy : s.hr.rack = .busy (.release x)) (gone : s.findSet x.id = none) (f : Feeder) :
    s.lodges { s with hr := { s.hr with rack := .idle, pockets := set1 s.hr.pockets x.pocket .free }, rf := f } := by
  have length : s.fits { s with hr := { s.hr with rack := .idle, pockets := set1 s.hr.pockets x.pocket .free }, rf := f } := by
    simp [State.fits, State.fitting]
  refine ⟨length.listsFitted, fun h => housed_of_blocks (s := s) rfl rfl h, fun _ law => ?_⟩
  have some' := released_record busy law
  rw [gone] at some'
  cases some'

theorem setPage_of_none {p : Nat} {y : PageStatus} (gone : s.findSet i = none) : s.setPage i p y = s := by
  simp only [State.setPage, State.updSet, gone]

theorem releaseDone_lodges {x : Release} (busy : s.hr.rack = .busy (.release x)) : s.lodges (s.releaseDone x) := by
  unfold State.releaseDone
  dsimp only
  split
  · refine .trans ?_ (arbiter_lodges _)
    unfold State.pageReleased
    split
    · rename_i gone
      exact unreleased_lodges busy gone s.rf
    · rename_i r found
      refine (released_lodges busy found ?_ s.rf).trans (afterChange_lodges _ _)
      split <;> rfl
  · refine .trans ?_ (roomReport_lodges _)
    unfold State.pageToFeeder
    refine .trans ?_ (afterChange_lodges _ _)
    cases found : s.findSet x.id with
    | none =>
      have skip := setPage_of_none (s := { s with
        hr := { s.hr with rack := .idle, pockets := set1 s.hr.pockets x.pocket .free },
        rf := { s.rf with count := s.rf.count + 1, onWay := s.rf.onWay - 1 } }) (p := x.page) (y := .absent) found
      rw [skip]
      exact unreleased_lodges busy found _
    | some r => exact released_lodges busy found rfl _

end Sys2Proof.Machine
end

section
namespace Sys2Proof.Machine

variable {s t : State} {i : SetId} {r v : SetRecord}

/-! ### Faults.lean: the rack fault -/

/-- A record changed in its pages alone leaves the law of the places alone. -/
theorem updSet_housed (i : SetId) {f : SetRecord → SetRecord} (id : ∀ r, (f r).id = r.id) (lodging : ∀ r, (f r).lodging = r.lodging)
    (h : s.housed) : (s.updSet i f).housed := by
  cases found : s.findSet i with
  | none =>
    have same : s.updSet i f = s := by simp only [State.updSet, found]
    rw [same]
    exact h
  | some r =>
    obtain rfl := findSet_id found
    have put : s.updSet r.id f = s.putSet (f r) := by simp only [State.updSet, found]
    have found' : s.findSet (f r).id = some r := (id r).symm ▸ found
    have lodger : (s.putSet (f r)).lodger = s.lodger := by
      rw [lodger_update (findSet_putSet found'), id]
      funext j
      by_cases same : j = r.id
      · rw [same, Function.update_self, Option.map_some, lodging]
        exact (lodger_eq_some.mpr ⟨r, found, rfl, rfl⟩).symm
      · rw [Function.update_of_ne same]
    rw [put, housed_of (putSet_grounds s (f r)), lodger]
    exact ⟨h.bins, h.requests, h.jaws⟩

/-- One status for each page, in every record. -/
def State.whole (s : State) : Prop := ∀ i r, s.findSet i = some r → r.map.length = r.pages

theorem rackLost_whole (i : SetId) (h : s.whole) : (s.updSet i SetRecord.rackLost).whole := fun k r found => by
  by_cases own : k = i
  · subst own
    cases was : s.findSet k with
    | none =>
      simp only [State.updSet, was] at found
      cases found
    | some q =>
      rw [findSet_updSet_same was (show q.rackLost.id = k from (findSet_id was : q.id = k))] at found
      cases found
      exact (List.length_map _).trans (h k q was)
  · rw [findSet_updSet_other s SetRecord.rackLost own fun q there => show q.rackLost.id = i from (findSet_id there : q.id = i)] at found
    exact h k r found

/-- R67, R48: the first two steps of a rack fault keep the places, and leave a rack that holds nothing. -/
theorem rackPagesLost_lodges (s : State) : s.lodges s.rackPagesLost := by
  have out : s.fits s.rackOut := by simp [State.fits, State.fitting, State.rackOut, Rack.faulted]
  have fits : s.fits s.rackPagesLost := out.trans (fits_foldl _ (fun t i => updSet_fits t i _) _ _)
  have gc : s.rackPagesLost.gc = s.gc :=
    (sameBut_foldl (fun (t : State) i => t.updSet i SetRecord.rackLost) (fun t i => updSet_frame t i SetRecord.rackLost)
      (s.co.sets.map (fun (r : SetRecord) => r.id)) s.rackOut).gc (by decide)
  refine ⟨fits.listsFitted, fun h => ?_, fun _ law => ?_⟩
  · have lost : ∀ (ids : List SetId) (t : State), t.housed →
        (ids.foldl (fun (v : State) i => v.updSet i SetRecord.rackLost) t).housed := by
      intro ids
      induction ids with
      | nil => exact fun _ h => h
      | cons i ids ih => exact fun t h => ih _ (updSet_housed i (fun _ => rfl) (fun _ => rfl) h)
    exact lost _ _ (housed_of_blocks (s := s) rfl rfl h)
  · have lost : ∀ (ids : List SetId) (t : State), t.whole →
        (ids.foldl (fun (v : State) i => v.updSet i SetRecord.rackLost) t).whole := by
      intro ids
      induction ids with
      | nil => exact fun _ h => h
      | cons i ids ih => exact fun t h => ih _ (rackLost_whole i h)
    have whole : s.rackPagesLost.whole := lost _ s.rackOut fun i r found => (law.filed (i := i) found).whole
    obtain ⟨service, pockets, releases, pages⟩ := rackPagesLost_rackless s
    have hr := rackPagesLost_hr s
    have states : ∀ x ∈ s.rackPagesLost.hr.pockets, x = .free ∨ x = .occupied := fun x m => by
      rw [hr] at m
      obtain ⟨k, _, rfl⟩ := List.mem_map.mp m
      generalize (nth1 s.hr.pockets k).getD .free = y
      cases y <;> unfold PocketState.faulted <;> dsimp only <;> first | exact .inr rfl | (split <;> simp)
    have sheetless : ∀ k, s.rackPagesLost.hr.sheet k = none := fun k => by
      unfold Rack.sheet
      cases pocket : nth1 s.rackPagesLost.hr.pockets k with
      | none => rfl
      | some x =>
        have inside := (nth1_isSome_iff s.rackPagesLost.hr.pockets k).mp (by rw [pocket]; rfl)
        obtain rfl | rfl := states x (mem_iff_nth1.mpr ⟨k, mem_numbers.mpr inside, pocket⟩) <;> rfl
    have shelfless : ∀ i p, (Table.page s.rackPagesLost.findSet i p).shelf = none := fun i p => by
      by_cases away : Table.page s.rackPagesLost.findSet i p = .absent
      · rw [away]
        rfl
      · obtain ⟨r, found, status⟩ := Table.page_record away
        have share := pages r (findSet_mem found) _ (status_mem (by rw [status]; exact away))
        rw [status] at share
        cases page : Table.page s.rackPagesLost.findSet i p <;> rw [page] at share <;> first | rfl | cases share
    refine ⟨fun {i r} found => ⟨whole i r found, ?_, fun here => absurd service here⟩, fun k i p b => ?_,
      fun here => absurd service here, fun _ => ⟨by rw [hr]; rfl, by rw [hr]; rfl, releases, states⟩⟩
    · have none : r.share = 0 := by
        rw [SetRecord.share, SetRecord.count, List.length_eq_zero_iff, List.filter_eq_nil_iff]
        intro x m
        rw [pages r (findSet_mem found) x m]
        nofun
      rw [none]
      exact Nat.zero_le _
    · rw [sheetless, shelfless]
      simp

theorem afterRackFault_lodges (s : State) (i : SetId) : s.lodges (s.afterRackFault i) := by
  unfold State.afterRackFault
  split
  · exact .refl s
  · split
    · exact afterChange_lodges s i
    · exact .refl s

theorem rackFault_lodges (s : State) : s.lodges s.rackFault := by
  have tested : s.lodges s.rackTested :=
    ((rackPagesLost_lodges s).trans (rewriteRack_lodges _)).trans (lodges_foldl _ afterRackFault_lodges _ _)
  rw [rackFault_eq]
  split
  · exact tested.trans (roomReport_lodges _)
  · exact tested

/-! ### Faults.lean: the entries to FAULT -/

theorem linkAtFault_lodges (s : State) (c : Cause) (w : Bool) : s.lodges (s.linkAtFault c w) := by
  have timers (l : Link) (length : l.peers.length = s.lc.peers.length) : s.lodges { s with lc := l } :=
    .of (by simp [State.lodgings, State.grounds, State.fitting, length])
  unfold State.linkAtFault
  split
  · split
    · exact .refl s
    · exact timers _ (List.length_map _)
  · split
    · exact .refl s
    · exact timers _ (List.length_map _)
  all_goals exact (timers _ (List.length_map _)).trans (cancelGone_lodges _ _)

theorem claimsAtFault_lodges (s : State) (c : Cause) : s.lodges (s.claimsAtFault c) := by
  unfold State.claimsAtFault
  split
  · exact .refl s
  · exact .refl s
  all_goals exact .after (withdrawUrgent_lodges _ _) rfl

theorem enterFault_lodges (s : State) (c : Cause) : s.lodges (s.enterFault c) := by
  unfold State.enterFault
  refine .trans ?_ (linkAtFault_lodges _ _ _)
  refine .trans ?_ (claimsAtFault_lodges _ _)
  refine .trans ?_ (surrenderAll_lodges _ _)
  exact (setBay_lodges s _).trans (.of rfl)

theorem reportFault_lodges (s : State) (c : Cause) : s.lodges (s.reportFault c) := by
  unfold State.reportFault
  dsimp only
  split
  · exact .after (enterFault_lodges _ c) rfl
  · split <;> exact .of rfl

theorem carriageFault_lodges (s : State) : s.lodges s.carriageFault := by
  unfold State.carriageFault
  split
  · rename_i q j busy
    refine .trans ?_ (reportFault_lodges _ _)
    refine .of_stapler (l := [.sc]) (by simp [State.sameBut]) (by decide) rfl fun h => ?_
    obtain ⟨bins, requests, jaws⟩ := h
    have flight : s.carriageRequests = [q] ++ s.sc.carriageQueue := by
      simp only [State.carriageRequests, State.carriageInFlight, busy]
      rfl
    rw [flight] at requests
    exact ⟨bins, requests, jaws.drive nofun⟩
  · exact .refl s
  · exact .refl s

theorem gateFailed_lodges {e : Entry} {x : GateState} (busy : s.gc.gate = .busy e) (free : x = .idle ∨ x = .faulted) :
    s.lodges (State.gateFailed { s with gc := { s.gc with gate := x } } e) := by
  have gives := gives_flight busy x free
  unfold State.gateFailed
  split
  · rename_i action
    exact (drop_lodges gives fun _ _ _ => by rw [Entry.diverting, action]).trans (.of rfl)
  · exact undoEntry_lodges gives

theorem gateFault_lodges {e : Entry} (busy : s.gc.gate = .busy e) : s.lodges (s.gateFault e) := by
  unfold State.gateFault
  exact ((gateFailed_lodges busy (.inr rfl)).trans (lodges_foldl _ rewriteAt_lodges _ _)).trans (reportFault_lodges _ _)

theorem headFault_lodges (s : State) : s.lodges s.headFault := .after (tell_lodges _ _) rfl

/-! ### A set leaves its jaw and the table -/

/-- R128, R130: the set in a jaw leaves the table, and the jaw holds it no more. -/
theorem leave_lodges {j : JawName} {st : Stapling} {z : JawState} (fits : s.fits t) (holding : s.jaw j = .holding i st)
    (now : z.held = none) (table : t.findSet = Function.update s.findSet i none) (bins : t.co.bins = s.co.bins)
    (jaw : t.jaw = Function.update s.jaw j z) (carriage : t.sc.carriage = s.sc.carriage)
    (queue : t.sc.carriageQueue = s.sc.carriageQueue) (hr : t.hr = s.hr) (gc : t.gc = s.gc) : s.lodges t := by
  have record : s.housed → ∃ r, s.findSet i = some r ∧ r.state.inAJaw ∧ r.bin = none := fun h => by
    obtain ⟨x, c, lodged, inside⟩ := h.jaws.jawed holding
    obtain ⟨r, found, rfl, rfl⟩ := lodger_eq_some.mp lodged
    refine ⟨r, found, inside, ?_⟩
    have binned := (h.bins.binned lodged).resolve_left (by obtain e | e := inside <;> rw [e] <;> decide)
    exact Option.not_isSome_iff_eq_none.mp fun some' => binned.mp some' inside
  refine ⟨fits.listsFitted, fun h => ?_, fun h law => ?_⟩
  · obtain ⟨r, found, inside, bin⟩ := record h
    have other : r.state ≠ .complete ∧ r.state ≠ .surrendering := by obtain e | e := inside <;> rw [e] <;> decide
    have requests : t.carriageRequests = s.carriageRequests := by
      rw [State.carriageRequests, State.carriageInFlight, carriage, queue]
      rfl
    have binState : t.binState = s.binState := by funext b; rw [State.binState, bins, State.binState]
    refine ⟨?_, ?_, ?_⟩
    · rw [lodger_update table, binState]
      exact h.bins.remove (lodger_eq_some.mpr ⟨r, found, rfl, bin⟩)
    · rw [lodger_update table, requests]
      exact h.requests.rewrite (unrequested h found other)
    · rw [lodger_update table, carriage, jaw]
      exact h.jaws.leave holding now
  · obtain ⟨r, found, inside, _⟩ := record h
    have entries : t.gateEntries = s.gateEntries := by rw [State.gateEntries, gc]; rfl
    rw [State.racked, State.racksWith, table, fits.rackFitted, hr, entries]
    refine Racks.remove law found (fun p => ?_) fun service => (law.filed found).ended service (.inr inside)
    by_cases out : s.hr.rack = .outOfService
    · rw [← Table.page_of found]
      exact Racks.shelfless law out i p
    · exact PageStatus.shelf_of_still (resting_iff.mp ((law.filed found).ended out (.inr inside)) p)

/-- R130: the set of a jaw that goes out of service leaves the table, with a YIELD due or none. -/
theorem jawLost_lodges {j : JawName} {st : Stapling} (holding : s.jaw j = .holding i st) (silenced : Bool) (n : Nat) :
    s.lodges (State.removeSet
      (if silenced = true then
        { s.setJaw j (.outOfService i) with sc := { (s.setJaw j (.outOfService i)).sc with jawFaults := n } }
      else State.dueYield
        { s.setJaw j (.outOfService i) with sc := { (s.setJaw j (.outOfService i)).sc with jawFaults := n } } i .fault) i) := by
  have lost (v w : State) (fits : v.fits w) (frame : v.sameBut [.cu, .lc] w)
      (own : v = { s.setJaw j (.outOfService i) with sc := { (s.setJaw j (.outOfService i)).sc with jawFaults := n } }) :
      s.lodges (w.removeSet i) := by
    have jawFrame := setJaw_frame s j (.outOfService i)
    have sc : (w.removeSet i).sc = v.sc := ((removeSet_frame w i).sc (by decide)).trans (frame.sc (by decide))
    have co : w.co = s.co := (frame.co (by decide)).trans (by rw [own]; exact jawFrame.co (by decide))
    have jawFits : s.fits v := by rw [own]; exact setJaw_fits s j _
    refine leave_lodges ((jawFits.trans fits).trans (removeSet_fits w i)) holding (z := .outOfService i) rfl
      (by rw [findSet_removal, funext (findSet_of_co co)]) (by rw [removeSet_bins, co]) ?_ ?_ ?_ ?_ ?_
    · have jaws : (w.removeSet i).jaw = (s.setJaw j (.outOfService i)).jaw := by
        funext k
        cases k
        · exact (congrArg Stapler.jawA sc).trans (by rw [own]; rfl)
        · exact (congrArg Stapler.jawB sc).trans (by rw [own]; rfl)
      rw [jaws, jaw_setJaw]
    · rw [sc, own]
      exact (setJaw_sc s j _).1
    · rw [sc, own]
      cases j <;> rfl
    · rw [(removeSet_frame w i).hr (by decide), frame.hr (by decide), own]
      exact jawFrame.hr (by decide)
    · rw [(removeSet_frame w i).gc (by decide), frame.gc (by decide), own]
      exact jawFrame.gc (by decide)
  split
  · exact lost _ _ rfl (sameBut_refl _ _) rfl
  · exact lost _ _ (dueYield_fits _ _ _) (dueYield_frame _ _ _) rfl

/-- R142, R143: the delivery in flight into pocket `p` is over. -/
def State.landed (s : State) (p : Nat) : State :=
  { s with dc := { s.dc with pockets := modify1 s.dc.pockets p (fun x => { x with inFlight := none }) } }

theorem landed_fits (s : State) (p : Nat) : s.fits (s.landed p) := by simp [State.fits, State.fitting, State.landed]

theorem landed_lodges (s : State) (p : Nat) : s.lodges (s.landed p) := .of_same rfl rfl (landed_fits s p)

theorem deliveryFault_lodges (s : State) (j : JawName) (p : Nat) : s.lodges (s.deliveryFault j p) := by
  have landed := landed_lodges s p
  unfold State.deliveryFault
  dsimp only
  split
  · rename_i i st holding
    refine .trans ?_ (deliverTest_lodges _ _)
    exact landed.trans (jawLost_lodges (s := s.landed p) holding _ _)
  all_goals exact landed.trans (deliverTest_lodges _ _)

end Sys2Proof.Machine
end

section
namespace Sys2Proof.Machine

variable {s t : State} {i : SetId} {r v : SetRecord}

/-! ### Hear.lean -/

theorem heardSteps_lodges (s : State) (kind : BitVec 6) (f : Frame) : s.lodges (s.heardSteps kind f) := by
  have unmarked : s.lodges { s with lc := { s.lc with spoilMark := false } } := .of rfl
  have left : s.lodges (if s.ownAttempt kind f then State.leaveLine { s with lc := { s.lc with spoilMark := false } }
      else { s with lc := { s.lc with spoilMark := false } }) := by
    split
    · exact unmarked.trans (leaveLine_lodges _)
    · exact unmarked
  unfold State.heardSteps
  dsimp only at left ⊢
  split
  · exact left.trans (markPresent_lodges _ _)
  · exact left

theorem afterHeard_lodges (s t : State) : t.lodges (State.afterHeard s t) := by
  unfold State.afterHeard
  split
  · exact setHeard_lodges t
  · exact .refl t

theorem stationClash_lodges (s : State) : s.lodges s.stationClash := by
  unfold State.stationClash
  split
  · exact .refl s
  · exact reportFault_lodges s _

/-- A heard notice keeps the laws when what its block does with it keeps them. -/
theorem hear_lodges (s : State) (k : NoticeKind) (f : Frame) {act : State → State} (h : ∀ t, State.lodges t (act t)) :
    s.lodges (s.hear k f act) := by
  unfold State.hear
  split
  · exact .refl s
  · split
    · exact stationClash_lodges s
    · refine .trans ?_ (afterHeard_lodges _ _)
      split
      · exact (heardSteps_lodges s _ f).trans (h _)
      · exact (heardSteps_lodges s _ f).trans (.of rfl)

/-! ### The Claim Unit's commands -/

theorem addForeign_lodges (s : State) (i : SetId) (x : Nat) : s.lodges (s.addForeign i x) :=
  .of_plain (addForeign_frame s i x) (by decide)

theorem claimWon_lodges (found : s.findSet i = some r) (claiming : r.state = .claiming) : s.lodges (s.claimWon r) := by
  obtain rfl := findSet_id found
  have other : r.state ≠ .complete ∧ r.state ≠ .surrendering := by rw [claiming]; decide
  have put : s.lodges (s.putSet { r.toState .collecting with deadline := false }) :=
    putSet_lodges_state (v := { r.toState .collecting with deadline := false }) found rfl rfl rfl rfl
      ⟨by rw [claiming]; decide, show ¬SetState.inAJaw .collecting by decide⟩ (.inl other.2)
      (fun h => unrequested h found other) nofun
  exact (put.trans (withdrawClaim_lodges _ _)).trans (completionTest_lodges _ _)

theorem countClaimLost_lodges (s : State) : s.lodges s.countClaimLost := .of rfl

theorem claimLost_lodges (found : s.findSet i = some r) (claiming : r.state = .claiming) (x : Nat) : s.lodges (s.claimLost r x) := by
  refine .trans ?_ (countClaimLost_lodges _)
  refine .trans ?_ (endSurrender_lodges _ _ _)
  exact (beginSurrender_lodges found (by simp [State.surrenderable, claiming])).trans (addForeign_lodges _ _ _)

theorem lateClaim_lodges (s : State) (i : SetId) : s.lodges (s.lateClaim i) := by
  unfold State.lateClaim
  split
  · exact .refl s
  · exact .after (dueYield_lodges _ _ _) rfl

theorem firstClaim_lodges (s : State) (x : Nat) (i : SetId) : s.lodges (s.firstClaim x i) := by
  unfold State.firstClaim
  split
  · obtain ⟨found, claiming⟩ := findSet_of_filter s ‹_›
    have claiming := beq_iff_eq.mp claiming
    split
    · exact claimWon_lodges found claiming
    · exact claimLost_lodges found claiming _
  · split
    · exact .refl s
    · split
      · exact lateClaim_lodges s i
      · exact addForeign_lodges s i x

theorem onClaim_lodges (s : State) (f : Frame) : s.lodges (s.onClaim f) := by
  unfold State.onClaim
  dsimp only
  split
  · exact .of rfl
  · exact firstClaim_lodges s _ _

theorem heldOne_lodges (x : Nat) (s : State) (i : SetId) : s.lodges (s.heldOne x i) := by
  unfold State.heldOne
  split
  · obtain ⟨found, claiming⟩ := findSet_of_filter s ‹_›
    exact claimLost_lodges found (beq_iff_eq.mp claiming) _
  · split
    · split <;> exact .of rfl
    · exact addForeign_lodges s i x

theorem onHeld_lodges (s : State) (f : Frame) : s.lodges (s.onHeld f) := by
  unfold State.onHeld
  dsimp only
  split
  · exact .of rfl
  · split
    · exact .refl s
    · exact lodges_foldl _ (heldOne_lodges _) _ _

theorem onYield_lodges (s : State) (f : Frame) : s.lodges (s.onYield f) := by
  unfold State.onYield
  dsimp only
  repeat' split
  all_goals exact .of rfl

theorem onDone_lodges (s : State) (f : Frame) : s.lodges (s.onDone f) := by
  have forgot : s.lodges (s.doneNoted (f.setAt 0)) := (addDone_lodges s (f.setAt 0)).trans (.of rfl)
  unfold State.onDone
  dsimp only
  split
  · exact .of rfl
  · split
    · exact forgot
    · split
      · exact forgot
      · refine forgot.trans ?_
        obtain ⟨found, _⟩ := findSet_of_filter _ ‹_›
        unfold State.doneConflict
        dsimp only
        split
        · rename_i r _ _ may
          refine .after (surrender_lodges none fun q found' => ?_) rfl
          have own := findSet_id found
          rw [own] at found'
          cases found.symm.trans found'
          exact may
        · exact .of rfl

theorem onHello_lodges (s : State) (f : Frame) : s.lodges (s.onHello f) := by
  unfold State.onHello
  dsimp only
  split
  · exact .of rfl
  · split
    · unfold State.helloEcho
      split <;> exact .of rfl
    · have peer := setPeer_lodges s f.origin.toNat { s.peer f.origin.toNat with bins := some (f.byteAt 1) }
      split
      · exact peer.trans (.after (refillUrgent_lodges _) rfl)
      · exact peer.trans (.of rfl)

theorem onGone_lodges (s : State) (f : Frame) : s.lodges (s.onGone f) := by
  unfold State.onGone
  dsimp only
  split
  · exact .of rfl
  · split
    · exact reportFault_lodges s _
    · split
      · exact (setPeer_lodges s _ _).trans (.after (yieldGone_lodges _ _) rfl)
      · exact .refl s

/-! ### The Job Table's commands -/

theorem onJob_lodges (s : State) (f : Frame) : s.lodges (s.onJob f) := by
  have unbound (t : State) (j : Nat) (same : t.lodgings = s.lodgings) : s.lodges (t.unbindJob j) :=
    .after (unbindJob_lodges t j) same
  unfold State.onJob
  split
  · exact .of rfl
  · split
    · unfold State.newJob
      dsimp only
      split
      · exact .of rfl
      · split
        · exact .of rfl
        · exact unbound _ _ rfl
    · have applied (r : JobRecord) (x : JobFields) : s.lodges (s.applyJob r x) := by
        unfold State.applyJob
        dsimp only
        split
        · exact unbound _ _ rfl
        · exact .of rfl
      split
      · exact applied _ _
      · split
        · exact .refl s
        · unfold State.reuseJob
          split
          · exact applied _ _
          · exact unbound _ _ rfl

theorem onJobclose_lodges (s : State) (f : Frame) : s.lodges (s.onJobclose f) := by
  unfold State.onJobclose
  split
  · exact .of rfl
  · split
    · exact .refl s
    · split
      · exact .after (unbindJob_lodges _ _) rfl
      · exact .refl s

/-! ### The Link Controller's commands -/

theorem onState_lodges (s : State) (f : Frame) : s.lodges (s.onState f) := by
  unfold State.onState
  split
  · exact .of rfl
  · dsimp only
    split
    · exact .refl s
    · exact setPeer_lodges s _ _

theorem onProbe_lodges (s : State) (f : Frame) : s.lodges (s.onProbe f) := by
  unfold State.onProbe
  dsimp only
  split
  · exact .refl s
  · split
    · exact .of rfl
    · unfold State.answerProbe
      split <;> exact .of rfl

theorem presenceExpires_lodges (s : State) (x : Nat) : s.lodges (s.presenceExpires x) :=
  (setPeer_lodges s _ _).trans (.after (wantGone_lodges _ _) rfl)

/-! ### Laps -/

theorem offerReprint_lodges (found : s.findSet i = some r) (kind : ReprintWait) : s.lodges (s.offerReprint r kind) := by
  unfold State.offerReprint
  split
  · have put : s.lodges ((s.pushRoutine (.reprint r.id r.reprintPages)).putSet (r.reprinted kind)) :=
      .after (putSet_lodges (r := r) (s := s.pushRoutine _) found ⟨rfl, rfl, rfl, rfl, rfl⟩) rfl
    exact put.trans (.of rfl)
  · exact (putSet_lodges (v := { r with waiting := kind }) found ⟨rfl, rfl, rfl, rfl, rfl⟩).trans (.of rfl)

theorem offerWaiting_lodges (l : List SetId) (s : State) (i : SetId) : s.lodges (s.offerWaiting l i) := by
  unfold State.offerWaiting
  split
  · exact .refl s
  · rename_i r found
    have cleared : s.lodges (s.putSet { r with waiting := .none }) := putSet_lodges found ⟨rfl, rfl, rfl, rfl, rfl⟩
    split
    · exact .refl s
    · split
      · exact .refl s
      · split
        · exact offerReprint_lodges found _
        · exact cleared
      · split
        · exact offerReprint_lodges found _
        · exact cleared

theorem offerDue_lodges (l : List SetId) (s : State) (i : SetId) : s.lodges (s.offerDue l i) := by
  unfold State.offerDue
  split
  · exact .refl s
  · split
    · exact offerReprint_lodges ‹_› _
    · exact .refl s

theorem strand_lodges (l : List SetId) (s : State) (i : SetId) : s.lodges (s.strand l i) := by
  unfold State.strand
  split
  · exact .refl s
  · rename_i r found
    split
    · exact (putSet_lodges (v := { r with stranded := true }) found ⟨rfl, rfl, rfl, rfl, rfl⟩).trans (.of rfl)
    · exact .refl s

theorem lap_stays (r : SetRecord) : r.stays r.lap := by
  unfold SetRecord.lap
  repeat' split
  all_goals exact ⟨rfl, rfl, rfl, rfl, rfl⟩

theorem lap_lodges (s : State) : s.lodges s.lap := by
  refine .trans ?_ (lodges_foldl _ (strand_lodges _) _ _)
  refine .trans ?_ (lodges_foldl _ (offerDue_lodges _) _ _)
  refine .trans ?_ (lodges_foldl _ (offerWaiting_lodges _) _ _)
  exact lodges_foldl _ (fun t i => updSet_lodges t i lap_stays) _ _

/-! ### What staff ask for -/

theorem onSetact_lodges (s : State) (f : Frame) {act : State → State} (h : s.lodges (act s)) : s.lodges (s.onSetact f act) := by
  unfold State.onSetact
  split
  · exact h
  · exact .refl s

theorem onService_lodges (s : State) (f : Frame) {act : State → State} (h : s.lodges (act s)) : s.lodges (s.onService f act) := by
  unfold State.onService
  split
  · exact h
  · exact .refl s

theorem finishSet_lodges (found : s.findSet i = some r) (collecting : r.state = .collecting) : s.lodges (s.finishSet r) := by
  obtain rfl := findSet_id found
  have other : r.state ≠ .complete ∧ r.state ≠ .surrendering := by rw [collecting]; decide
  have put : s.lodges (s.putSet { r.toState .finishing with isPartial := true }) :=
    putSet_lodges_state (v := { r.toState .finishing with isPartial := true }) found rfl rfl rfl rfl
      ⟨by rw [collecting]; decide, show ¬SetState.inAJaw .finishing by decide⟩ (.inl other.2)
      (fun h => unrequested h found other) nofun
  exact put.trans (afterChange_lodges _ _)

/-- R52: the queued UNLOAD of a set whose unload has not started is withdrawn, so no request moves it. -/
theorem unrequested_recovered (h : s.housed) (found : s.findSet i = some r) (state : r.state = .surrendering)
    (started : s.unloadStarted i = false) (q : CarriageRequest)
    (m : q ∈ s.carriageInFlight.toList ++ s.sc.carriageQueue.filter (fun q => !(q.id == i && q.isUnload == true))) : q.id ≠ i := by
  rintro rfl
  have unload : q ∈ s.carriageRequests → q.isUnload = true := fun m => by
    obtain ⟨r', found', moved, _⟩ := lodger_eq_some.mp (h.requests.moves q m)
    rw [found] at found'
    cases found'
    rw [state, CarriageRequest.moves] at moved
    split at moved
    · assumption
    · cases moved
  obtain inFlight | queued := List.mem_append.mp m
  · have unload := unload (List.mem_append_left _ inFlight)
    rw [Option.mem_toList] at inFlight
    simp [State.unloadStarted, Option.mem_def.mp inFlight, unload] at started
  · obtain ⟨queued, other⟩ := List.mem_filter.mp queued
    simp [unload (List.mem_append_right _ queued)] at other

/-- The carriage's requests of a set stay withdrawn through the start test: a test starts none but a queued one. -/
theorem startTest_requests (s : State) : ∀ q ∈ s.startTest.carriageRequests, q ∈ s.carriageRequests := by
  have issue : ∀ t : State, ∀ q ∈ t.carriageIssue.carriageRequests, q ∈ t.carriageRequests := fun t => by
    unfold State.carriageIssue
    split
    · rename_i idle
      have flight : t.carriageRequests = t.sc.carriageQueue := by
        simp only [State.carriageRequests, State.carriageInFlight, idle]
        rfl
      split
      · exact fun _ m => m
      · rename_i id b rest queue
        split
        · exact fun _ m => m
        · split
          · rw [setJaw_requests, flight, queue]
            exact fun _ m => m
          · exact fun _ m => m
      · rename_i queue
        split
        · rw [flight, queue]
          exact fun _ m => m
        · exact fun _ m => m
    · exact fun _ m => m
  have arbiter : ∀ t : State, t.arbiterIssue.carriageRequests = t.carriageRequests := fun t => by
    rw [State.carriageRequests, State.carriageInFlight, (arbiterIssue_frame t).sc (by decide)]
    rfl
  unfold State.startTest
  dsimp only
  split
  · exact issue s
  · rw [arbiter]
    exact issue s

theorem withdrawCarriage_requests (s : State) (i : SetId) (x : Bool) : ∀ q ∈ (s.withdrawCarriage i x).carriageRequests,
    q ∈ s.carriageInFlight.toList ++ s.sc.carriageQueue.filter (fun q => !(q.id == i && q.isUnload == x)) := by
  rw [withdrawCarriage_eq]
  split
  · exact fun q m => startTest_requests _ q m
  · exact fun q m => m

/-- R52, R90: the set taken back, before it is COMPLETE. -/
def State.reclaimed (s : State) (r : SetRecord) : State :=
  { s.withdrawCarriage r.id true with cu := ((s.withdrawCarriage r.id true).cu.dropYields r.id).takeBack r.id }

theorem recoverSet_eq (s : State) (r : SetRecord) : s.recoverSet r = (s.reclaimed r).completeSet r true := rfl

theorem reclaimed_lodges (s : State) (r : SetRecord) : s.lodges (s.reclaimed r) :=
  (withdrawCarriage_lodges s r.id true).trans (.of rfl)

theorem reclaimed_fits (s : State) (r : SetRecord) : s.fits (s.reclaimed r) :=
  (withdrawCarriage_fits s r.id true).trans rfl

theorem recoverSet_lodges (found : s.findSet i = some r) (may : s.recoverable r = true) : s.lodges (s.recoverSet r) := by
  obtain rfl := findSet_id found
  simp only [State.recoverable, Bool.and_eq_true, beq_iff_eq, Bool.not_eq_true'] at may
  obtain ⟨⟨⟨⟨state, bin⟩, _⟩, rests⟩, started⟩ := may
  have found' : (s.reclaimed r).findSet r.id = some r :=
    (findSet_of_co ((withdrawCarriage_frame s r.id true).co (by decide)) _).trans found
  rw [recoverSet_eq]
  refine .given ((reclaimed_fits s r).trans (completeSet_fits _ _ _)) fun h => (reclaimed_lodges s r).trans ?_
  refine completeSet_lodges found' true (by rw [state]; decide) (.inr bin) (fun _ q m => ?_) rests
  exact unrequested_recovered h found state started q (withdrawCarriage_requests s r.id true q m)

theorem finish_lodges (s : State) (i : SetId) : s.lodges (s.finish i) := by
  unfold State.finish
  split
  · exact .of rfl
  · rename_i r found
    split
    · rename_i open'
      exact finishSet_lodges found open'.2
    · split
      · rename_i service
        exact recoverSet_lodges found service.2
      · exact .of rfl

theorem staffYield_lodges (s : State) (i : SetId) : s.lodges (s.staffYield i) := by
  unfold State.staffYield
  split
  · exact .of rfl
  · rename_i r found
    split
    · rename_i may
      refine surrender_lodges _ fun q found' => ?_
      cases found.symm.trans found'
      exact may
    · exact .of rfl

theorem retry_lodges (s : State) (i : SetId) : s.lodges (s.retry i) := by
  unfold State.retry
  split
  · exact .of rfl
  · rename_i r found
    split
    · have put : s.lodges (s.putSet r.retried) := putSet_lodges found ⟨rfl, rfl, rfl, rfl, rfl⟩
      obtain rfl := findSet_id found
      have read : (s.putSet r.retried).findSet r.id = some r.retried := findSet_putSet_same (r := r.retried) found
      dsimp only
      split
      · exact put.trans (offerReprint_lodges read .retry)
      · exact put.trans (putSet_lodges (v := { r.retried with waiting := .none }) read ⟨rfl, rfl, rfl, rfl, rfl⟩)
    · exact .of rfl

theorem drain_lodges (s : State) : s.lodges s.drain := by
  unfold State.drain
  split
  · exact (setBay_lodges s _).trans (drainTest_lodges _)
  · exact .of rfl

theorem stop_lodges (s : State) : s.lodges s.stop := by
  unfold State.stop
  split
  · exact (setBay_lodges s _).trans (surrenderAll_lodges _ _)
  · exact .of rfl

theorem resume_lodges (s : State) : s.lodges s.resume := by
  unfold State.resume
  split
  · exact setBay_lodges s _
  · exact .of rfl

/-! ### Reset -/

theorem housed_of_empty (sets : t.co.sets = []) (bins : ∀ x ∈ t.co.bins, x ≠ .assigned) (carriage : t.sc.carriage = .idle)
    (queue : t.sc.carriageQueue = []) (jaws : ∀ j i st, t.jaw j ≠ .holding i st) : t.housed := by
  have none : ∀ i, t.lodger i = none := fun i => by simp [State.lodger, State.findSet, sets]
  have unassigned : ∀ b, t.binState b ≠ some .assigned := fun b assigned => by
    have inside := (nth1_isSome_iff t.co.bins b).mp (by rw [show nth1 t.co.bins b = _ from assigned]; rfl)
    exact bins _ (mem_iff_nth1.mpr ⟨b, mem_numbers.mpr inside, assigned⟩) rfl
  have requests : t.carriageRequests = [] := by simp [State.carriageRequests, State.carriageInFlight, carriage, queue]
  refine ⟨⟨fun h => ?_, fun h => ?_, fun h => absurd h (unassigned _), fun h => ?_⟩, ⟨?_, ?_⟩,
    ⟨fun h => ?_, fun h => ?_, fun h => absurd h (jaws _ _ _), fun h => absurd h (jaws _ _ _)⟩⟩
  · rw [none] at h; cases h
  · rw [none] at h; cases h
  · rw [none] at h; cases h
  · rw [requests]; nofun
  · rw [requests]; exact List.nodup_nil
  · rw [carriage] at h; cases h
  · rw [none] at h; cases h

theorem racked_of_empty (sets : t.co.sets = []) (pockets : ∀ x ∈ t.hr.pockets, x = .free ∨ x = .occupied)
    (inlet : t.hr.inlet = []) (reserved : t.hr.inletReserved = 0) (rack : t.hr.rack = .idle) (releases : t.hr.releases = [])
    (entries : t.gateEntries = []) : t.racked := by
  have none : ∀ i, t.findSet i = none := fun i => by simp [State.findSet, sets]
  refine ⟨fun {i r} h => ?_, fun k i p b => ?_, fun _ => ?_, fun out => ?_⟩
  · rw [none] at h; cases h
  · rw [Table.page_of_none (none i)]
    refine iff_of_false (fun sheet => ?_) nofun
    cases b
    · have pocket := sheet_reserved.mp sheet
      have inside := (nth1_isSome_iff t.hr.pockets k).mp (by rw [pocket]; rfl)
      obtain e | e := pockets _ (mem_iff_nth1.mpr ⟨k, mem_numbers.mpr inside, pocket⟩) <;> cases e
    · have pocket := sheet_holding.mp sheet
      have inside := (nth1_isSome_iff t.hr.pockets k).mp (by rw [pocket]; rfl)
      obtain e | e := pockets _ (mem_iff_nth1.mpr ⟨k, mem_numbers.mpr inside, pocket⟩) <;> cases e
  · have flight : t.hr.allReleases = [] := by simp [Rack.allReleases, rack, releases]
    rw [entries]
    refine ⟨nofun, List.nodup_nil, reserved, by rw [reserved, inlet]; exact Nat.zero_le _, by rw [inlet]; nofun,
      by rw [inlet]; exact List.nodup_nil, by simp [Rack.storing, rack], by rw [flight]; nofun, by rw [flight]; exact List.nodup_nil⟩
  · rw [rack] at out; cases out

theorem resetPart_lodges (s : State) (x : Straps) (v : Sensors) : s.lodges (s.resetPart x v) := by
  have found (b : Bool) : (if b then BinState.occupied else .available) ≠ .assigned := by cases b <;> nofun
  have dormant : s.lodges (s.dormant x) := by
    refine ⟨fun _ => ?_, fun _ => ?_, fun _ _ => ?_⟩
    · simp [listsFitted_iff, State.dormant, State.reset]
    · exact housed_of_empty rfl (fun y m => by rw [List.eq_of_mem_replicate m]; nofun) rfl rfl fun j => by cases j <;> nofun
    · exact racked_of_empty rfl (fun y m => .inl (List.eq_of_mem_replicate m)) rfl rfl rfl rfl rfl
  have read : s.lodges ((s.dormant x).readSensors x v) := by
    refine ⟨fun _ => ?_, fun _ => ?_, fun _ _ => ?_⟩
    · simp [listsFitted_iff, State.readSensors, State.dormant, State.reset, binsAtReset, rackAtReset]
    · refine housed_of_empty rfl (fun y m => ?_) rfl rfl fun j i st => ?_
      · obtain ⟨b, _, rfl⟩ := List.mem_map.mp m
        exact found _
      · have jaw : ((s.dormant x).readSensors x v).jaw j = jawAtReset v j := by cases j <;> rfl
        rw [jaw, jawAtReset]
        split <;> nofun
    · refine racked_of_empty rfl (fun y m => ?_) rfl rfl rfl rfl rfl
      obtain ⟨k, _, rfl⟩ := List.mem_map.mp m
      split
      · exact .inr rfl
      · exact .inl rfl
  unfold State.resetPart
  dsimp only
  split
  · exact read.trans (enterJoining_lodges _)
  · exact dormant

theorem onRestart_lodges (s : State) (x : Straps) (v : Sensors) : s.lodges (s.onRestart x v) := by
  unfold State.onRestart
  split
  · exact (resetPart_lodges s x v).trans (.of rfl)
  · exact .of rfl

end Sys2Proof.Machine
end

section
namespace Sys2Proof.Machine

variable {s t : State} {i : SetId} {r v : SetRecord}

/-! ### RackCmds.lean: cleared places -/

theorem clearBin_lodges (s : State) (b : Nat) : s.lodges (s.clearBin b) := by
  have unnamed (x : BinState) (state : s.binState b = some x) (unheld : ∀ h : s.housed, ∀ i y, s.lodger i ≠ some (y, some b)) :
      s.lodges (s.setBin b .available) :=
    setBin_lodges (by rw [state]; rfl) fun h => h.bins.clear (unheld h)
  unfold State.clearBin
  split
  · rename_i occupied
    refine unnamed _ occupied fun h i y named => ?_
    obtain e | e := h.bins.named named <;> rw [occupied] at e <;> cases e
  · rename_i jammed
    split
    · exact .refl s
    · rename_i none
      refine unnamed _ jammed fun _ i y named => none ?_
      obtain ⟨r, found, _, bin⟩ := lodger_eq_some.mp named
      exact holderOf_isSome.mpr ⟨r, findSet_mem found, bin⟩
  · exact .refl s

theorem clearRackPocket_lodges (s : State) (k : Nat) : s.lodges (s.clearRackPocket k) := by
  unfold State.clearRackPocket
  split
  · rename_i occupied
    have fits : s.fits { s with hr := { s.hr with pockets := set1 s.hr.pockets k .free } } := by simp [State.fits, State.fitting]
    refine ⟨fits.listsFitted, fun h => housed_of_blocks (s := s) rfl rfl h, fun _ law => ?_⟩
    refine Racks.rack law (fun j => ?_) rfl (fun out => out) (fun ⟨inlet, reserved, noReleases, pockets⟩ => ?_) fun out => out
    · by_cases own : j = k
      · rw [own, sheet_set1_same s.hr .free ((nth1_isSome_iff _ _).mp (by rw [occupied]; rfl)), Rack.sheet, occupied]
        rfl
      · exact sheet_set1_other s.hr .free own
    · refine ⟨inlet, reserved, noReleases, fun x m => ?_⟩
      cases k with
      | zero => exact pockets x m
      | succ k => exact (List.mem_or_eq_of_mem_set m).elim (pockets x) Or.inl
  · exact .refl s

theorem clearInlet_lodges (s : State) : s.lodges s.clearInlet :=
  .of_rack (l := [.hr]) (by simp [State.sameBut, State.clearInlet]) (by decide) rfl fun _ law =>
    Racks.rack law (fun _ => rfl) rfl (fun out => out) (fun emptied => emptied) fun out => out

theorem clearJaw_lodges (s : State) (j : JawName) : s.lodges (s.clearJaw j) := by
  unfold State.clearJaw
  split
  · refine .trans ?_ (startTest_lodges _)
    exact .of_stapler (setJaw_frame s j .free) (by decide) (setJaw_fits s j _) fun h => setJaw_housed h (h.jaws.vacate ‹_›)
  · exact .refl s

/-! ### A record gives up its bin -/

/-- A page of a record whose PLACED pages become ABSENT. -/
theorem emptied_status (map : v.map = r.map.map (fun x => if x = .placed then .absent else x)) (p : Nat) :
    v.status p = if r.status p = .placed then .absent else r.status p :=
  status_map_of (f := fun x => if x = .placed then .absent else x) rfl map p

/-- R35, R99: the rack's law where a record's PLACED pages become ABSENT. -/
theorem Racks.emptied_set {g : Table} {half : Nat} {h : Rack} {l : List Entry} (law : Racks g half h l) (found : g i = some r)
    (number : v.record = r.record) (pages : v.pages = r.pages)
    (map : v.map = r.map.map (fun x => if x = .placed then .absent else x)) (state : v.state = .surrendering) :
    Racks (Function.update g i (some v)) half h l := by
  have own : Function.update g i (some v) i = some v := Function.update_self ..
  have page : ∀ p, Table.page (Function.update g i (some v)) i p = if g.page i p = .placed then .absent else g.page i p :=
    fun p => by rw [Table.page_of own, Table.page_of found, emptied_status map]
  refine law.table (filed_update law.filed ((law.filed found).lost pages map (fun x => ?_) (by rw [state]; nofun)))
    (fun j p => ?_) fun _ j p awaited => ?_
  · split
    · exact .inr rfl
    · exact .inl rfl
  · by_cases same : j = i
    · rw [same, page]
      split
      · rename_i placed; rw [placed]; rfl
      · rfl
    · simp only [Table.page, Function.update_of_ne same]
  · by_cases same : j = i
    · subst same
      rw [page, Table.number_of own, Table.number_of found, number]
      refine ⟨if_neg fun placed => ?_, rfl⟩
      rw [placed] at awaited
      cases awaited
    · simp only [Table.page, Table.number, Function.update_of_ne same, and_self]

/-- R34, R35, R99: a record is SURRENDERING without its bin, and no request of its set stays. -/
theorem givesUp_lodges {b : Nat} (fitted : s.listsFitted → t.listsFitted) (bs : t.bs = s.bs)
    (table : t.findSet = Function.update s.findSet v.id (some v)) (found : s.findSet v.id = some r) (bin : r.bin = some b)
    (given : v.bin = none) (state : v.state = .surrendering) (number : v.record = r.record) (pages : v.pages = r.pages)
    (map : v.map = r.map.map (fun x => if x = .placed then .absent else x))
    (freed : t.binState b ≠ some .assigned) (others : ∀ d, d ≠ b → t.binState d = s.binState d)
    (fewer : t.carriageRequests.Sublist s.carriageRequests) (none : s.housed → ∀ q ∈ t.carriageRequests, q.id ≠ v.id)
    (carriage : ∀ q j, t.sc.carriage = .busy q (some j) → s.sc.carriage = .busy q (some j)) (jaw : t.jaw = s.jaw)
    (hr : t.hr = s.hr) (gc : t.gc = s.gc) : s.lodges t := by
  refine ⟨fitted, fun h => ?_, fun _ law => ?_⟩
  · have was : s.lodger v.id = some (r.state, some b) := lodger_eq_some.mpr ⟨r, found, rfl, bin⟩
    have lodger : t.lodger = Function.update s.lodger v.id (some (.surrendering, Option.none)) := by
      rw [lodger_update table, Option.map_some, SetRecord.lodging, state, given]
    have outside : ¬r.state.inAJaw := fun inside => by
      obtain e | held := h.bins.binned was
      · rw [e] at inside
        exact absurd inside (by decide)
      · exact held.mp rfl inside
    refine ⟨?_, ?_, ?_⟩
    · rw [lodger]
      exact h.bins.giveUp was (.inl rfl) freed others
    · rw [lodger]
      exact (h.requests.fewer fewer).rewrite (none h)
    · rw [lodger, jaw]
      refine (h.jaws.drive carriage).rewrite (fun x c own => ?_) fun x c own => ?_
      · rw [was] at own
        cases own
        exact outside
      · cases own
        decide
  · have entries : t.gateEntries = s.gateEntries := by rw [State.gateEntries, gc]; rfl
    rw [State.racked, State.racksWith, State.rackFitted, table, bs, hr, entries]
    exact Racks.emptied_set law found number pages map state

/-- No request moves a set whose requests in the queue are withdrawn and that the carriage does not move. -/
theorem unrequested_withdrawn (h : s.housed) (found : s.findSet i = some r) (x : Bool)
    (flight : ∀ q ∈ s.carriageInFlight, q.id ≠ i) (kind : ∀ q : CarriageRequest, q.moves = r.state → q.isUnload = x)
    (q : CarriageRequest)
    (m : q ∈ s.carriageInFlight.toList ++ s.sc.carriageQueue.filter (fun q => !(q.id == i && q.isUnload == x))) : q.id ≠ i := by
  rintro rfl
  obtain inFlight | queued := List.mem_append.mp m
  · exact flight q (Option.mem_toList.mp inFlight) rfl
  · obtain ⟨queued, other⟩ := List.mem_filter.mp queued
    obtain ⟨r', found', moved, _⟩ := lodger_eq_some.mp (h.requests.moves q (List.mem_append_right _ queued))
    rw [found] at found'
    cases found'
    simp [kind q moved.symm] at other

/-- R35: the carriage moves no set whose bin it has no operation on. -/
theorem flight_elsewhere {b : Nat} (h : s.housed) (found : s.findSet i = some r) (bin : r.bin = some b)
    (off : s.carriageOnBin b = false) : ∀ q ∈ s.carriageInFlight, q.id ≠ i := by
  rintro q flight rfl
  obtain ⟨r', found', _, bin'⟩ := lodger_eq_some.mp (h.requests.moves q (List.mem_append_left _ (Option.mem_toList.mpr flight)))
  rw [found] at found'
  cases found'
  rw [bin] at bin'
  cases bin'
  simp [State.carriageOnBin, Option.mem_def.mp flight] at off

/-- R35, R93: a JAMMED bin's record drops it and is SURRENDERING, its requests withdrawn. -/
theorem dropped_lodges {b : Nat} (found : s.findSet v.id = some r) (bin : r.bin = some b) (jammed : s.binState b = some .jammed)
    (fitted : s.listsFitted → t.listsFitted) (frame : s.sameBut [.co, .cu, .sc, .dc, .lc] t) (bins : t.co.bins = s.co.bins)
    (table : t.findSet = Function.update s.findSet v.id (some v)) (given : v.bin = none) (state : v.state = .surrendering)
    (number : v.record = r.record) (pages : v.pages = r.pages)
    (map : v.map = r.map.map (fun x => if x = .placed then .absent else x))
    {l : List CarriageRequest} (sc : t.sc = (s.withCarriage l).sc) (queue : l.Sublist s.sc.carriageQueue)
    (none : s.housed → ∀ q ∈ s.carriageInFlight.toList ++ l, q.id ≠ v.id) : s.lodges t := by
  have binState : t.binState = s.binState := by funext b; rw [State.binState, bins, State.binState]
  have requests : t.carriageRequests = s.carriageInFlight.toList ++ l := by
    rw [State.carriageRequests, State.carriageInFlight, sc]
    rfl
  refine givesUp_lodges (b := b) fitted (frame.bs (by decide)) table found bin given state number pages map ?_
    (fun d _ => by rw [binState]) ?_ (fun h => ?_) (fun q j busy => by rw [sc] at busy; exact busy) ?_
    (frame.hr (by decide)) (frame.gc (by decide))
  · rw [binState, jammed]
    nofun
  · rw [requests]
    exact queue.append_left _
  · rw [requests]
    exact none h
  · funext j
    cases j
    · rw [State.jaw, sc]; rfl
    · rw [State.jaw, sc]; rfl

theorem findSet_dropBin (found : s.findSet i = some r) : (s.putSet r.dropBin).findSet = Function.update s.findSet i (some r.dropBin) := by
  obtain rfl := findSet_id found
  exact findSet_putSet (v := r.dropBin) found

/-- R35: the record of a bin just JAMMED, with no carriage operation on it. -/
theorem jamRecord_lodges {b : Nat} (found : s.findSet i = some r) (bin : r.bin = some b) (jammed : s.binState b = some .jammed)
    (off : s.housed → s.carriageOnBin b = false) : s.lodges (s.jamRecord r) := by
  obtain rfl := findSet_id found
  have dropped : (s.putSet r.dropBin).findSet = Function.update s.findSet r.id (some r.dropBin) := findSet_dropBin found
  have sc : (s.putSet r.dropBin).sc = s.sc := (putSet_frame s _).sc (by decide)
  unfold State.jamRecord
  dsimp only
  split
  · rename_i state
    refine .trans ?_ (removalTest_lodges _ _)
    refine .trans ?_ (unloadTest_lodges _ _)
    refine .trans ?_ (redirect_lodges _ _)
    have withdrawn : s.lodges ((s.putSet r.dropBin).withCarriage
        (s.sc.carriageQueue.filter (fun q => !(q.id == r.id && q.isUnload == true)))) := by
      refine dropped_lodges (v := r.dropBin) found bin jammed (putSet_fits s r.dropBin).listsFitted ?_ (putSet_bins s _) dropped rfl state
        rfl rfl rfl (by rw [State.withCarriage, sc]; rfl) List.filter_sublist fun h => ?_
      · exact sameBut_trans (sameBut_mono (putSet_frame s r.dropBin) (by decide)) (by simp [State.sameBut, State.withCarriage])
      · refine unrequested_withdrawn h found true (flight_elsewhere h found bin (off h)) fun q moved => ?_
        rw [state, CarriageRequest.moves] at moved
        split at moved
        · assumption
        · cases moved
    rw [withdrawCarriage_eq, sc]
    split
    · exact withdrawn.trans (startTest_lodges _)
    · exact withdrawn
  · rename_i other
    have found' : (s.putSet r.dropBin).findSet r.id = some r.dropBin := by rw [dropped, Function.update_self]
    have surrender : (s.putSet r.dropBin).surrender r.id (some .jam)
        = ((s.putSet r.dropBin).beginSurrender r.dropBin).endSurrender r.dropBin (some .jam) := by
      unfold State.surrender
      rw [found']
    rw [surrender]
    refine .trans ?_ (endSurrender_lodges _ _ _)
    have less := claimless_frame (s.putSet r.dropBin) r.dropBin
    have co := less.co (by decide)
    have found'' : ((s.putSet r.dropBin).claimless r.dropBin).findSet r.dropBin.surrendered.id = some r.dropBin :=
      (findSet_of_co co r.id).trans found'
    have fitted : s.listsFitted → (((s.putSet r.dropBin).claimless r.dropBin).putSet r.dropBin.surrendered).listsFitted := fun fitted =>
      (putSet_fits _ _).listsFitted ((claimless_lodges _ _).fits ((putSet_fits s _).listsFitted fitted))
    have frame : s.sameBut [.co, .cu, .sc, .dc, .lc] (((s.putSet r.dropBin).claimless r.dropBin).putSet r.dropBin.surrendered) :=
      sameBut_trans (sameBut_mono (putSet_frame s r.dropBin) (by decide))
        (sameBut_trans (sameBut_mono less (by decide)) (sameBut_mono (putSet_frame _ _) (by decide)))
    have bins : (((s.putSet r.dropBin).claimless r.dropBin).putSet r.dropBin.surrendered).co.bins = s.co.bins := by
      rw [putSet_bins, co, putSet_bins]
    have table : (((s.putSet r.dropBin).claimless r.dropBin).putSet r.dropBin.surrendered).findSet
        = Function.update s.findSet r.dropBin.surrendered.id (some r.dropBin.surrendered) := by
      rw [findSet_putSet found'', funext (findSet_of_co co), dropped]
      exact Function.update_idem ..
    have sc' : (((s.putSet r.dropBin).claimless r.dropBin).putSet r.dropBin.surrendered).sc = s.sc :=
      ((putSet_frame _ r.dropBin.surrendered).sc (by decide)).trans ((less.sc (by decide)).trans sc)
    have queue : (((s.putSet r.dropBin).claimless r.dropBin).putSet r.dropBin.surrendered).countSurrender.sc = s.sc := sc'
    rw [beginSurrender_eq]
    split
    · rename_i complete
      have state : r.state = .complete := complete
      have withdrawn : s.lodges ((((s.putSet r.dropBin).claimless r.dropBin).putSet r.dropBin.surrendered).countSurrender.withCarriage
          (s.sc.carriageQueue.filter (fun q => !(q.id == r.id && q.isUnload == false)))) := by
        refine dropped_lodges (v := r.dropBin.surrendered) found bin jammed fitted ?_ bins table rfl rfl
          rfl rfl rfl (by rw [State.withCarriage, queue]; rfl) List.filter_sublist fun h => ?_
        · exact sameBut_trans frame (by simp [State.sameBut, State.withCarriage, State.countSurrender])
        · refine unrequested_withdrawn h found false (flight_elsewhere h found bin (off h)) fun q moved => ?_
          rw [state, CarriageRequest.moves] at moved
          split at moved
          · cases moved
          · simpa using ‹¬q.isUnload = true›
      rw [withdrawCarriage_eq, queue]
      split
      · exact withdrawn.trans (startTest_lodges _)
      · exact withdrawn
    · rename_i incomplete
      refine dropped_lodges (v := r.dropBin.surrendered) found bin jammed fitted ?_ bins table rfl rfl rfl rfl rfl
        (l := s.sc.carriageQueue) queue (.refl _) fun h => unrequested h found ⟨incomplete, other⟩
      exact sameBut_trans frame (by simp [State.sameBut, State.countSurrender])

theorem beginSurrender_fitted (s : State) (r : SetRecord) (fitted : s.listsFitted) : (s.beginSurrender r).listsFitted := by
  have put := (putSet_fits _ r.surrendered).listsFitted ((claimless_lodges s r).fits fitted)
  rw [beginSurrender_eq]
  split
  · exact (withdrawCarriage_lodges _ _ _).fits put
  · exact put

theorem surrender_fitted (s : State) (i : SetId) (x : Option YieldReason) (fitted : s.listsFitted) : (s.surrender i x).listsFitted := by
  unfold State.surrender
  split
  · exact fitted
  · exact (endSurrender_lodges _ _ _).fits (beginSurrender_fitted s _ fitted)

theorem jamRecord_fitted (s : State) (r : SetRecord) (fitted : s.listsFitted) : (s.jamRecord r).listsFitted := by
  have dropped := (putSet_fits s r.dropBin).listsFitted fitted
  unfold State.jamRecord
  dsimp only
  split
  · exact (removalTest_lodges _ _).fits ((unloadTest_lodges _ _).fits ((redirect_lodges _ _).fits ((withdrawCarriage_lodges _ _ _).fits dropped)))
  · exact surrender_fitted _ _ _ dropped

/-! ### What every command keeps -/

/-- A command's account: the lengths of the lists in every state, and the laws of the places and the rack in a set table with one
record for each set. -/
def State.lodgesIn (s t : State) : Prop := (s.listsFitted → t.listsFitted) ∧ (s.distinct → s.lodges t)

theorem State.lodges.lodgesIn (h : s.lodges t) : s.lodgesIn t := ⟨h.fits, fun _ => h⟩

theorem jamBin_lodgesIn {b : Nat} (assigned : s.binState b = some .assigned) : s.lodgesIn
    (if s.carriageOnBin b then s.setBin b .jammed
      else match s.holderOf b with
        | none => s.setBin b .jammed
        | some r => (s.setBin b .jammed).jamRecord r) := by
  have jammed : s.lodges (s.setBin b .jammed) := setBin_lodges (by rw [assigned]; rfl) fun h => h.bins.jam
  split
  · exact jammed.lodgesIn
  · rename_i off
    split
    · exact jammed.lodgesIn
    · rename_i r holder
      refine ⟨fun fitted => jamRecord_fitted _ _ (jammed.fits fitted), fun d => ?_⟩
      have found : (s.setBin b .jammed).findSet r.id = some r := by
        rw [setBin_lodger]
        exact findSet_of_mem d (List.mem_of_find?_eq_some holder)
      have bin : r.bin = some b := by simpa using List.find?_some holder
      have now : (s.setBin b .jammed).binState b = some .jammed := by
        have inside := (nth1_isSome_iff s.co.bins b).mp (by rw [show nth1 s.co.bins b = _ from assigned]; rfl)
        rw [State.binState, setBin_co]
        exact nth1_set1_same _ inside.1 inside.2
      refine jammed.trans (jamRecord_lodges found bin now fun _ => ?_)
      have same : (s.setBin b .jammed).carriageOnBin b = s.carriageOnBin b := by
        rw [State.carriageOnBin, State.carriageInFlight, (setBin_frame s b .jammed).sc (by decide)]
        rfl
      rw [same]
      simpa using off

theorem binJammed_lodgesIn (s : State) (b : Nat) : ∃ t, exec (.binJammed b) s = .next t ∧ s.lodgesIn t := by
  have jammed (x : BinState) (state : s.binState b = some x) : s.lodges (s.setBin b .jammed) :=
    setBin_lodges (by rw [state]; rfl) fun h => h.bins.jam
  refine ⟨_, rfl, ?_⟩
  split
  · exact (State.lodges.refl s).lodgesIn
  · exact (State.lodges.refl s).lodgesIn
  · exact (jammed _ ‹_›).lodgesIn
  · exact (jammed _ ‹_›).lodgesIn
  · exact jamBin_lodgesIn ‹_›

end Sys2Proof.Machine
end

section
namespace Sys2Proof.Machine

variable {s t : State} {i : SetId} {r v : SetRecord}

/-! ### StaplerCmds.lean: the carriage -/

/-- The request in flight moves a set, and no other request moves it. -/
theorem inFlight_moves {q : CarriageRequest} {j : Option JawName} (h : s.housed) (busy : s.sc.carriage = .busy q j) :
    (∃ r, s.findSet q.id = some r ∧ r.state = q.moves ∧ r.bin = some q.bin) ∧ (∀ p ∈ s.sc.carriageQueue, p.id ≠ q.id)
      ∧ s.sc.carriageQueue.Sublist s.carriageRequests := by
  have requests : s.carriageRequests = q :: s.sc.carriageQueue := by
    simp only [State.carriageRequests, State.carriageInFlight, busy]
    rfl
  obtain ⟨_, ⟨moves, one⟩, _⟩ := h
  rw [requests] at moves one
  rw [List.map_cons, List.nodup_cons] at one
  refine ⟨lodger_eq_some.mp (moves q (List.mem_cons_self ..)), fun p m same => one.1 (List.mem_map.mpr ⟨p, m, same⟩), ?_⟩
  rw [requests]
  exact List.sublist_cons_self ..

theorem carriageIdle_lodges {q : CarriageRequest} {j : Option JawName} (busy : s.sc.carriage = .busy q j) :
    s.lodges { s with sc := { s.sc with carriage := .idle } } := by
  refine .of_stapler (l := [.sc]) (by simp [State.sameBut]) (by decide) rfl fun h => ?_
  obtain ⟨_, _, fewer⟩ := inFlight_moves h busy
  exact ⟨h.bins, h.requests.fewer fewer, h.jaws.drive nofun⟩

/-- The jaw takes the set, the bin is given up and the record is IN_JAW: the changes of an OK TRANSFERRED before the set's
stapling is settled. -/
def State.seated (s : State) (r : SetRecord) (b : Nat) (j : JawName) : State :=
  State.putSet (State.freeBin
    (State.setJaw { s with sc := { s.sc with carriage := .idle } } j
      (.holding r.id { outcome := none, owed := r.staplesOwed, retryUsed := false })) b)
    { r.toState .inJaw with bin := none }

theorem seated_frame (s : State) (r : SetRecord) (b : Nat) (j : JawName) : s.sameBut [.co, .sc, .dc, .lc] (s.seated r b j) := by
  refine sameBut_trans ?_ (sameBut_mono (putSet_frame _ _) (by decide))
  refine sameBut_trans ?_ (sameBut_mono (freeBin_frame _ _) (by decide))
  refine sameBut_trans ?_ (sameBut_mono (setJaw_frame _ _ _) (by decide))
  simp [State.sameBut]

theorem seated_fits (s : State) (r : SetRecord) (b : Nat) (j : JawName) : s.fits (s.seated r b j) := by
  refine .trans ?_ (putSet_fits _ _)
  refine .trans ?_ (freeBin_fits _ _)
  exact .trans rfl (setJaw_fits _ _ _)

theorem seated_sc (s : State) (r : SetRecord) (b : Nat) (j : JawName) : (s.seated r b j).sc
    = (State.setJaw { s with sc := { s.sc with carriage := .idle } } j
      (.holding r.id { outcome := none, owed := r.staplesOwed, retryUsed := false })).sc :=
  ((putSet_frame _ _).sc (by decide)).trans ((freeBin_frame _ _).sc (by decide))

theorem seated_jaw (s : State) (r : SetRecord) (b : Nat) (j : JawName) : (s.seated r b j).jaw
    = Function.update s.jaw j (.holding r.id { outcome := none, owed := r.staplesOwed, retryUsed := false }) := by
  have same : (s.seated r b j).jaw = (State.setJaw { s with sc := { s.sc with carriage := .idle } } j
      (.holding r.id { outcome := none, owed := r.staplesOwed, retryUsed := false })).jaw := by
    funext k
    cases k <;> rw [State.jaw, seated_sc] <;> rfl
  rw [same, jaw_setJaw]
  rfl

theorem seated_table (found : s.findSet r.id = some r) (b : Nat) (j : JawName) :
    (s.seated r b j).findSet = Function.update s.findSet r.id (some { r.toState .inJaw with bin := none }) := by
  have same := setJaw_co { s with sc := { s.sc with carriage := .idle } } j
      (.holding r.id { outcome := none, owed := r.staplesOwed, retryUsed := false })
  have before : (State.freeBin (State.setJaw { s with sc := { s.sc with carriage := .idle } } j
      (.holding r.id { outcome := none, owed := r.staplesOwed, retryUsed := false })) b).findSet = s.findSet := by
    rw [freeBin_table, funext (findSet_of_co same)]
    rfl
  rw [State.seated, findSet_putSet (v := { r.toState .inJaw with bin := none }) (by rw [before]; exact found), before]
  rfl

theorem seated_binState (s : State) (r : SetRecord) (b : Nat) (j : JawName) : (s.seated r b j).binState b ≠ some .assigned
    ∧ ∀ d, d ≠ b → (s.seated r b j).binState d = s.binState d := by
  have co := setJaw_co { s with sc := { s.sc with carriage := .idle } } j
      (.holding r.id { outcome := none, owed := r.staplesOwed, retryUsed := false })
  obtain ⟨freed, others⟩ := freeBin_binState (State.setJaw { s with sc := { s.sc with carriage := .idle } } j
      (.holding r.id { outcome := none, owed := r.staplesOwed, retryUsed := false })) b
  have same (d : Nat) : (s.seated r b j).binState d = (State.freeBin (State.setJaw { s with sc := { s.sc with carriage := .idle } } j
      (.holding r.id { outcome := none, owed := r.staplesOwed, retryUsed := false })) b).binState d := by
    rw [State.binState, State.seated, putSet_bins, State.binState]
  refine ⟨by rw [same]; exact freed, fun d other => ?_⟩
  rw [same, others d other, State.binState, co, State.binState]

/-- R120: the set that the carriage has transferred is in its jaw, and its bin is given up. -/
theorem seated_lodges {b : Nat} {j : JawName} (found : s.findSet r.id = some r) (busy : s.sc.carriage = .busy (.transfer r.id b) (some j)) :
    s.lodges (s.seated r b j) := by
  refine .given (seated_fits s r b j) fun h => ?_
  obtain ⟨⟨q, found', complete, bin⟩, none, fewer⟩ := inFlight_moves h busy
  obtain rfl : r = q := Option.some.inj (found.symm.trans found')
  have state : r.state = .complete := complete
  have bin : r.bin = some b := bin
  have was : s.lodger r.id = some (.complete, some b) := lodger_eq_some.mpr ⟨r, found, state, bin⟩
  have frame := seated_frame s r b j
  have table := seated_table found b j
  have lodger : (s.seated r b j).lodger = Function.update s.lodger r.id (some (.inJaw, Option.none)) := by
    rw [lodger_update table]
    rfl
  have sc := seated_sc s r b j
  have idle : (s.seated r b j).sc.carriage = .idle := by rw [sc]; exact (setJaw_sc _ _ _).1
  have queue : (s.seated r b j).carriageRequests = s.sc.carriageQueue := by
    rw [State.carriageRequests, State.carriageInFlight, idle, sc]
    cases j <;> rfl
  refine ⟨(seated_fits s r b j).listsFitted, fun _ => ⟨?_, ?_, ?_⟩, fun _ law => ?_⟩
  · obtain ⟨freed, others⟩ := seated_binState s r b j
    rw [lodger]
    exact h.bins.giveUp was (.inr (.inl rfl)) freed others
  · rw [lodger, queue]
    exact (h.requests.fewer fewer).rewrite none
  · have jaws := h.jaws
    rw [busy] at jaws
    rw [lodger, idle, seated_jaw]
    exact jaws.seat (q := .transfer r.id b) was (by decide) (.inl rfl)
  · have entries : (s.seated r b j).gateEntries = s.gateEntries := by rw [State.gateEntries, frame.gc (by decide)]; rfl
    rw [State.racked, State.racksWith, table, (seated_fits s r b j).rackFitted, frame.hr (by decide), entries]
    exact Racks.restate law found rfl rfl rfl fun _ _ => .inl (.inl state)

theorem settle_lodges {j : JawName} (jaw : ∃ k st, s.jaw k = .holding r.id st) : s.lodges (s.settle j r) := by
  unfold State.settle
  split
  · exact handOver_lodges fun _ => jaw
  · exact .after (headIssue_lodges _) rfl

theorem transferDone_lodges {b : Nat} {j : JawName} (busy : s.sc.carriage = .busy (.transfer i b) (some j)) :
    s.lodges (s.transferDone i b j) := by
  unfold State.transferDone
  dsimp only
  split
  · exact carriageIdle_lodges busy
  · rename_i r found
    obtain rfl := findSet_id found
    refine .trans ?_ (startTest_lodges _)
    exact (seated_lodges found busy).trans (settle_lodges (s := s.seated r b j) ⟨j, _, by rw [seated_jaw, Function.update_self]⟩)

/-- R99, R101: the sheets of an UNLOAD lie on the return feeder, and the record is without its bin. -/
theorem unloaded_lodges {b m : Nat} {j : Option JawName} (busy : s.sc.carriage = .busy (.unload i b m) j) (f : Feeder) :
    s.lodges (State.updSet (State.freeBin { s with sc := { s.sc with carriage := .idle }, rf := f } b) i SetRecord.emptied) := by
  have fits : s.fits (State.updSet (State.freeBin { s with sc := { s.sc with carriage := .idle }, rf := f } b) i SetRecord.emptied) :=
    .trans (t := { s with sc := { s.sc with carriage := .idle }, rf := f }) rfl ((freeBin_fits _ b).trans (updSet_fits _ i _))
  refine .given fits fun h => ?_
  obtain ⟨⟨r, found, unloading, bin⟩, none, fewer⟩ := inFlight_moves h busy
  obtain rfl : r.id = i := findSet_id found
  have before : (State.freeBin { s with sc := { s.sc with carriage := .idle }, rf := f } b).findSet = s.findSet := by
    rw [freeBin_table]
    rfl
  have found' : (State.freeBin { s with sc := { s.sc with carriage := .idle }, rf := f } b).findSet r.emptied.id = some r := by
    rw [before]
    exact found
  have put : State.updSet (State.freeBin { s with sc := { s.sc with carriage := .idle }, rf := f } b) r.id SetRecord.emptied
      = (State.freeBin { s with sc := { s.sc with carriage := .idle }, rf := f } b).putSet r.emptied := by
    unfold State.updSet
    split
    · rename_i gone
      exact nomatch found'.symm.trans gone
    · rename_i q there
      obtain rfl : r = q := Option.some.inj (found'.symm.trans there)
      rfl
  have frame : s.sameBut [.co, .sc, .rf, .dc, .lc]
      ((State.freeBin { s with sc := { s.sc with carriage := .idle }, rf := f } b).putSet r.emptied) := by
    refine sameBut_trans ?_ (sameBut_mono (putSet_frame _ _) (by decide))
    refine sameBut_trans ?_ (sameBut_mono (freeBin_frame _ _) (by decide))
    simp [State.sameBut]
  have sc : ((State.freeBin { s with sc := { s.sc with carriage := .idle }, rf := f } b).putSet r.emptied).sc
      = { s.sc with carriage := .idle } := ((putSet_frame _ _).sc (by decide)).trans ((freeBin_frame _ _).sc (by decide))
  have requests : ((State.freeBin { s with sc := { s.sc with carriage := .idle }, rf := f } b).putSet r.emptied).carriageRequests
      = s.sc.carriageQueue := by
    rw [State.carriageRequests, State.carriageInFlight, sc]
    rfl
  obtain ⟨freed, others⟩ := freeBin_binState { s with sc := { s.sc with carriage := .idle }, rf := f } b
  have bins : ∀ d, ((State.freeBin { s with sc := { s.sc with carriage := .idle }, rf := f } b).putSet r.emptied).binState d
      = (State.freeBin { s with sc := { s.sc with carriage := .idle }, rf := f } b).binState d := fun d => by
    rw [State.binState, putSet_bins, State.binState]
  rw [put] at fits ⊢
  refine givesUp_lodges (v := r.emptied) (b := b) fits.listsFitted (frame.bs (by decide)) ?_ found bin rfl unloading rfl rfl rfl
    (by rw [bins]; exact freed) (fun d other => (bins d).trans (others d other)) ?_ (fun _ => ?_) (fun q k busy' => ?_) ?_
    (frame.hr (by decide)) (frame.gc (by decide))
  · rw [findSet_putSet found', before]
  · rw [requests]
    exact fewer
  · rw [requests]
    exact none
  · rw [sc] at busy'
    cases busy'
  · funext k
    cases k <;> rw [State.jaw, sc] <;> rfl

theorem unloadDone_lodges {b m : Nat} {j : Option JawName} (busy : s.sc.carriage = .busy (.unload i b m) j) :
    s.lodges (s.unloadDone i b m) := by
  refine .trans ?_ (roomReport_lodges _)
  exact (unloaded_lodges busy _).trans (removalTest_lodges _ _)

/-! ### StaplerCmds.lean: the head -/

theorem useStaples_lodges (s : State) (k : Nat) : s.lodges (s.useStaples k) := .after (tell_lodges _ _) rfl

theorem stapling_eq_some {j : JawName} {st : Stapling} (h : s.stapling j = some (i, st)) : s.jaw j = .holding i st := by
  unfold State.stapling at h
  split at h
  · rename_i jaw
    cases h
    exact jaw
  all_goals cases h

theorem leaveHead_lodges (s : State) (j : JawName) (owed : Nat) (o : SetOutcome) : s.lodges (s.leaveHead j owed o) := by
  unfold State.leaveHead
  split
  · exact .refl s
  · rename_i i st holding
    have jaw := stapling_eq_some holding
    refine .trans ?_ (headIssue_lodges _)
    refine .trans ?_ (handOver_lodges fun _ => ⟨j, { st with owed := owed }, ?_⟩)
    · exact (setJaw_lodges_hold jaw _).trans (.of rfl)
    have own := jaw_setJaw_same s j (.holding i { st with owed := owed })
    cases j <;> exact own

theorem stapleDone_lodges (s : State) (j : JawName) (k : Nat) : s.lodges (s.stapleDone j k) := by
  refine .trans ?_ (leaveHead_lodges _ _ _ _)
  exact .after (useStaples_lodges _ _) rfl

theorem stapleMisfired_lodges (s : State) (j : JawName) (k f : Nat) : s.lodges (s.stapleMisfired j k f) := by
  have used : s.lodges
      (({ s with sc := { s.sc with head := .idle, misfires := Machine.count s.sc.misfires } } : State).useStaples k) :=
    .after (useStaples_lodges _ _) rfl
  unfold State.stapleMisfired
  dsimp only
  split
  · exact used
  · split
    · exact used.trans (leaveHead_lodges _ _ _ _)
    · exact (used.trans (setJaw_lodges_hold (stapling_eq_some ‹_›) _)).trans (headIssue_lodges _)

theorem stapleJammed_lodges (s : State) (j : JawName) (k f : Nat) : s.lodges (s.stapleJammed j k f) := by
  refine .trans ?_ (headFault_lodges _)
  refine .trans ?_ (useStaples_lodges _ _)
  split
  · exact .refl s
  · exact setJaw_lodges_hold (stapling_eq_some ‹_›) _

/-! ### DeliveryCmds.lean -/

/-- R128, R142: the set of a jaw leaves the table, and its jaw is FREE. -/
theorem taken_lodges {j : JawName} {st : Stapling} (holding : s.jaw j = .holding i st) : s.lodges ((s.removeSet i).setJaw j .free) := by
  have removed := removeSet_frame s i
  have freed := setJaw_frame (s.removeSet i) j .free
  have jaw : (s.removeSet i).jaw = s.jaw := by
    funext k
    cases k <;> rw [State.jaw, removed.sc (by decide)] <;> rfl
  have queue : ((s.removeSet i).setJaw j .free).sc.carriageQueue = (s.removeSet i).sc.carriageQueue := by cases j <;> rfl
  refine leave_lodges (z := .free) ((removeSet_fits s i).trans (setJaw_fits _ j .free)) holding rfl ?_ ?_ ?_ ?_ ?_
    ((freed.hr (by decide)).trans (removed.hr (by decide))) ((freed.gc (by decide)).trans (removed.gc (by decide)))
  · rw [funext (findSet_of_co (freed.co (by decide))), findSet_removal]
  · rw [freed.co (by decide), removeSet_bins]
  · rw [jaw_setJaw, jaw]
  · rw [(setJaw_sc _ j .free).1, removed.sc (by decide)]
  · rw [queue, removed.sc (by decide)]

theorem deliveredInto_lodges (s : State) (j : JawName) (p : Nat) : s.lodges (s.deliveredInto j p) := by
  have landed := landed_lodges s p
  unfold State.deliveredInto
  dsimp only
  split
  · rename_i i st holding
    split
    · exact landed.trans (deliverTest_lodges _ _)
    · refine .trans ?_ (deliverTest_lodges _ _)
      refine .trans ?_ (startTest_lodges _)
      refine .trans ?_ (joinDone_lodges _ _)
      refine (landed.trans (addDone_lodges (s.landed p) i)).trans (taken_lodges (st := st) ?_)
      have sc : (State.addDone (s.landed p) i).sc = s.sc := (addDone_frame (s.landed p) i).sc (by decide)
      rw [← holding]
      cases j
      · exact congrArg Stapler.jawA sc
      · exact congrArg Stapler.jawB sc
  all_goals exact landed.trans (deliverTest_lodges _ _)

/-! ### GateCmds.lean -/

theorem lapseOldestN_lodges : ∀ (n : Nat) (s : State), s.lodges (State.lapseOldestN n s)
  | 0, s => .refl s
  | n + 1, s => (lapseOldest_lodges s).trans (lapseOldestN_lodges n _)

/-- R15: the oldest entry is the operation in flight. -/
theorem takes_lodges {e : Entry} {rest : List Entry} (queue : s.gc.queue = e :: rest) (idle : s.gc.gate = .idle) :
    s.lodges { s with gc := { s.gc with queue := rest, gate := .busy e } } := by
  refine ⟨fun fitted => fitted, fun h => housed_of_blocks (s := s) rfl rfl h, fun _ law => ?_⟩
  refine Racks.perm law (.filter _ ?_)
  rw [State.gateEntries, queue, idle]
  dsimp only
  rw [List.append_nil]
  exact (List.perm_append_singleton e rest).symm

theorem takeOldest_lodges (s : State) : s.lodges s.takeOldest := by
  unfold State.takeOldest
  split
  · exact .refl s
  · rename_i e rest queue
    dsimp only
    unfold State.takeEntry
    split
    · rename_i pass
      exact drop_lodges (gives_head queue) fun _ _ _ => by rw [Entry.diverting, pass]
    · split
      · rename_i idle
        exact takes_lodges queue idle
      · exact lapse_lodges (gives_head queue)

theorem fillTaken_lodges (s : State) : s.lodges s.fillTaken := .after (roomReport_lodges _) rfl

/-- R16: the operation in flight has succeeded. -/
theorem gateDone_lodges {e : Entry} (busy : s.gc.gate = .busy e) :
    s.lodges (State.gateDone { s with gc := { s.gc with gate := .idle } } e) := by
  have gives := gives_flight busy .idle (.inl rfl)
  unfold State.gateDone
  split
  · exact binDiverted_lodges gives ‹_› ‹_›
  · exact rackDiverted_lodges gives ‹_›
  · rename_i action
    exact (drop_lodges gives fun _ _ _ => by rw [Entry.diverting, action]).trans (.of rfl)
  · rename_i action
    exact (drop_lodges gives fun _ _ _ => by rw [Entry.diverting, action]).trans (fillTaken_lodges _)
  · rename_i noRack _ _ noBin
    refine drop_lodges gives fun _ law service => ?_
    cases action : e.action with
    | pass | reject | fill => rw [Entry.diverting, action]
    | rack k => exact absurd action (noRack k)
    | bin b =>
      have sound := ((gaveUp_racks gives law).served service).entries e (List.mem_cons_self ..)
      unfold Entry.sound at sound
      rw [action] at sound
      obtain ⟨w, target, _⟩ := sound
      exact (noBin b w action target).elim

theorem gateCompletion_lodges (s : State) (fill good : Bool) : s.lodges (s.gateCompletion fill good) := by
  unfold State.gateCompletion
  split
  · dsimp only
    split
    · exact gateDone_lodges ‹_›
    · exact gateFailed_lodges ‹_› (.inl rfl)
  · exact .refl s
  · exact .refl s

end Sys2Proof.Machine
end

section
namespace Sys2Proof.Machine

variable {s t : State} {i : SetId} {r v : SetRecord} {m : Mark} {c : Chosen}

/-! ### Routing.lean: a chosen action, whose entry joins the approach queue last -/

/-- R11: the entry of a choice. -/
def Chosen.entry (c : Chosen) (n : Nat) : Entry := { carrier := n, action := c.action, target := c.target }

/-- What a choice keeps: the law of the rack with the entry that it makes. -/
structure State.lodgesWith (s : State) (c : Chosen) : Prop where
  fits : s.listsFitted → c.state.listsFitted
  places : s.housed → c.state.housed
  rack : ∀ n, s.housed → s.racked → c.state.racksWith (c.entry n :: c.state.gateEntries)

theorem State.lodges.followed (h : s.lodges t) (k : t.lodgesWith c) : s.lodgesWith c :=
  ⟨k.fits ∘ h.fits, k.places ∘ h.places, fun n housed racked => k.rack n (h.places housed) (h.rack housed racked)⟩

/-- A choice whose entry diverts no sheet to the bin or to the rack. -/
theorem State.lodges.undiverting (h : s.lodges c.state) (kind : (c.entry 0).diverting = false) : s.lodgesWith c := by
  refine ⟨h.fits, h.places, fun n housed racked => Racks.perm (h.rack housed racked) ?_⟩
  have kind : (c.entry n).diverting = false := kind
  rw [List.filter_cons_of_neg (by simp [kind])]

theorem rejectOrPass_undiverting (s : State) (n : Nat) (w : Option PageRef) :
    Entry.diverting { carrier := n, action := s.rejectOrPass, target := w } = false := by
  unfold State.rejectOrPass
  split <;> rfl

/-- A sheet that is passed. -/
theorem passed_lodgesWith (s : State) : s.lodgesWith (s.choose .pass) := State.lodges.undiverting (.refl s) rfl

/-- R8: a sheet that is rejected, or passed when the tray is full, with a counter's count. -/
theorem rejected_lodgesWith (s t : State) (h : t.lodgings = s.lodgings) : s.lodgesWith (t.choose s.rejectOrPass) :=
  State.lodges.undiverting (.of h) (rejectOrPass_undiverting s 0 none)

/-- R11 step 3: the choice's entry joins the approach queue. -/
theorem State.lodgesWith.joins (h : s.lodgesWith c) (n : Nat) :
    s.lodges { c.state with gc := { c.state.gc with queue := c.state.gc.queue ++ [c.entry n] } } := by
  refine ⟨h.fits, fun housed => housed_of_blocks (s := c.state) rfl rfl (h.places housed), fun housed racked => ?_⟩
  refine Racks.perm (h.rack n housed racked) (.filter _ ?_)
  rw [State.gateEntries, State.gateEntries]
  dsimp only
  rw [List.append_assoc]
  exact List.perm_middle.symm

/-- R107: the sighting of the set, after the choice. -/
theorem State.lodgesWith.sighted (h : s.lodgesWith c) (i : SetId) : s.lodgesWith { c with state := c.state.sighting i } := by
  have seen := sighting_lodges c.state i
  refine ⟨fun fitted => seen.fits (h.fits fitted), fun housed => seen.places (h.places housed), fun n housed racked => ?_⟩
  have law := h.rack n housed racked
  have frame := updSet_frame c.state i (fun r => { r with watch := 0 })
  have entries : (c.state.sighting i).gateEntries = c.state.gateEntries := by
    rw [State.gateEntries, State.sighting, frame.gc (by decide)]
    rfl
  change (c.state.sighting i).racksWith (c.entry n :: (c.state.sighting i).gateEntries)
  rw [entries, State.racksWith, State.rackFitted, State.sighting, frame.bs (by decide), frame.hr (by decide)]
  cases found : c.state.findSet i with
  | none =>
    have same : c.state.updSet i (fun r => { r with watch := 0 }) = c.state := by simp only [State.updSet, found]
    rw [same]
    exact law
  | some r =>
    obtain rfl := findSet_id found
    have put : c.state.updSet r.id (fun r => { r with watch := 0 }) = c.state.putSet { r with watch := 0 } := by
      simp only [State.updSet, found]
    rw [put, findSet_putSet (v := { r with watch := 0 }) found]
    exact Racks.restate law found rfl rfl rfl fun _ => Or.inl

/-! ### Collation routing -/

/-- R40: a sheet of a set that awaits its page goes to the bin. -/
theorem routeBin_lodgesWith {b p : Nat} (found : s.findSet r.id = some r) (open' : ¬r.state.ended) (low : 1 ≤ p) (high : p ≤ r.pages)
    (absent : r.status p = .absent) :
    s.lodgesWith { state := s.setPage r.id p .inboundBin, action := .bin b, target := some { id := r.id, page := p, record := r.record } } := by
  refine ⟨(setPage_fits s r.id p _).listsFitted, setPage_housed r.id p _, fun n _ law => ?_⟩
  have filed := law.filed found
  have inside : 1 ≤ p ∧ p ≤ r.map.length := ⟨low, by rw [filed.whole]; exact high⟩
  have entries : (s.setPage r.id p .inboundBin).gateEntries = s.gateEntries := by
    rw [State.gateEntries, (setPage_frame s r.id p .inboundBin).gc (by decide)]
    rfl
  change (s.setPage r.id p .inboundBin).racksWith (_ :: (s.setPage r.id p .inboundBin).gateEntries)
  rw [entries]
  refine racksWith_setPage found (Racks.joinBin law rfl rfl ((Table.page_of found p).trans absent) (Table.number_of found)
    (update_turns (v := r.setStatus p .inboundBin) found rfl rfl inside) ?_)
  exact filed_update law.filed (filed.turn (.inr (.inr open')) fun shares => by cases shares)

/-- R41, R55: a sheet of a set that awaits its page goes to the rack. -/
theorem routeRack_lodgesWith {k p : Nat} (found : s.findSet r.id = some r) (open' : ¬r.state.ended) (low : 1 ≤ p) (high : p ≤ r.pages)
    (absent : r.status p = .absent) (free : s.lowestFree = some k) (admits : s.rackAdmits r p = true) :
    s.lodgesWith ⟨(s.reserve k r.id p).setPage r.id p (.inboundRack k), .rack k, some { id := r.id, page := p, record := r.record }⟩ := by
  have fits : s.fits ((s.reserve k r.id p).setPage r.id p (.inboundRack k)) :=
    .trans (by simp [State.fits, State.fitting, State.reserve]) (setPage_fits (s.reserve k r.id p) r.id p _)
  refine ⟨fits.listsFitted, fun h => setPage_housed r.id p _ (housed_of_blocks (s := s) rfl rfl h), fun n _ law => ?_⟩
  have filed := law.filed found
  have inside : 1 ≤ p ∧ p ≤ r.map.length := ⟨low, by rw [filed.whole]; exact high⟩
  simp only [State.rackAdmits, Bool.and_eq_true, decide_eq_true_eq] at admits
  obtain ⟨⟨⟨⟨service, _⟩, place⟩, share⟩, _⟩ := admits
  simp only [State.inletPlaceFree, Bool.and_eq_true, Config.inletMax] at place
  have pocket : nth1 s.hr.pockets k = some .free := by simpa using List.find?_some free
  have entries : ((s.reserve k r.id p).setPage r.id p (.inboundRack k)).gateEntries = s.gateEntries := by
    rw [State.gateEntries, (setPage_frame (s.reserve k r.id p) r.id p (.inboundRack k)).gc (by decide)]
    rfl
  change ((s.reserve k r.id p).setPage r.id p (.inboundRack k)).racksWith
    (_ :: ((s.reserve k r.id p).setPage r.id p (.inboundRack k)).gateEntries)
  rw [entries]
  refine racksWith_setPage (s := s.reserve k r.id p) found (Racks.joinRack law (inService_iff.mp service) (k := k)
    (t := { id := r.id, page := p, record := r.record }) rfl rfl
    ((Table.page_of found p).trans absent) (Table.number_of found)
    (update_turns (v := r.setStatus p (.inboundRack k)) found rfl rfl inside) pocket (of_decide_eq_true place.1) ?_)
  exact filed_update law.filed (filed.turn (.inr (.inr open')) fun _ => .inr share)

theorem routeOpen_lodgesWith (found : s.findSet r.id = some r) (open' : ¬r.state.ended) (valid : 1 ≤ m.page ∧ m.page ≤ m.pages) :
    s.lodgesWith (s.routeOpen r m) := by
  unfold State.routeOpen
  split
  · exact rejected_lodgesWith s _ rfl
  · rename_i pages
    have pages : m.pages = r.pages := not_not.mp pages
    split
    · exact rejected_lodgesWith s _ rfl
    · rename_i absent
      have absent := not_not.mp absent
      split
      · exact passed_lodgesWith s
      · dsimp only
        split
        · exact routeBin_lodgesWith found open' valid.1 (pages ▸ valid.2) absent
        · split
          · exact routeRack_lodgesWith found open' valid.1 (pages ▸ valid.2) absent ‹_› ‹_›
          · exact State.lodges.undiverting (c := s.countRackFull.choose .pass) (.of rfl) rfl

theorem route_lodgesWith (found : s.findSet r.id = some r) (valid : 1 ≤ m.page ∧ m.page ≤ m.pages) :
    s.lodgesWith (s.route r m) := by
  have ended : s.lodgesWith (if m.pages ≠ r.pages then s.countMismatch.choose s.rejectOrPass
      else if r.status m.page = .absent then s.countLate.choose s.rejectOrPass
      else s.countDuplicate.choose s.rejectOrPass) := by
    split
    · exact rejected_lodgesWith s _ rfl
    · split <;> exact rejected_lodgesWith s _ rfl
  unfold State.route
  split
  · rename_i state
    exact routeOpen_lodgesWith found (by rw [state]; decide) valid
  · rename_i state
    exact routeOpen_lodgesWith found (by rw [state]; decide) valid
  · exact passed_lodgesWith s
  · exact ended
  · exact ended
  · exact ended
  · exact passed_lodgesWith s

/-! ### The claim -/

theorem claimMade_fits (s : State) (j : JobRecord) (m : Mark) (b p : Nat) : s.fits (s.claimMade j m b p) := by
  refine .trans (t := { s with co := { s.co with searchPtr := b % s.co.bins.length + 1 } }) rfl ?_
  exact ((setBin_fits _ b .assigned).trans (addSet_fits _ _)).trans (changePocket_fits _ _ _)

theorem claimMade_table {j : JobRecord} {b p : Nat} (new : s.findSet m.id = none) : (s.claimMade j m b p).findSet
    = Function.update s.findSet m.id (some (SetRecord.made j m b p s.co.made)) := by
  have claims := claimMade_claims (j := j) (b := b) (p := p) new
  funext k
  by_cases own : k = m.id
  · rw [own, Function.update_self]
    exact claims.record
  · rw [Function.update_of_ne own]
    exact claims.others k (by simpa using own)

theorem searchBin_available {b : Nat} (h : s.searchBin = some b) : s.binState b = some .available := by
  simpa using List.find?_some h

/-- R33, R36: a new record has an AVAILABLE bin, and its pages are ABSENT. -/
theorem claimMade_lodges {j : JobRecord} {b p : Nat} (new : s.findSet m.id = none) (available : s.binState b = some .available) :
    s.lodges (s.claimMade j m b p) := by
  have fits := claimMade_fits s j m b p
  have frame := claimMade_frame s j m b p
  have table := claimMade_table (j := j) (b := b) (p := p) new
  refine ⟨fits.listsFitted, fun h => ?_, fun _ law => ?_⟩
  · have none : s.lodger m.id = none := by rw [State.lodger, new]; rfl
    have lodger : (s.claimMade j m b p).lodger = Function.update s.lodger m.id (some (.claiming, some b)) := by
      rw [lodger_update table]
      rfl
    have binState : (s.claimMade j m b p).binState = Function.update s.binState b (some .assigned) := by
      rw [← binState_set1 (by rw [available]; rfl)]
      funext d
      rw [State.binState, claimMade_co]
    have requests : (s.claimMade j m b p).carriageRequests = s.carriageRequests := by
      rw [State.carriageRequests, State.carriageInFlight, frame.sc (by decide)]
      rfl
    have jaw : (s.claimMade j m b p).jaw = s.jaw := by
      funext k
      cases k <;> rw [State.jaw, frame.sc (by decide)] <;> rfl
    refine ⟨?_, ?_, ?_⟩
    · rw [lodger, binState]
      exact h.bins.claim none available
    · rw [lodger, requests]
      refine h.requests.rewrite fun q hq own => ?_
      have moves := h.requests.moves q hq
      rw [own, none] at moves
      cases moves
    · rw [lodger, frame.sc (by decide), jaw]
      refine h.jaws.rewrite (fun x c own => ?_) fun x c own => ?_
      · rw [none] at own
        cases own
      · cases own
        decide
  · have entries : (s.claimMade j m b p).gateEntries = s.gateEntries := by rw [State.gateEntries, frame.gc (by decide)]; rfl
    have own : Function.update s.findSet m.id (some (SetRecord.made j m b p s.co.made)) m.id = some (SetRecord.made j m b p s.co.made) :=
      Function.update_self ..
    have pages : ∀ k q, Table.page (Function.update s.findSet m.id (some (SetRecord.made j m b p s.co.made))) k q
        = Table.page s.findSet k q := fun k q => by
      by_cases same : k = m.id
      · rw [same, Table.page_of own, Table.page_of_none new]
        exact made_status q
      · simp only [Table.page, Function.update_of_ne same]
    rw [State.racked, State.racksWith, table, fits.rackFitted, frame.hr (by decide), entries]
    refine Racks.table law (filed_update law.filed ⟨List.length_replicate, ?_, fun _ e => absurd (show SetState.ended .claiming from e) (by decide)⟩) (fun k q => by rw [pages])
      fun _ k q awaited => ⟨pages k q, ?_⟩
    · rw [made_share]
      exact Nat.zero_le _
    · have other : k ≠ m.id := by
        rintro rfl
        rw [Table.page_of_none new] at awaited
        cases awaited
      simp only [Table.number, Function.update_of_ne other]

theorem claimDecision_lodgesWith (j : JobRecord) (new : s.findSet m.id = none) (valid : 1 ≤ m.page ∧ m.page ≤ m.pages) :
    s.lodgesWith (s.claimDecision j m) := by
  unfold State.claimDecision
  split
  · rename_i b _ _ chosen
    rw [makeClaim_eq]
    refine (claimMade_lodges new (searchBin_available chosen)).followed (route_lodgesWith ?_ valid)
    rw [claimMade_table new]
    exact Function.update_self ..
  · exact passed_lodgesWith s

theorem chooseMarked_lodgesWith (s : State) (valid : 1 ≤ m.page ∧ m.page ≤ m.pages) : s.lodgesWith (s.chooseMarked m) := by
  unfold State.chooseMarked
  split
  · exact passed_lodgesWith s
  · split
    · exact passed_lodgesWith s
    · split
      · exact rejected_lodgesWith s _ rfl
      · split
        · rename_i r found
          have found' : s.findSet r.id = some r := by
            rw [findSet_id found]
            exact found
          exact route_lodgesWith found' valid
        · split
          · exact passed_lodgesWith s
          · split
            · exact rejected_lodgesWith s _ rfl
            · split
              · exact passed_lodgesWith s
              · exact claimDecision_lodgesWith _ ‹_› valid

theorem chooseRead_lodgesWith (s : State) {c : ReadContent} (valid : ∀ m, c = .marked m → 1 ≤ m.page ∧ m.page ≤ m.pages) :
    s.lodgesWith (s.chooseRead c) := by
  unfold State.chooseRead
  split
  · split
    · exact State.lodges.undiverting (c := s.choose .fill) (.refl s) rfl
    · exact passed_lodgesWith s
  · exact rejected_lodgesWith s _ rfl
  · exact passed_lodgesWith s
  · exact (chooseMarked_lodgesWith s (valid _ rfl)).sighted _

/-! ### The reader's commands -/

theorem makeRoom_lodges (s : State) : s.lodges s.makeRoom := by
  unfold State.makeRoom
  split
  · exact .refl s
  · exact lapseOldest_lodges s

theorem carrierRead_lodges (s : State) (n : Nat) {c : ReadContent} (valid : ∀ m, c = .marked m → 1 ≤ m.page ∧ m.page ≤ m.pages) :
    s.lodges (s.carrierRead n c) := (makeRoom_lodges s).trans ((chooseRead_lodgesWith s.makeRoom valid).joins n)

theorem windowCloses_lodges (s : State) (w : Window) : s.lodges (s.windowCloses w) := by
  refine .trans ?_ (carrierRead_lodges _ _ fun m content => content_page content)
  split
  · exact .after (lap_lodges _) rfl
  · exact .of rfl

theorem sample_lodges (s : State) (a b : Bool) : s.lodges (s.sample a b) := by
  unfold State.sample
  dsimp only
  split
  · exact .of rfl
  · split
    · split
      · exact .of rfl
      · exact .after (windowCloses_lodges _ _) rfl
    · exact .of rfl

end Sys2Proof.Machine
end

section
/-! ### Every command, and the step -/

namespace Sys2Proof.Machine

variable {s t : State}

theorem lodges_exec {u : State} {c : Instr} (e : exec c s = .next u) (h : s.lodges u) : ∃ t, exec c s = .next t ∧ s.lodgesIn t :=
  ⟨u, e, h.lodgesIn⟩

theorem hear_lodges_exec {c : Instr} {k : NoticeKind} {f : Frame} {act : State → State} (e : exec c s = .next (s.hear k f act))
    (h : ∀ t, State.lodges t (act t)) : ∃ t, exec c s = .next t ∧ s.lodgesIn t :=
  lodges_exec e (hear_lodges s k f h)

theorem exec_lodgesIn (s : State) (c : Instr) : ∃ t, exec c s = .next t ∧ s.lodgesIn t := by
  cases c with
  | readerSample a b => exact lodges_exec rfl (sample_lodges s a b)
  | carrierNumberReport n => exact lodges_exec rfl (.of rfl)
  | markRead b => exact lodges_exec rfl (.of rfl)
  | gateArrival n =>
    refine lodges_exec rfl ?_
    split
    · exact .of rfl
    · exact (lapseOldestN_lodges _ s).trans (takeOldest_lodges _)
  | diverted => exact lodges_exec rfl (gateCompletion_lodges s false true)
  | divertFailed => exact lodges_exec rfl (gateCompletion_lodges s false false)
  | filled => exact lodges_exec rfl (gateCompletion_lodges s true true)
  | fillMissed => exact lodges_exec rfl (gateCompletion_lodges s true false)
  | gateLimitExpiry =>
    refine lodges_exec rfl ?_
    split
    · exact gateFault_lodges ‹_›
    · exact .refl s
    · exact .refl s
  | rejectEmptied => exact lodges_exec rfl (.of rfl)
  | stored st =>
    refine lodges_exec rfl ?_
    split
    · exact storeDone_lodges ‹_›
    · exact rackFault_lodges s
    · exact .refl s
  | released st =>
    refine lodges_exec rfl ?_
    split
    · exact releaseDone_lodges ‹_›
    · exact rackFault_lodges s
    · exact .refl s
  | rackLimitExpiry =>
    refine lodges_exec rfl ?_
    split
    · exact rackFault_lodges s
    · exact .refl s
    · exact .refl s
  | rackRequestIssue => exact lodges_exec rfl (arbiter_lodges s)
  | binJammed b => exact binJammed_lodgesIn s b
  | placeCleared p =>
    cases p with
    | bin b => exact lodges_exec rfl (clearBin_lodges s b)
    | rackPocket k => exact lodges_exec rfl (clearRackPocket_lodges s k)
    | inlet => exact lodges_exec rfl (clearInlet_lodges s)
    | jaw j => exact lodges_exec rfl (clearJaw_lodges s j)
  | carriageStart => exact lodges_exec rfl (startTest_lodges s)
  | transferred st =>
    refine lodges_exec rfl ?_
    split
    · exact transferDone_lodges ‹_›
    · exact carriageFault_lodges s
    · exact .refl s
  | unloaded st =>
    refine lodges_exec rfl ?_
    split
    · exact unloadDone_lodges ‹_›
    · exact carriageFault_lodges s
    · exact .refl s
  | carriageLimitExpiry => exact lodges_exec rfl (carriageFault_lodges s)
  | stapleIssue => exact lodges_exec rfl (headIssue_lodges s)
  | stapled st =>
    refine lodges_exec rfl ?_
    split
    · exact stapleDone_lodges s _ _
    · exact headFault_lodges s
    · exact .refl s
  | misfire st f =>
    refine lodges_exec rfl ?_
    split
    · split
      · exact stapleMisfired_lodges s _ _ _
      · exact stapleDone_lodges s _ _
    · exact headFault_lodges s
    · exact .refl s
  | jam st f =>
    refine lodges_exec rfl ?_
    split
    · exact stapleJammed_lodges s _ _ _
    · exact .refl s
  | headLimitExpiry =>
    refine lodges_exec rfl ?_
    split
    · exact headFault_lodges s
    · exact .refl s
  | headCleared =>
    refine lodges_exec rfl ?_
    split
    · refine .trans ?_ (headIssue_lodges _)
      exact .after (tell_lodges _ _) rfl
    · exact .refl s
  | cartridgeInserted =>
    refine lodges_exec rfl (.trans ?_ (headIssue_lodges _))
    exact .after (tell_lodges _ _) rfl
  | cartridgeEmpty => exact lodges_exec rfl (.after (tell_lodges _ _) rfl)
  | deliverIssue p => exact lodges_exec rfl (deliverTest_lodges s p)
  | delivered j st p =>
    refine lodges_exec rfl ?_
    split
    · exact .refl s
    · split
      · exact deliveredInto_lodges s _ _
      · exact deliveryFault_lodges s _ _
  | deliveryLimitExpiry j =>
    refine lodges_exec rfl ?_
    split
    · exact .refl s
    · exact deliveryFault_lodges s _ _
  | heightSample p mm =>
    refine lodges_exec rfl ?_
    split
    · exact .refl s
    · have changed := changePocket_lodges s p
      dsimp only
      split
      · split
        · exact ((changed _).trans (unbindingTest_lodges _ _)).trans (deliverTest_lodges _ _)
        · exact (changed _).trans (deliverTest_lodges _ _)
      · split
        · exact (changed _).trans (unbindingTest_lodges _ _)
        · exact changed _
  | claimDeadlineExpiry j n =>
    refine lodges_exec rfl ?_
    split
    · exact .refl s
    · rename_i r found
      split
      · rename_i running
        refine (surrender_lodges _ fun q found' => ?_).trans (countClaimLost_lodges _)
        rw [findSet_id found] at found'
        obtain rfl : r = q := Option.some.inj (found.symm.trans found')
        simp [State.surrenderable, running.1]
      · exact .refl s
  | offer c =>
    refine lodges_exec rfl ?_
    split
    · exact .refl s
    · exact offerNotice_lodges s c
  | attemptSpoiled => exact lodges_exec rfl (attemptSpoiled_lodges s)
  | badFrameCheck k f x =>
    refine lodges_exec rfl ?_
    split
    · exact .refl s
    · exact .of rfl
  | claim f => exact hear_lodges_exec rfl fun t => onClaim_lodges t f
  | held f => exact hear_lodges_exec rfl fun t => onHeld_lodges t f
  | yield f => exact hear_lodges_exec rfl fun t => onYield_lodges t f
  | done f => exact hear_lodges_exec rfl fun t => onDone_lodges t f
  | job f => exact hear_lodges_exec rfl fun t => onJob_lodges t f
  | jobclose f => exact hear_lodges_exec rfl fun t => onJobclose_lodges t f
  | hello f => exact hear_lodges_exec rfl fun t => onHello_lodges t f
  | gone f => exact hear_lodges_exec rfl fun t => onGone_lodges t f
  | state f => exact hear_lodges_exec rfl fun t => onState_lodges t f
  | reprint f => exact hear_lodges_exec rfl fun t => .refl t
  | report f => exact hear_lodges_exec rfl fun t => .refl t
  | unknownKindNotice k f =>
    refine lodges_exec rfl ?_
    unfold State.hearUnknown
    split
    · exact .refl s
    · split
      · exact stationClash_lodges s
      · exact (heardSteps_lodges s k f).trans (afterHeard_lodges _ _)
  | setactFinish f => exact hear_lodges_exec rfl fun t => onSetact_lodges t f (finish_lodges t _)
  | setactYield f => exact hear_lodges_exec rfl fun t => onSetact_lodges t f (staffYield_lodges t _)
  | setactRetry f => exact hear_lodges_exec rfl fun t => onSetact_lodges t f (retry_lodges t _)
  | serviceDrain f => exact hear_lodges_exec rfl fun t => onService_lodges t f (drain_lodges t)
  | serviceStop f => exact hear_lodges_exec rfl fun t => onService_lodges t f (stop_lodges t)
  | serviceResume f => exact hear_lodges_exec rfl fun t => onService_lodges t f (resume_lodges t)
  | serviceRestart f x v => exact hear_lodges_exec rfl fun t => onService_lodges t f (onRestart_lodges t x v)
  | probe f => exact hear_lodges_exec rfl fun t => onProbe_lodges t f
  | presenceTimerExpiry x =>
    refine lodges_exec rfl ?_
    split
    · exact presenceExpires_lodges s x
    · exact .refl s
  | silenceTimerExpiry =>
    refine lodges_exec rfl ?_
    split
    · exact .after (reportFault_lodges _ _) rfl
    · exact .refl s
  | cadenceTimerExpiry =>
    refine lodges_exec rfl ?_
    split
    · exact wantState_lodges s
    · exact .refl s
  | joinTimerExpiry =>
    refine lodges_exec rfl ?_
    split
    · exact .refl s
    · exact wantHello_lodges s
    · exact enterActive_lodges s
  | waitingNoticeQueued => exact lodges_exec rfl (refillUrgent_lodges s)
  | doneQueued =>
    refine lodges_exec rfl ?_
    split
    · exact queueDone_lodges s
    · exact .refl s
  | dueNoticeQueued =>
    refine lodges_exec rfl ?_
    split
    · exact queueDue_lodges s
    · exact .refl s
  | powerOnReset x v => exact lodges_exec rfl (resetPart_lodges s x v)
  | setactRefusedAsMalformed f => exact hear_lodges_exec rfl fun t => onSetact_lodges t f (.of rfl)
  | serviceRefusedAsMalformed f => exact hear_lodges_exec rfl fun t => onService_lodges t f (.of rfl)

theorem step_lodgesIn (h : step s = .next t) : s.lodgesIn t := by
  unfold step at h
  split at h
  · cases h
    exact (State.lodges.refl s).lodgesIn
  · rename_i c rest _
    obtain ⟨u, hu, fitted, kept⟩ := exec_lodgesIn { s with pending := rest } c
    cases hu.symm.trans h
    exact ⟨fitted, fun d => (kept d).after rfl⟩

theorem step_distinct (h : step s = .next t) (sound : s.setTableSound) : t.distinct := distinct_of_sound ((step_keepsTables h).sets sound)

/-! ### The records that are not SURRENDERING -/

theorem length_le_of_injects {α β : Type} {l : List α} {m : List β} (f : α → β) (one : (l.map f).Nodup) (inside : ∀ x ∈ l, f x ∈ m) :
    l.length ≤ m.length := by
  have sub : l.map f ⊆ m := fun y hy => by
    obtain ⟨x, hx, rfl⟩ := List.mem_map.mp hy
    exact inside x hx
  simpa using (List.subperm_of_subset one sub).length_le

/-- R29: the records with a bin number at most the bins. -/
theorem binned_length (h : s.placesSound) (l : List SetRecord) (sub : l.Sublist s.co.sets) (binned : ∀ r ∈ l, r.bin.isSome = true) :
    l.length ≤ s.co.bins.length := by
  have length : ((numbers s.co.bins.length).map some).length = s.co.bins.length := by simp [numbers]
  rw [← length]
  refine length_le_of_injects SetRecord.bin ?_ fun r m => ?_
  · rw [List.Nodup, List.pairwise_map]
    exact (h.oneHolder.sublist sub).imp_of_mem fun {q r} hq _ apart => apart (binned q hq)
  · obtain ⟨b, bin⟩ := Option.isSome_iff_exists.mp (binned r m)
    have state := h.binOfRecord r (sub.subset m) b bin
    have inside : (nth1 s.co.bins b).isSome = true := by
      obtain e | e := state <;> rw [show nth1 s.co.bins b = _ from e] <;> rfl
    rw [bin]
    exact List.mem_map_of_mem (mem_numbers.mpr ((nth1_isSome_iff _ _).mp inside))

/-- R29: the records in a jaw number at most the jaws. -/
theorem jawed_length (d : s.distinct) (h : s.placesSound) (l : List SetRecord) (sub : l.Sublist s.co.sets)
    (jawed : ∀ r ∈ l, r.inAJaw) : l.length ≤ 2 := by
  refine Nat.le_trans (length_le_of_injects SetRecord.id ?_ fun r m => h.jawOfRecord r (sub.subset m) (jawed r m))
    (List.length_filterMap_le _ _)
  rw [List.Nodup, List.pairwise_map]
  exact d.sublist sub

theorem standing_length (d : s.distinct) (h : s.placesSound) : s.standingRecords.length ≤ s.co.bins.length + 2 := by
  have sub : s.standingRecords.Sublist s.co.sets := List.filter_sublist
  rw [List.length_eq_length_filter_add (fun r : SetRecord => r.bin.isSome)]
  refine Nat.add_le_add (binned_length h _ (List.filter_sublist.trans sub) fun r m => (List.mem_filter.mp m).2)
    (jawed_length d h _ (List.filter_sublist.trans sub) fun r m => ?_)
  obtain ⟨standing, binless⟩ := List.mem_filter.mp m
  obtain ⟨mem, state⟩ := List.mem_filter.mp standing
  have binned := (h.binOfState r mem).resolve_left (by simpa using state)
  by_contra outside
  simp [binned.mpr outside] at binless

end Sys2Proof.Machine

open Sys2Proof.Machine in
/-- Settles O16: the law of the places and the fitted lists are among those every step keeps; a record that is not SURRENDERING
has a bin of its own or is in a jaw of its own. -/
theorem placesMatchRecords : Obligations.PlacesMatchRecords := by
  refine ⟨fun s t h sound places => ?_, fun s sound => standing_length (distinct_of_sound sound), fun s t h => (step_lodgesIn h).1⟩
  have d := distinct_of_sound sound
  exact (placesSound_iff (step_distinct h sound)).mpr (((step_lodgesIn h).2 d).places ((placesSound_iff d).mp places))

open Sys2Proof.Machine in
/-- Settles O33: the law of the rack is kept by every step that starts with the law of the places. -/
theorem rackMatchesPages : Obligations.RackMatchesPages := by
  intro s t h sound places rack
  have d := distinct_of_sound sound
  exact (rackSound_iff (step_distinct h sound)).mpr
    (((step_lodgesIn h).2 d).rack ((placesSound_iff d).mp places) ((rackSound_iff d).mp rack))
end

section
/-! ## The state after reset (R19, R20, R53, R69, R91, R103, R131, R133, R158, R161) -/

namespace Sys2Proof.Machine

theorem reset_distinct : State.reset.distinct := .nil

theorem reset_placesSound : State.reset.placesSound :=
  (placesSound_iff reset_distinct).mpr
    (housed_of_empty rfl (fun x m => by rw [List.eq_of_mem_replicate m]; nofun) rfl rfl fun j => by cases j <;> nofun)

theorem reset_rackSound : State.reset.rackSound :=
  (rackSound_iff reset_distinct).mpr
    (racked_of_empty rfl (fun _ m => .inl (List.eq_of_mem_replicate m)) rfl rfl rfl rfl rfl)

/-- R133, R145: a pocket is sound after reset. -/
theorem pocketReset_sound : Pocket.reset.sound := ⟨rfl, nofun, by simp [Pocket.reset]⟩

theorem reset_pocket {p : Nat} {x : Pocket} (h : nth1 State.reset.dc.pockets p = some x) : x = Pocket.reset := by
  have inside := (nth1_isSome_iff State.reset.dc.pockets p).mp (by rw [h]; rfl)
  exact List.eq_of_mem_replicate (n := 2) (mem_iff_nth1.mpr ⟨p, mem_numbers.mpr inside, h⟩)

theorem reset_pocketsSound : State.reset.pocketsSound := by
  refine ⟨fun p m => ?_, ?_⟩
  · rw [List.eq_of_mem_replicate (n := 2) m]
    exact pocketReset_sound
  · exact List.pairwise_replicate.mpr (.inr nofun)

theorem reset_countersSound : State.reset.countersSound := by
  constructor
  · have zero : State.reset.wideCounters = List.replicate 25 0 := rfl
    intro n m
    rw [zero] at m
    rw [List.eq_of_mem_replicate m]
    exact Nat.zero_le _
  · have zero : State.reset.byteCounters = List.replicate 4 0 := rfl
    intro n m
    rw [zero] at m
    rw [List.eq_of_mem_replicate m]
    exact Nat.zero_le _

end Sys2Proof.Machine

open Sys2Proof.Machine in
/-- Settles O3: the queues, tables and lists are empty, the counters 0, and no place is in use. -/
theorem resetIsSound : Obligations.ResetIsSound := show State.reset.sound from {
  approach := Nat.zero_le _
  transmit := ⟨Nat.zero_le _, Nat.zero_le _⟩
  waiting := .inl rfl
  fitted := ⟨rfl, rfl, rfl, rfl⟩
  tray := Nat.zero_le _
  fills := Nat.le_refl 0
  feeder := ⟨rfl, Nat.zero_le _⟩
  sets := ⟨Nat.zero_le _, .nil⟩
  jobs := ⟨Nat.zero_le _, .nil⟩
  watch := ⟨fun _ m => absurd m List.not_mem_nil, fun _ m => absurd m List.not_mem_nil⟩
  foreign := ⟨Nat.zero_le _, .nil, nofun⟩
  late := ⟨Nat.zero_le _, nofun⟩
  bay := rfl
  doneList := ⟨Nat.zero_le _, nofun⟩
  staples := nofun
  counters := reset_countersSound
  pockets := reset_pocketsSound
  loads := fun p x h => by
    rw [reset_pocket h]
    exact ⟨rfl, rfl⟩
  places := reset_placesSound
  rack := reset_rackSound
  lamp := rfl }
end

section
/-! ## The end of an UNLOAD (R99, R101, R121) -/

namespace Sys2Proof.Machine

variable {s : State} {i : SetId} {r : SetRecord}

/-! ### What the operations on a set leave of the bins and of the delivery list -/

theorem putSet_list (s : State) (r : SetRecord) : (s.putSet r).dc.list = s.dc.list := by
  unfold State.putSet
  split
  · rfl
  · rw [(tell_frame _ _).dc (by decide)]

theorem updSet_list (s : State) (i : SetId) (f : SetRecord → SetRecord) : (s.updSet i f).dc.list = s.dc.list := by
  unfold State.updSet
  split
  · rfl
  · exact putSet_list s _

theorem unbindingTest_list (s : State) (p : Nat) : (s.unbindingTest p).dc.list = s.dc.list := by
  unfold State.unbindingTest
  split
  · rfl
  · split
    · rw [State.changePocket, (tell_frame _ _).dc (by decide)]
    · rfl

theorem removeSet_list (s : State) (i : SetId) : (s.removeSet i).dc.list = s.dc.list := by
  unfold State.removeSet
  split
  · rfl
  · rw [(rejoinTest_frame _).dc (by decide), (drainTest_frame _).dc (by decide), State.dropSet, unbindingTest_list,
      (tell_frame _ _).dc (by decide)]

theorem removalTest_list (s : State) (i : SetId) : (s.removalTest i).dc.list = s.dc.list := by
  unfold State.removalTest
  split
  · rfl
  · split
    · exact removeSet_list s i
    · rfl

theorem removalTest_bins (s : State) (i : SetId) : (s.removalTest i).co.bins = s.co.bins := by
  unfold State.removalTest
  split
  · rfl
  · split
    · exact removeSet_bins s i
    · rfl

/-- R100: the removal test leaves a record as it is, or removes it. -/
theorem removalTest_own {q : SetRecord} (h : (s.removalTest i).findSet i = some q) : s.findSet i = some q := by
  unfold State.removalTest at h
  split at h
  · exact h
  · split at h
    · rw [findSet_removeSet] at h
      cases h
    · exact h

theorem updSet_bins (s : State) (i : SetId) (f : SetRecord → SetRecord) : (s.updSet i f).co.bins = s.co.bins := by
  unfold State.updSet
  split
  · rfl
  · exact putSet_bins s _

/-- R34: an ASSIGNED bin that is freed is AVAILABLE. -/
theorem freeBin_available {b : Nat} (assigned : s.binState b = some .assigned) : (s.freeBin b).binState b = some .available := by
  have inside := (nth1_isSome_iff s.co.bins b).mp (by rw [show nth1 s.co.bins b = _ from assigned]; rfl)
  rw [State.freeBin, if_pos assigned, State.binState, setBin_co]
  exact nth1_set1_same _ inside.1 inside.2

/-- R99: an emptied record holds no bin and has no page PLACED. -/
theorem emptied_binless (r : SetRecord) : r.emptied.bin = none ∧ ∀ x ∈ r.emptied.map, x ≠ .placed := by
  refine ⟨rfl, fun x m => ?_⟩
  obtain ⟨y, _, rfl⟩ := List.mem_map.mp m
  split
  · nofun
  · assumption

theorem updSet_emptied {q : SetRecord} (h : (s.updSet i SetRecord.emptied).findSet i = some q) : ∃ r : SetRecord, q = r.emptied := by
  cases found : s.findSet i with
  | none =>
    simp only [State.updSet, found] at h
    cases h
  | some r =>
    have own := findSet_updSet_same found (show r.emptied.id = i from (findSet_id found : r.id = i))
    exact ⟨r, Option.some.inj (h.symm.trans own)⟩

/-! ### The end of the UNLOAD -/

/-- R99, R101, R121: the UNLOAD of `m` sheets of set `i` out of bin `b` has ended, and the tests of the set have not yet been made. -/
def State.unloaded (s : State) (i : SetId) (b m : Nat) : State :=
  State.updSet (State.freeBin { s with
    sc := { s.sc with carriage := .idle }
    rf := { s.rf with count := s.rf.count + m, onWay := s.rf.onWay - m } } b) i SetRecord.emptied

theorem unloadDone_eq (s : State) (i : SetId) (b m : Nat) : s.unloadDone i b m = ((s.unloaded i b m).removalTest i).roomReport := rfl

theorem unloaded_count (s : State) (i : SetId) (b m : Nat) : (s.unloaded i b m).rf.count = s.rf.count + m :=
  (updSet_steady _ i _).count.trans (freeBin_steady _ b).count

theorem unloaded_available {b : Nat} (m : Nat) (assigned : s.binState b = some .assigned) :
    (s.unloaded i b m).binState b = some .available := by
  rw [State.binState, State.unloaded, updSet_bins]
  exact freeBin_available assigned

theorem unloadDone_leaves (s : State) (i : SetId) (b m : Nat) : (s.unloadDone i b m).gc = s.gc
    ∧ (s.unloadDone i b m).dc.list = s.dc.list := by
  have room := roomReport_frame ((s.unloaded i b m).removalTest i)
  rw [unloadDone_eq]
  refine ⟨?_, ?_⟩
  · rw [room.gc (by decide), (removalTest_frame _ i).gc (by decide), State.unloaded, (updSet_frame _ i _).gc (by decide),
      (freeBin_frame _ b).gc (by decide)]
  · rw [room.dc (by decide), removalTest_list, State.unloaded, updSet_list, (freeBin_frame _ b).dc (by decide)]

end Sys2Proof.Machine

open Sys2Proof.Machine in
/-- Settles O38: the sheets, the bin and the record change before the removal test and the report of the feeder's room, which
leave them as they are. -/
theorem unloadCompletes : Obligations.UnloadCompletes := by
  intro s i c m jo busy
  have done : exec (.unloaded .ok) s = .next (s.unloadDone i c m) := by
    simp only [exec, execUnloaded, busy]
  have co := (roomReport_frame ((s.unloaded i c m).removalTest i)).co (by decide)
  obtain ⟨gate, list⟩ := unloadDone_leaves s i c m
  refine ⟨_, done, ?_, fun assigned => ?_, fun q found => ?_, gate, list⟩
  · rw [unloadDone_eq, (roomReport_steady _).count, (removalTest_steady _ i).count, unloaded_count]
  · rw [State.binState, unloadDone_eq, co, removalTest_bins]
    exact unloaded_available m assigned
  · rw [unloadDone_eq, findSet_of_co co] at found
    obtain ⟨r, rfl⟩ := updSet_emptied (removalTest_own found)
    exact emptied_binless r
end

section
/-! ## The end of a TRANSFER (R34, R120, R123, R124, R128) -/

namespace Sys2Proof.Machine

variable {s : State} {i : SetId} {r v : SetRecord} {j : JawName} {st : Stapling}

/-! ### What the start test leaves of the jaws and of the head queue -/

theorem setJaw_headQueue (s : State) (j : JawName) (x : JawState) : (s.setJaw j x).sc.headQueue = s.sc.headQueue := by
  cases j <;> rfl

theorem carriageIssue_headQueue (s : State) : s.carriageIssue.sc.headQueue = s.sc.headQueue := by
  unfold State.carriageIssue
  split
  · split
    · rfl
    · split
      · rfl
      · split
        · exact setJaw_headQueue _ _ _
        · rfl
    · split <;> rfl
  · rfl

/-- R119: a jaw that holds a set is not chosen. -/
theorem carriageIssue_holding (holding : s.jaw j = .holding i st) : s.carriageIssue.jaw j = .holding i st := by
  unfold State.carriageIssue
  split
  · split
    · exact holding
    · split
      · exact holding
      · rename_i k chosen
        split
        · have other : k ≠ j := by
            rintro rfl
            rw [chooseJaw_free chosen] at holding
            cases holding
          rw [jaw_setJaw_other _ _ other]
          exact holding
        · exact holding
    · split <;> exact holding
  · exact holding

theorem arbiterIssue_jaw (s : State) : s.arbiterIssue.jaw = s.jaw := by
  funext k
  cases k <;> rw [State.jaw, (arbiterIssue_frame s).sc (by decide)] <;> rfl

theorem startTest_holding (holding : s.jaw j = .holding i st) : s.startTest.jaw j = .holding i st := by
  unfold State.startTest
  dsimp only
  split
  · exact carriageIssue_holding holding
  · rw [arbiterIssue_jaw]
    exact carriageIssue_holding holding

theorem startTest_headQueue (s : State) : s.startTest.sc.headQueue = s.sc.headQueue := by
  unfold State.startTest
  dsimp only
  split
  · exact carriageIssue_headQueue s
  · rw [(arbiterIssue_frame _).sc (by decide)]
    exact carriageIssue_headQueue s

/-- R124: the issue of a STAPLE changes the head's state alone. -/
theorem headIssue_head (s : State) : ∃ x, s.headIssue = { s with sc := { s.sc with head := x } } := by
  unfold State.headIssue
  split
  · split
    · exact ⟨_, rfl⟩
    · split <;> exact ⟨_, rfl⟩
  · exact ⟨_, rfl⟩

/-! ### The handing over (R128) -/

theorem fixOutcome_holding (holding : s.jaw j = .holding i st) (o : SetOutcome) :
    s.fixOutcome j o = s.setJaw j (.holding i { st with outcome := some o }) := by
  simp only [State.fixOutcome, holding]

/-- R128: the set in jaw `j` is DELIVERING with its outcome. -/
theorem handOver_hands {o : SetOutcome} (found : s.findSet i = some r) (holding : s.jaw j = .holding i st) :
    (s.handOver j i o).findSet i = some (r.toState .delivering) ∧ (s.handOver j i o).co.bins = s.co.bins
      ∧ (s.handOver j i o).jaw j = .holding i { st with outcome := some o } ∧ (s.handOver j i o).sc.headQueue = s.sc.headQueue := by
  obtain rfl : r.id = i := findSet_id found
  have sc : (s.putSet (r.toState .delivering)).sc = s.sc := (putSet_frame s _).sc (by decide)
  have held : (s.putSet (r.toState .delivering)).jaw j = .holding r.id st := by
    rw [← holding]
    cases j
    · exact congrArg Stapler.jawA sc
    · exact congrArg Stapler.jawB sc
  have fixed := fixOutcome_holding held o
  have put : (s.putSet (r.toState .delivering)).findSet r.id = some (r.toState .delivering) :=
    findSet_putSet_same (r := r.toState .delivering) found
  have co := setJaw_co (s.putSet (r.toState .delivering)) j (.holding r.id { st with outcome := some o })
  unfold State.handOver
  split
  · rename_i gone
    exact nomatch found.symm.trans gone
  · rename_i q there
    obtain rfl : r = q := Option.some.inj (found.symm.trans there)
    dsimp only
    have tests := deliverTests_frame { (s.putSet (r.toState .delivering)).fixOutcome j o with
      dc := { ((s.putSet (r.toState .delivering)).fixOutcome j o).dc with
        list := ((s.putSet (r.toState .delivering)).fixOutcome j o).dc.list ++ [{ jaw := j, id := r.id, pocket := r.pocket, outcome := o }] } }
    rw [State.findSet, tests.co (by decide), tests.sc (by decide)]
    refine ⟨?_, ?_, ?_, ?_⟩
    · rw [fixed]
      exact (findSet_of_co co r.id).trans put
    · rw [fixed]
      exact (congrArg Collation.bins co).trans (putSet_bins s _)
    · have jaw := jaw_setJaw_same (s.putSet (r.toState .delivering)) j (.holding r.id { st with outcome := some o })
      rw [← fixed] at jaw
      refine Eq.trans ?_ jaw
      cases j
      · exact congrArg Stapler.jawA (tests.sc (by decide))
      · exact congrArg Stapler.jawB (tests.sc (by decide))
    · rw [fixed]
      exact (setJaw_headQueue _ _ _).trans (congrArg Stapler.headQueue sc)

/-! ### The staples a set is owed (R123) -/

theorem staplesOwed_eq_zero : r.staplesOwed = 0 ↔ r.isPartial = true ∨ r.pages = 1 ∨ 50 < r.pages ∨ r.staple = .none := by
  unfold SetRecord.staplesOwed
  split
  · rename_i none
    simp only [Config.stapleMaxPages] at none
    exact iff_of_true rfl (none.imp id (Or.imp id Or.inl))
  · rename_i some'
    simp only [Config.stapleMaxPages, not_or] at some'
    obtain ⟨whole, several, few⟩ := some'
    cases staple : r.staple <;> simp [whole, several, few]

theorem staplesOwed_of_stapled (whole : r.isPartial = false) (several : 2 ≤ r.pages) (few : r.pages ≤ 50) (stapled : r.staple ≠ .none) :
    r.staplesOwed = if r.staple = .edge then 2 else 1 := by
  unfold SetRecord.staplesOwed
  rw [if_neg (by simp [whole, Config.stapleMaxPages]; omega)]
  cases staple : r.staple with
  | none => exact absurd staple stapled
  | corner | edge => rfl

/-- R124: a set that is owed staples joins the head queue. -/
theorem settle_queues (owes : r.staplesOwed ≠ 0) : (s.settle j r).findSet = s.findSet ∧ (s.settle j r).co.bins = s.co.bins
    ∧ (s.settle j r).jaw = s.jaw ∧ (s.settle j r).sc.headQueue = s.sc.headQueue ++ [j] := by
  obtain ⟨x, issued⟩ := headIssue_head { s with sc := { s.sc with headQueue := s.sc.headQueue ++ [j] } }
  have settled : s.settle j r = { s with sc := { s.sc with headQueue := s.sc.headQueue ++ [j], head := x } } :=
    (if_neg owes).trans issued
  rw [settled]
  refine ⟨rfl, rfl, ?_, rfl⟩
  funext k
  cases k <;> rfl

/-! ### The end of the TRANSFER -/

theorem transferDone_eq {b : Nat} (found : s.findSet i = some r) :
    s.transferDone i b j = ((s.seated r b j).settle j r).startTest := by
  obtain rfl : r.id = i := findSet_id found
  simp only [State.transferDone, found]
  rfl

theorem exec_transferred {b : Nat} (busy : s.sc.carriage = .busy (.transfer i b) (some j)) (found : s.findSet i = some r) :
    exec (.transferred .ok) s = .next ((s.seated r b j).settle j r).startTest := by
  rw [← transferDone_eq found]
  simp only [exec, execTransferred, busy]

/-- R120: the record, the jaw and the head queue when the set is in its jaw. -/
theorem seated_seats (found : s.findSet r.id = some r) (b : Nat) (j : JawName) :
    (s.seated r b j).findSet r.id = some { r.toState .inJaw with bin := none }
      ∧ (s.seated r b j).jaw j = .holding r.id { outcome := none, owed := r.staplesOwed, retryUsed := false }
      ∧ (s.seated r b j).sc.headQueue = s.sc.headQueue := by
  refine ⟨?_, ?_, ?_⟩
  · rw [seated_table found, Function.update_self]
  · rw [seated_jaw, Function.update_self]
  · rw [seated_sc, setJaw_headQueue]

/-- R34: the bin of the TRANSFER is AVAILABLE. -/
theorem seated_available {b : Nat} (assigned : s.binState b = some .assigned) : (s.seated r b j).binState b = some .available := by
  have co := setJaw_co { s with sc := { s.sc with carriage := .idle } } j
      (.holding r.id { outcome := none, owed := r.staplesOwed, retryUsed := false })
  rw [State.binState, State.seated, putSet_bins]
  refine freeBin_available ?_
  rw [State.binState, co]
  exact assigned

end Sys2Proof.Machine

open Sys2Proof.Machine in
/-- Settles O37: the set is in its jaw, and its stapling is settled by R123's rows. -/
theorem transferCompletes : Obligations.TransferCompletes := by
  refine ⟨fun s i c j r busy found none _ => ?_, fun s i c j r busy found whole several few stapled _ => ?_⟩
  · obtain rfl : r.id = i := findSet_id found
    have owed := staplesOwed_eq_zero.mpr none
    obtain ⟨record, jaw, queue⟩ := seated_seats found c j
    have settled : (s.seated r c j).settle j r = (s.seated r c j).handOver j r.id r.unstapledOutcome := if_pos owed
    obtain ⟨record', bins, jaw', queue'⟩ := handOver_hands (o := r.unstapledOutcome) record jaw
    rw [← settled] at record' bins jaw' queue'
    have co := (startTest_frame ((s.seated r c j).settle j r)).co (by decide)
    refine ⟨_, exec_transferred busy found, ⟨_, (findSet_of_co co _).trans record', rfl, rfl, rfl⟩, ?_, fun assigned => ?_, ?_⟩
    · rw [startTest_holding jaw', owed]
      rfl
    · rw [State.binState, co, bins]
      exact seated_available assigned
    · rw [startTest_headQueue, queue', queue]
  · obtain rfl : r.id = i := findSet_id found
    have owed := staplesOwed_of_stapled whole several few stapled
    have owes : r.staplesOwed ≠ 0 := by rw [owed]; split <;> decide
    obtain ⟨record, jaw, queue⟩ := seated_seats found c j
    obtain ⟨record', bins, jaw', queue'⟩ := settle_queues (s := s.seated r c j) (j := j) owes
    have co := (startTest_frame ((s.seated r c j).settle j r)).co (by decide)
    refine ⟨_, exec_transferred busy found, ⟨_, (findSet_of_co co _).trans ((congrFun record' _).trans record), rfl, rfl, rfl⟩, ?_,
      fun assigned => ?_, ?_⟩
    · rw [startTest_holding ((congrFun jaw' j).trans jaw), owed]
    · rw [State.binState, co, bins]
      exact seated_available assigned
    · rw [startTest_headQueue, queue', queue]
end

section
/-! ## The end of a STORE (R45, R47, R61, R66) -/

namespace Sys2Proof.Machine

variable {s t u : State} {i : SetId} {r : SetRecord} {x : Release} {e : InletSheet} {p k : Nat}

/-! ### A release stays queued or in flight when requests are issued -/

def State.keepsReleases (s t : State) : Prop := ∀ x ∈ s.hr.allReleases, x ∈ t.hr.allReleases

theorem mem_allReleases {h : Rack} : x ∈ h.allReleases ↔ x ∈ h.releases ∨ h.rack = .busy (.release x) := by
  unfold Rack.allReleases
  cases rack : h.rack with
  | idle | outOfService => simp
  | busy q => cases q <;> simp [or_comm, eq_comm]

theorem State.keepsReleases.trans (h : s.keepsReleases t) (k : t.keepsReleases u) : s.keepsReleases u := fun x m => k x (h x m)

theorem keepsReleases_of_hr (h : t.hr = s.hr) : s.keepsReleases t := fun _ m => h ▸ m

theorem arbiterIssue_keepsReleases (s : State) : s.keepsReleases s.arbiterIssue := by
  intro x m
  rw [mem_allReleases] at m ⊢
  unfold State.arbiterIssue
  split
  · rename_i idle
    rw [idle] at m
    have queued : x ∈ s.hr.releases := m.resolve_right nofun
    split
    · exact .inl queued
    · split
      · exact .inl queued
      · rename_i head
        rw [head] at queued
        have issued := (List.mem_cons.mp queued).symm.imp id fun own => congrArg (fun z => RackState.busy (.release z)) own.symm
        split
        · exact issued
        · split
          · exact issued
          · exact .inl (head ▸ queued)
  · exact m

theorem carriageIssue_keepsReleases (s : State) : s.keepsReleases s.carriageIssue := keepsReleases_of_hr (carriageIssue_hr s)

theorem arbiter_keepsReleases (s : State) : s.keepsReleases s.arbiter := by
  unfold State.arbiter
  dsimp only
  split
  · exact arbiterIssue_keepsReleases s
  · exact (arbiterIssue_keepsReleases s).trans (carriageIssue_keepsReleases _)

theorem startTest_keepsReleases (s : State) : s.keepsReleases s.startTest := by
  unfold State.startTest
  dsimp only
  split
  · exact carriageIssue_keepsReleases s
  · exact (carriageIssue_keepsReleases s).trans (arbiterIssue_keepsReleases _)

theorem queueCarriage_keepsReleases (s : State) (q : CarriageRequest) : s.keepsReleases (s.queueCarriage q) := by
  rw [queueCarriage_eq]
  split
  · exact startTest_keepsReleases (s.withCarriage (s.sc.carriageQueue ++ [q]))
  · exact keepsReleases_of_hr rfl

/-- R62: a release that is queued is queued or in flight. -/
theorem queueRelease_releases (s : State) (x : Release) : x ∈ (s.queueRelease x).hr.allReleases :=
  arbiter_keepsReleases { s with hr := { s.hr with releases := s.hr.releases ++ [x] } } x
    (mem_allReleases.mpr (.inl (List.mem_append_right _ (List.mem_singleton_self x))))

theorem unloadTest_keepsReleases (s : State) (i : SetId) : s.keepsReleases (s.unloadTest i) := by
  unfold State.unloadTest
  split
  · exact keepsReleases_of_hr rfl
  · split
    · exact keepsReleases_of_hr rfl
    · split
      · split
        · exact keepsReleases_of_hr (((putSet_frame _ _).hr (by decide)).trans ((freeBin_frame s _).hr (by decide)))
        · exact queueCarriage_keepsReleases s _
      · exact keepsReleases_of_hr rfl

/-! ### A page HELD (R45, R47, R108) -/

/-- R61: the sheet of the STORE is in its pocket. -/
def State.shelved (s : State) (e : InletSheet) : State :=
  { s with hr := { s.hr with
    rack := .idle, inlet := s.hr.inlet.drop 1, pockets := set1 s.hr.pockets e.pocket (.holding e.id e.page) } }

/-- R45, R108: the page is HELD, and the set has made progress. -/
def State.held (s : State) (e : InletSheet) : State := ((s.shelved e).setPage e.id e.page (.held e.pocket)).progress e.id

theorem held_frame (s : State) (e : InletSheet) : (s.shelved e).sameBut [.co, .dc, .lc] (s.held e) :=
  sameBut_trans (setPage_frame _ _ _ _) (progress_frame _ _)

theorem held_record (found : s.findSet e.id = some r) :
    (s.held e).findSet e.id = some (r.setStatus e.page (.held e.pocket)).progressed :=
  findSet_progress_same (findSet_setPage_same (s := s.shelved e) _ _ found)

theorem held_status (r : SetRecord) (present : r.status p ≠ .absent) : (r.setStatus p (.held k)).progressed.status p = .held k :=
  status_setStatus_same (r := r) _ present

theorem storeDone_held (found : s.findSet e.id = some r) (filling : r.state ≠ .surrendering) :
    s.storeDone e = ((s.held e).afterChange e.id).arbiter := by
  have found' : (s.shelved e).findSet e.id = some r := found
  have stored : (s.shelved e).pageStored e.id e.page e.pocket = (s.held e).afterChange e.id := by
    simp only [State.pageStored, found', if_neg filling]
    rfl
  exact congrArg State.arbiter stored

theorem storeDone_surrendering (found : s.findSet e.id = some r) (state : r.state = .surrendering) :
    s.storeDone e = (((s.held e).releaseToFeeder e.id e.page).afterChange e.id).arbiter := by
  have found' : (s.shelved e).findSet e.id = some r := found
  have stored : (s.shelved e).pageStored e.id e.page e.pocket = ((s.held e).releaseToFeeder e.id e.page).afterChange e.id := by
    simp only [State.pageStored, found', if_pos state]
    rfl
  exact congrArg State.arbiter stored

theorem exec_stored (busy : s.hr.rack = .busy (.store e)) : exec (.stored .ok) s = .next (s.storeDone e) := by
  simp only [exec, execStored, busy]

/-- R61: what the tests that follow leave of the inlet and of the sheet's pocket. -/
theorem shelved_courses (low : 1 ≤ e.pocket) (high : e.pocket ≤ s.hr.pockets.length) (h : (s.shelved e).hr.courses t.hr) :
    t.hr.inlet = s.hr.inlet.drop 1 ∧ nth1 t.hr.pockets e.pocket = some (.holding e.id e.page) := by
  have there : nth1 (s.shelved e).hr.pockets e.pocket = some (.holding e.id e.page) := nth1_set1_same _ low high
  refine ⟨h.inlet, (h.pocket e.pocket).elim (fun same => same.trans there) ?_⟩
  rintro ⟨⟨i, p, reserved⟩, _⟩
  exact nomatch there.symm.trans reserved

/-- R47, R49: a page HELD brings the release test alone to a set being filled. -/
theorem held_afterChange (found : s.findSet e.id = some r) (page : r.status e.page = .inboundRack e.pocket)
    (filling : r.state = .claiming ∨ r.state = .collecting) : (s.held e).afterChange e.id = (s.held e).releaseTest e.id := by
  have present : r.status e.page ≠ .absent := by rw [page]; nofun
  refine afterChange_filling (s.held e) (held_record found) (filling.imp id fun collecting => ⟨collecting, e.page, ?_, ?_⟩)
  · have length : (r.setStatus e.page (.held e.pocket)).progressed.map.length = r.map.length := length_set1 _ _ _
    rw [length]
    exact mem_numbers.mpr (page_in_map present)
  · rw [held_status r present]
    nofun

/-- R31: the frontier of a set whose page comes into the rack stays. -/
theorem held_frontier (page : r.status p ≠ .absent) (unplaced : r.status p ≠ .placed) :
    (r.setStatus p (.held k)).progressed.frontier = r.frontier := by
  refine List.find?_congr fun q _ => ?_
  by_cases own : p = q
  · subst own
    rw [held_status r page]
    cases status : r.status p <;> first | rfl | exact absurd status unplaced
  · have other : (r.setStatus p (.held k)).progressed.status q = r.status q := status_setStatus_other r _ own
    rw [other]

/-- R47: the page that the release test releases in a set being filled. -/
theorem releasePage_filling {q j : Nat} (filling : r.state = .claiming ∨ r.state = .collecting) :
    r.releasePage = some (q, j) ↔ r.anyPage PageStatus.inboundBinP = false ∧ r.frontier = some q ∧ r.status q = .held j
      ∧ r.anyPage PageStatus.releasingP = false := by
  obtain state | state := filling <;> simp only [SetRecord.releasePage, state] <;> grind

/-- R47: the release test releases the page that `releasePage` names into the bin that the record holds. -/
theorem releaseTest_releases {b q j : Nat} (found : s.findSet i = some r) (bin : r.bin = some b) (page : r.releasePage = some (q, j)) :
    s.releaseTest i = (s.setPage i q (.releasing j)).queueRelease { pocket := j, id := i, page := q, dest := .bin b } := by
  simp only [State.releaseTest, found, bin, page]

/-- R47: the release test leaves a page that `releasePage` does not name. -/
theorem releaseTest_other (found : s.findSet i = some r) (other : ∀ j, r.releasePage ≠ some (p, j)) :
    ∃ v, (s.releaseTest i).findSet i = some v ∧ v.status p = r.status p ∧ v.attempts = r.attempts ∧ v.countdown = r.countdown
      ∧ v.stranded = r.stranded := by
  cases bin : r.bin with
  | none =>
    have idle : s.releaseTest i = s := by simp only [State.releaseTest, found, bin]
    exact ⟨r, by rw [idle]; exact found, rfl, rfl, rfl, rfl⟩
  | some b =>
    cases page : r.releasePage with
    | none =>
      have idle : s.releaseTest i = s := by simp only [State.releaseTest, found, bin, page]
      exact ⟨r, by rw [idle]; exact found, rfl, rfl, rfl, rfl⟩
    | some w =>
      obtain ⟨q, j⟩ := w
      have apart : q ≠ p := fun same => other j (same ▸ page)
      rw [releaseTest_releases found bin page]
      exact ⟨r.setStatus q (.releasing j), (findSet_of_co (queueRelease_co _ _) i).trans (findSet_setPage_same q _ found),
        status_setStatus_other r _ apart, rfl, rfl, rfl⟩

/-! ### A SURRENDERING set -/

/-- R98: the unload test leaves a record's pages and its state. -/
theorem unloadTest_record (found : s.findSet i = some r) :
    ∃ v, (s.unloadTest i).findSet i = some v ∧ v.map = r.map ∧ v.state = r.state := by
  obtain rfl : r.id = i := findSet_id found
  cases bin : r.bin with
  | none =>
    have idle : s.unloadTest r.id = s := by simp only [State.unloadTest, found, bin]
    exact ⟨r, by rw [idle]; exact found, rfl, rfl⟩
  | some b =>
    simp only [State.unloadTest, found, bin]
    split
    · split
      · refine ⟨{ r with bin := none }, ?_, rfl, rfl⟩
        exact findSet_putSet_same (s := s.freeBin b) (r := { r with bin := none }) ((findSet_freeBin s b r.id).trans found)
      · exact ⟨r, (findSet_of_co (queueCarriage_co _ _) r.id).trans found, rfl, rfl⟩
    · exact ⟨r, found, rfl, rfl⟩

/-- R100: a record with a page in the machine is not removed. -/
theorem removalTest_paged (found : s.findSet i = some r) (present : r.status p ≠ .absent) : s.removalTest i = s := by
  unfold State.removalTest
  rw [found]
  refine if_neg fun removable => ?_
  simp only [State.removable, Bool.and_eq_true] at removable
  obtain ⟨⟨_, absent⟩, _⟩ := removable
  exact present (by simpa using List.all_eq_true.mp absent _ (status_mem present))

/-- R97, R98, R100: a change of a SURRENDERING set that has a page in the machine brings the unload test alone. -/
theorem afterChange_unloads (found : s.findSet i = some r) (state : r.state = .surrendering) (present : r.status p ≠ .absent) :
    s.afterChange i = s.unloadTest i := by
  obtain ⟨v, found', map, _⟩ := unloadTest_record found
  have tests : s.afterChange i = (s.unloadTest i).removalTest i := by simp only [State.afterChange, found, state]
  rw [tests, removalTest_paged found' (p := p)]
  rw [SetRecord.status, map]
  exact present

/-- R45: a HELD page is released to the return feeder. -/
theorem releaseToFeeder_held (found : s.findSet i = some r) (held : r.status p = .held k) : s.releaseToFeeder i p
    = (s.setPage i p (.releasing k)).queueRelease { pocket := k, id := i, page := p, dest := .feeder } := by
  simp only [State.releaseToFeeder, found, held]

theorem mem_set1 {α : Type} {l : List α} {k : Nat} {y z : α} (m : z ∈ set1 l k y) : z = y ∨ z ∈ l := by
  cases k with
  | zero => exact .inr m
  | succ k => exact (List.mem_or_eq_of_mem_set m).symm

/-- No page of a kind, where the page comes into the rack. -/
theorem held_anyPage {q : PageStatus → Bool} (own : q (.held k) = false) (others : ∀ y ∈ r.map, q y = false) :
    (r.setStatus p (.held k)).progressed.anyPage q = false := by
  refine List.any_eq_false.mpr fun y m => ?_
  obtain rfl | m := mem_set1 m
  · rw [own]; decide
  · rw [others y m]; decide

/-! ### The page is RELEASING at once -/

def InletSheet.release (e : InletSheet) (d : Dest) : Release := { pocket := e.pocket, id := e.id, page := e.page, dest := d }

/-- R45, R47: the page HELD is RELEASING, and its release queued. -/
def State.sentOn (s : State) (e : InletSheet) (d : Dest) : State :=
  ((s.held e).setPage e.id e.page (.releasing e.pocket)).queueRelease (e.release d)

theorem sentOn_frame (s : State) (e : InletSheet) (d : Dest) : (s.shelved e).sameBut [.co, .hr, .rf, .sc, .dc, .lc] (s.sentOn e d) :=
  sameBut_trans (sameBut_mono (held_frame s e) (by decide))
    (sameBut_trans (sameBut_mono (setPage_frame _ _ _ _) (by decide)) (sameBut_mono (queueRelease_frame _ _) (by decide)))

theorem sentOn_rack (s : State) (e : InletSheet) (d : Dest) : (s.shelved e).hr.courses (s.sentOn e d).hr := by
  rw [← (held_frame s e).hr (by decide), ← setPage_hr (s.held e) e.id e.page (.releasing e.pocket)]
  exact queueRelease_rack _ _

theorem sentOn_record (found : s.findSet e.id = some r) (present : r.status e.page ≠ .absent) (d : Dest) :
    ∃ v, (s.sentOn e d).findSet e.id = some v ∧ v.status e.page = .releasing e.pocket ∧ v.state = r.state :=
  ⟨_, (findSet_of_co (queueRelease_co _ _) e.id).trans (findSet_setPage_same e.page _ (held_record found)),
    status_setStatus_same _ (by rw [held_status r present]; nofun), rfl⟩

/-- R47: the page that the bin of a set being filled wants next is released into it. -/
theorem releaseTest_sentOn {c : Nat} (found : s.findSet e.id = some r) (page : r.status e.page = .inboundRack e.pocket)
    (filling : r.state = .claiming ∨ r.state = .collecting) (frontier : r.frontier = some e.page) (bin : r.bin = some c)
    (quiet : ∀ y ∈ r.map, y.inboundBinP = false ∧ y.releasingP = false) :
    (s.held e).releaseTest e.id = s.sentOn e (.bin c) := by
  have present : r.status e.page ≠ .absent := by rw [page]; nofun
  have filling' : (r.setStatus e.page (.held e.pocket)).progressed.state = .claiming
      ∨ (r.setStatus e.page (.held e.pocket)).progressed.state = .collecting := filling
  refine releaseTest_releases (held_record found) bin ((releasePage_filling filling').mpr ⟨?_, ?_, held_status r present, ?_⟩)
  · exact held_anyPage rfl fun y m => (quiet y m).1
  · exact (held_frontier present (by rw [page]; nofun)).trans frontier
  · exact held_anyPage rfl fun y m => (quiet y m).2

end Sys2Proof.Machine

open Sys2Proof.Machine in
/-- Settles O30: the sheet is in its pocket and its page HELD before the tests that follow, which keep both, and the test that
follows is the release test for a set being filled and the release to the return feeder for one given up. -/
theorem storeCompletes : Obligations.StoreCompletes := by
  refine ⟨fun s e r f busy found page low high filling frontier other _ => ?_,
    fun s e r c busy found page low high filling frontier bin quiet _ => ?_,
    fun s e r busy found page low high state _ => ?_, fun s st rest => ?_⟩
  · have present : r.status e.page ≠ .absent := by rw [page]; nofun
    have done := storeDone_held found (by obtain e | e := filling <;> rw [e] <;> decide)
    rw [held_afterChange found page filling] at done
    have hr := (held_frame s e).hr (by decide)
    obtain ⟨inlet, pocket⟩ := shelved_courses (t := s.storeDone e) low high (by
      rw [done, ← hr]
      exact (releaseTest_rack _ _).trans (arbiter_rack _))
    have arbiter := arbiter_frame ((s.held e).releaseTest e.id)
    refine ⟨_, exec_stored busy, inlet, pocket, ?_, ?_⟩
    · rw [done, arbiter.gc (by decide), (releaseTest_frame _ _).gc (by decide), (held_frame s e).gc (by decide)]
      rfl
    · have filling' : (r.setStatus e.page (.held e.pocket)).progressed.state = .claiming
          ∨ (r.setStatus e.page (.held e.pocket)).progressed.state = .collecting := filling
      have unnamed : ∀ j, (r.setStatus e.page (.held e.pocket)).progressed.releasePage ≠ some (e.page, j) := fun j named => by
        obtain ⟨_, first, _⟩ := (releasePage_filling filling').mp named
        rw [held_frontier present (by rw [page]; nofun), frontier] at first
        exact other (Option.some.inj first)
      obtain ⟨v, record, status, attempts, countdown, stranded⟩ := releaseTest_other (held_record found) unnamed
      refine ⟨v, ?_, status.trans (held_status r present), attempts, countdown, stranded⟩
      rw [done]
      exact (findSet_of_co (arbiter.co (by decide)) _).trans record
  · have present : r.status e.page ≠ .absent := by rw [page]; nofun
    have done := storeDone_held found (by obtain e | e := filling <;> rw [e] <;> decide)
    rw [held_afterChange found page filling, releaseTest_sentOn found page filling frontier bin quiet] at done
    obtain ⟨inlet, pocket⟩ := shelved_courses (t := s.storeDone e) low high (by
      rw [done]
      exact (sentOn_rack s e _).trans (arbiter_rack _))
    have arbiter := arbiter_frame (s.sentOn e (.bin c))
    obtain ⟨v, record, status, _⟩ := sentOn_record found present (.bin c)
    refine ⟨_, exec_stored busy, inlet, pocket, ?_, ⟨v, ?_, status⟩, ?_⟩
    · rw [done, arbiter.gc (by decide), (sentOn_frame s e _).gc (by decide)]
      rfl
    · rw [done]
      exact (findSet_of_co (arbiter.co (by decide)) _).trans record
    · rw [done]
      exact mem_allReleases.mp (arbiter_keepsReleases _ _ (queueRelease_releases _ (e.release (.bin c))))
  · have present : r.status e.page ≠ .absent := by rw [page]; nofun
    obtain ⟨v, record, status, state'⟩ := sentOn_record found present .feeder
    have done := storeDone_surrendering found state
    have sent : (s.held e).releaseToFeeder e.id e.page = s.sentOn e .feeder :=
      releaseToFeeder_held (held_record found) (held_status r present)
    rw [sent, afterChange_unloads record (state'.trans state) (p := e.page) (by rw [status]; nofun)] at done
    obtain ⟨inlet, pocket⟩ := shelved_courses (t := s.storeDone e) low high (by
      rw [done]
      exact ((sentOn_rack s e _).trans (unloadTest_rack _ _)).trans (arbiter_rack _))
    have arbiter := arbiter_frame ((s.sentOn e .feeder).unloadTest e.id)
    obtain ⟨w, record', map, _⟩ := unloadTest_record record
    refine ⟨_, exec_stored busy, inlet, pocket, ?_, ⟨w, ?_, ?_⟩, ?_⟩
    · rw [done, arbiter.gc (by decide), (unloadTest_frame _ _).gc (by decide), (sentOn_frame s e _).gc (by decide)]
      rfl
    · rw [done]
      exact (findSet_of_co (arbiter.co (by decide)) _).trans record'
    · rw [SetRecord.status, map]
      exact status
    · rw [done]
      exact mem_allReleases.mp (arbiter_keepsReleases _ _ (unloadTest_keepsReleases _ _ _ (queueRelease_releases _ (e.release .feeder))))
  · obtain e | e := rest <;> simp only [exec, execStored, execReleased, e, and_self]
end

section
/-! ## The end of a RELEASE (R46, R65, R97, R98, R101) -/

namespace Sys2Proof.Machine

variable {s t : State} {i : SetId} {r : SetRecord} {x : Release} {y : PageStatus}

/-- R65: the pocket of the release is FREE. -/
def State.unshelved (s : State) (x : Release) : State :=
  { s with hr := { s.hr with rack := .idle, pockets := set1 s.hr.pockets x.pocket .free } }

/-- R65, R101: the sheet of the release lies on the return feeder. -/
def State.fed (s : State) (x : Release) : State :=
  { s.unshelved x with rf := { s.rf with count := s.rf.count + 1, onWay := s.rf.onWay - 1 } }

theorem exec_released (busy : s.hr.rack = .busy (.release x)) : exec (.released .ok) s = .next (s.releaseDone x) := by
  simp only [exec, execReleased, busy]

/-- R46: a release into a bin turns the page to PLACED in the bin that the record holds, and to ABSENT otherwise. -/
theorem releaseDone_bin {c : Nat} (dest : x.dest = .bin c) (found : s.findSet x.id = some r) :
    s.releaseDone x = (((s.unshelved x).setPage x.id x.page (if r.bin = some c then .placed else .absent)).afterChange x.id).arbiter := by
  have found' : (s.unshelved x).findSet x.id = some r := found
  have released : (s.unshelved x).pageReleased x.id x.page c
      = ((s.unshelved x).setPage x.id x.page (if r.bin = some c then .placed else .absent)).afterChange x.id := by
    simp only [State.pageReleased, found']
  unfold State.releaseDone
  rw [dest]
  exact congrArg State.arbiter released

theorem releaseDone_feeder (dest : x.dest = .feeder) :
    s.releaseDone x = (((s.fed x).setPage x.id x.page .absent).afterChange x.id).roomReport := by
  unfold State.releaseDone
  rw [dest]
  rfl

/-- R65: what the tests that follow leave of the pocket. -/
theorem unshelved_free (low : 1 ≤ x.pocket) (high : x.pocket ≤ s.hr.pockets.length) (h : (s.unshelved x).hr.courses t.hr) :
    nth1 t.hr.pockets x.pocket = some .free :=
  h.free (nth1_set1_same _ low high)

theorem setPage_afterChange_rack (s : State) (i : SetId) (p : Nat) (y : PageStatus) :
    s.hr.courses ((s.setPage i p y).afterChange i).hr := by
  have changed := afterChange_rack (s.setPage i p y) i
  rwa [setPage_hr] at changed

theorem roomReport_rack (s : State) : s.hr.courses s.roomReport.hr := (arbiter_rack s).trans (startTest_rack _)

theorem releaseBin_free (low : 1 ≤ x.pocket) (high : x.pocket ≤ s.hr.pockets.length) :
    nth1 (((s.unshelved x).setPage x.id x.page y).afterChange x.id).arbiter.hr.pockets x.pocket = some .free :=
  unshelved_free low high ((setPage_afterChange_rack (s.unshelved x) x.id x.page y).trans (arbiter_rack _))

theorem releaseBin_count (s : State) (x : Release) (y : PageStatus) :
    (((s.unshelved x).setPage x.id x.page y).afterChange x.id).arbiter.rf.count = s.rf.count :=
  (arbiter_steady _).count.trans ((afterChange_steady _ _).count.trans (setPage_steady (s.unshelved x) _ _ _).count)

theorem arbiter_findSet (s : State) : s.arbiter.findSet = s.findSet := funext (findSet_of_co ((arbiter_frame s).co (by decide)))

theorem arbiter_gc (s : State) : s.arbiter.gc = s.gc := (arbiter_frame s).gc (by decide)

/-- R97: the unload and removal tests leave the gate alone. -/
theorem afterChange_surrendering_gc (found : s.findSet i = some r) (state : r.state = .surrendering) : (s.afterChange i).gc = s.gc := by
  have tests : s.afterChange i = (s.unloadTest i).removalTest i := by simp only [State.afterChange, found, state]
  rw [tests, (removalTest_frame _ _).gc (by decide), (unloadTest_frame _ _).gc (by decide)]

/-- R97, R98, R100: a SURRENDERING set's page that has become ABSENT stays so while the record lasts. -/
theorem afterChange_surrendering_absent {v : SetRecord} {p : Nat} (found : s.findSet i = some r) (state : r.state = .surrendering)
    (absent : r.status p = .absent) (found' : (s.afterChange i).findSet i = some v) : v.state = .surrendering ∧ v.status p = .absent := by
  obtain ⟨q, was, course⟩ := (afterChange_courses s i).own v found'
  obtain rfl : r = q := Option.some.inj (found.symm.trans was)
  refine ⟨?_, course.absent absent⟩
  obtain same | surrendering | ⟨_, filling⟩ := course.state
  · exact same.trans state
  · exact surrendering
  · simp [state] at filling

theorem arbiterIssue_carries (s : State) : s.carries s.arbiterIssue := carries_of_sc ((arbiterIssue_frame s).sc (by decide))

theorem arbiter_carries (s : State) : s.carries s.arbiter := by
  unfold State.arbiter
  dsimp only
  split
  · exact arbiterIssue_carries s
  · exact (arbiterIssue_carries s).trans (carriageIssue_carries _)

/-- R98: an UNLOAD queued or in flight stays so when requests are issued. -/
theorem unloadPending_carried (h : s.carries t) (pending : s.unloadPending i = true) : t.unloadPending i = true := by
  obtain ⟨q, m, unload, own⟩ := unloadPending_iff.mp pending
  exact unloadPending_iff.mpr ⟨q, h q m, unload, own⟩

end Sys2Proof.Machine

open Sys2Proof Sys2Proof.Machine in
/-- Settles O31: the pocket and the page change before the tests of the set, by the release's destination, the record's bin and
its state. -/
theorem releaseCompletes : Obligations.ReleaseCompletes := by
  refine ⟨fun s x r c busy found page low high dest bin state _ => ?_, fun s x r c busy found page low high dest bin state _ => ?_,
    fun s x r c busy found page low high dest bin state _ => ?_, fun s x r c busy found page low high dest bin state _ => ?_,
    fun s x r busy found page low high dest state _ => ?_⟩
  all_goals have present : r.status x.page ≠ .absent := by rw [page]; nofun
  · have done := releaseDone_bin dest found
    rw [if_pos bin] at done
    have record := findSet_setPage_same (s := s.unshelved x) x.page .placed found
    obtain ⟨⟨v, found', placed, _⟩, gc⟩ := afterChange_placed record (status_setStatus_same _ present) state
    rw [exec_released busy, done]
    refine ⟨_, rfl, releaseBin_free low high, ?_, ⟨v, ?_, placed⟩, releaseBin_count s x _⟩
    · rw [arbiter_gc, gc, (setPage_frame _ _ _ _).gc (by decide)]
      rfl
    · rw [arbiter_findSet]
      exact found'
  · have done := releaseDone_bin dest found
    rw [if_neg bin] at done
    have record := findSet_setPage_same (s := s.unshelved x) x.page .absent found
    have absent : (r.setStatus x.page .absent).status x.page = .absent := status_setStatus_same _ present
    have length : (r.setStatus x.page .absent).map.length = r.map.length := length_set1 _ _ _
    have tests := afterChange_filling _ record (state.imp id fun collecting =>
      ⟨collecting, x.page, by rw [length]; exact mem_numbers.mpr (page_in_map present), by rw [absent]; nofun⟩)
    obtain ⟨v, found', was⟩ := findSet_releaseTest _ record
    have still : v.status x.page = .absent := by
      obtain rfl | ⟨q, k, held, rfl⟩ := was
      · exact absent
      · refine (status_setStatus_other _ _ ?_).trans absent
        rintro rfl
        rw [absent] at held
        cases held
    have free := releaseBin_free (y := .absent) low high
    have count := releaseBin_count s x .absent
    rw [exec_released busy, done]
    rw [tests] at free count ⊢
    refine ⟨_, rfl, free, ?_, ⟨v, ?_, still⟩, count⟩
    · rw [arbiter_gc, (releaseTest_frame _ _).gc (by decide), (setPage_frame _ _ _ _).gc (by decide)]
      rfl
    · rw [arbiter_findSet]
      exact found'
  · have done := releaseDone_bin dest found
    rw [if_pos bin] at done
    have record := findSet_setPage_same (s := s.unshelved x) x.page .placed found
    have placed : (r.setStatus x.page .placed).status x.page = .placed := status_setStatus_same _ present
    obtain ⟨tests, found'⟩ := afterChange_surrendering_placed record state bin placed
    have free := releaseBin_free (y := .placed) low high
    have count := releaseBin_count s x .placed
    rw [exec_released busy, done]
    rw [tests] at free count ⊢
    refine ⟨_, rfl, free, ?_, ⟨r.setStatus x.page .placed, by rw [arbiter_findSet]; exact found', state, placed, bin, fun quiet => ?_⟩, count⟩
    · rw [arbiter_gc, (unloadTest_frame _ _).gc (by decide), (setPage_frame _ _ _ _).gc (by decide)]
      rfl
    · refine unloadPending_carried (arbiter_carries _) (unloadTest_pending record state bin (placedCount_ne_zero placed)
        (noInbound_iff.mpr quiet) ?_)
      exact binReleaseInFlight_congr (setPage_hr _ _ _ _) x.id
  · have done := releaseDone_bin dest found
    rw [if_neg bin] at done
    have record := findSet_setPage_same (s := s.unshelved x) x.page .absent found
    rw [exec_released busy, done]
    refine ⟨_, rfl, releaseBin_free low high, ?_, fun q found' => ?_, releaseBin_count s x _⟩
    · rw [arbiter_gc, afterChange_surrendering_gc record state, (setPage_frame _ _ _ _).gc (by decide)]
      rfl
    · rw [arbiter_findSet] at found'
      exact afterChange_surrendering_absent record state (status_setStatus_same _ present) found'
  · have record := findSet_setPage_same (s := s.fed x) x.page .absent found
    have co := (roomReport_frame (((s.fed x).setPage x.id x.page .absent).afterChange x.id)).co (by decide)
    rw [exec_released busy, releaseDone_feeder dest]
    refine ⟨_, rfl, unshelved_free low high ((setPage_afterChange_rack (s.fed x) x.id x.page .absent).trans (roomReport_rack _)), ?_,
      fun q found' => ?_, ?_⟩
    · rw [(roomReport_frame _).gc (by decide), afterChange_surrendering_gc record state, (setPage_frame _ _ _ _).gc (by decide)]
      rfl
    · rw [findSet_of_co co] at found'
      exact afterChange_surrendering_absent record state (status_setStatus_same _ present) found'
    · exact (roomReport_steady _).count.trans ((afterChange_steady _ _).count.trans (setPage_steady (s.fed x) _ _ _).count)
end

section
/-! ## "Bin jammed" (R35, R63, R92 to R94, R99) -/

namespace Sys2Proof.Machine

variable {s t u : State} {i j : SetId} {r v : SetRecord} {b : Nat} {y : YieldReason}

/-! ### A YIELD made due (R82, R94) -/

theorem queueWaiting_none (waiting : s.cu.waiting = []) : s.queueWaiting = s := by
  unfold State.queueWaiting
  rw [waiting]
  exact ite_self s

theorem queueWaiting_full (full : 4 ≤ s.lc.urgent.length) : s.queueWaiting = s := by
  have closed : s.urgentRoom = false := decide_eq_false (Nat.not_lt.mpr full)
  rw [State.queueWaiting, closed]
  rfl

theorem queueWaitings_stuck (stuck : s.queueWaiting = s) : ∀ n, State.queueWaitings n s = s
  | 0 => rfl
  | n + 1 => by rw [State.queueWaitings, stuck, queueWaitings_stuck stuck n]

theorem queueWaitings_once (first : s.queueWaiting = t) (stuck : t.queueWaiting = t) {n : Nat} (some : 0 < n) :
    State.queueWaitings n s = t := by
  obtain ⟨n, rfl⟩ := Nat.exists_eq_add_of_le' some
  rw [State.queueWaitings, first, queueWaitings_stuck stuck]

/-- R94: with no notice waiting and room in the urgent queue, the YIELD is queued at once. -/
theorem dueYield_room (i : SetId) (y : YieldReason) (waiting : s.cu.waiting = []) (room : s.lc.urgent.length < 4) : s.dueYield i y =
    ({ s with cu := if y = .late then s.cu.markQueued i else s.cu } : State).pushUrgent (.yield i y) := by
  have opened : s.urgentRoom = true := decide_eq_true room
  have back : ({ s.cu with waiting := [] } : ClaimUnit) = s.cu := by rw [← waiting]
  have first : ({ s with cu := { s.cu with waiting := s.cu.waiting ++ [.yield i y] } } : State).queueWaiting
      = ({ s with cu := if y = .late then s.cu.markQueued i else s.cu } : State).pushUrgent (.yield i y) := by
    unfold State.queueWaiting
    rw [waiting]
    refine (if_pos opened).trans ?_
    dsimp only [List.nil_append]
    rw [back]
  have emptied : (({ s with cu := if y = .late then s.cu.markQueued i else s.cu } : State).pushUrgent (.yield i y)).cu.waiting = [] := by
    rw [State.pushUrgent_cu]
    dsimp only
    split
    · exact waiting
    · exact waiting
  exact queueWaitings_once first (queueWaiting_none emptied) (by rw [waiting]; exact Nat.add_pos_left Nat.one_pos _)

/-- R94: with the urgent queue full, the YIELD waits in the Claim Unit. -/
theorem dueYield_full (i : SetId) (y : YieldReason) (full : 4 ≤ s.lc.urgent.length) :
    s.dueYield i y = { s with cu := { s.cu with waiting := s.cu.waiting ++ [.yield i y] } } :=
  queueWaitings_stuck (s := { s with cu := { s.cu with waiting := s.cu.waiting ++ [.yield i y] } }) (queueWaiting_full full) _

/-! ### The urgent queue in the course of a set -/

theorem urgent_foldl {α : Type} (f : State → α → State) (h : ∀ (t : State) x, (f t x).lc.urgent = t.lc.urgent) :
    ∀ (xs : List α) (s : State), (xs.foldl f s).lc.urgent = s.lc.urgent
  | [], _ => rfl
  | x :: xs, s => (urgent_foldl f h xs (f s x)).trans (h s x)

theorem arbiter_urgent (s : State) : s.arbiter.lc.urgent = s.lc.urgent := by rw [(arbiter_frame s).lc (by decide)]

theorem startTest_urgent (s : State) : s.startTest.lc.urgent = s.lc.urgent := by rw [(startTest_frame s).lc (by decide)]

theorem releaseToFeeder_urgent (s : State) (i : SetId) (p : Nat) : (s.releaseToFeeder i p).lc.urgent = s.lc.urgent := by
  unfold State.releaseToFeeder
  split
  · rfl
  · split
    · exact (arbiter_urgent _).trans (setPage_still s _ _ _).2.2
    · rfl

theorem queueCarriage_urgent (s : State) (q : CarriageRequest) : (s.queueCarriage q).lc.urgent = s.lc.urgent := by
  rw [queueCarriage_eq]
  split
  · exact startTest_urgent _
  · rfl

theorem unloadTest_urgent (s : State) (i : SetId) : (s.unloadTest i).lc.urgent = s.lc.urgent := by
  unfold State.unloadTest
  split
  · rfl
  · split
    · rfl
    · split
      · split
        · exact ((freeBin_still s _).trans (putSet_still _ _)).2.2
        · exact queueCarriage_urgent s _
      · rfl

theorem rejoinTest_urgent (s : State) : s.rejoinTest.lc.urgent = s.lc.urgent := by
  unfold State.rejoinTest
  split
  · unfold State.enterJoining
    rw [wantHello_urgent]
    exact (setBay_still s .joining).2.2
  · rfl

theorem removalTest_urgent (s : State) (i : SetId) : (s.removalTest i).lc.urgent = s.lc.urgent := by
  unfold State.removalTest
  split
  · rfl
  · split
    · unfold State.removeSet
      split
      · rfl
      · rw [rejoinTest_urgent]
        exact ((dropSet_still s _).trans (drainTest_still _)).2.2
    · rfl

/-- R93 steps 5 to 8 queue no urgent notice. -/
theorem afterYield_urgent (s : State) (r : SetRecord) : (s.afterYield r).lc.urgent = s.lc.urgent := by
  rw [State.afterYield, removalTest_urgent, unloadTest_urgent, urgent_foldl _ fun t p => releaseToFeeder_urgent t r.id p]
  exact (rewriteSet_still s r.id).2.2

theorem withdrawCarriage_urgent (s : State) (i : SetId) (x : Bool) : (s.withdrawCarriage i x).lc.urgent = s.lc.urgent := by
  rw [(withdrawCarriage_frame s i x).lc (by decide)]

/-- R93: the surrender of a set that is not CLAIMING begins without a notice. -/
theorem beginSurrender_notices (s : State) (state : r.state ≠ .claiming) :
    (s.beginSurrender r).lc.urgent = s.lc.urgent ∧ (s.beginSurrender r).cu = s.cu := by
  have put : ((s.claimless r).putSet r.surrendered).countSurrender.lc.urgent = s.lc.urgent
      ∧ ((s.claimless r).putSet r.surrendered).countSurrender.cu = s.cu := by
    rw [State.claimless, if_neg state]
    exact ⟨(putSet_still s _).2.2, (putSet_still s _).2.1⟩
  rw [beginSurrender_eq]
  split
  · rw [withdrawCarriage_urgent, (withdrawCarriage_frame _ _ _).cu (by decide)]
    exact put
  · exact put

/-- R92 to R94: the YIELD of a surrender, with no notice waiting and room in the urgent queue. -/
theorem surrender_urgent (found : s.findSet i = some r) (state : r.state ≠ .claiming) (waiting : s.cu.waiting = [])
    (room : s.lc.urgent.length < 4) :
    (s.surrender i (some y)).lc.urgent = s.lc.urgent ++ [TxEntry.fresh (.yield i y)] := by
  obtain rfl := findSet_id found
  obtain ⟨urgent, cu⟩ := beginSurrender_notices s state
  rw [← cu] at waiting
  rw [← urgent] at room
  rw [State.surrender, found]
  dsimp only
  rw [endSurrender_eq]
  dsimp only
  rw [if_neg state, afterYield_urgent, dueYield_room _ _ waiting room, State.pushUrgent_lc, ← urgent]

/-- R92: a surrender is counted once. -/
theorem surrender_surrenders (found : s.findSet i = some r) (x : Option YieldReason) :
    (s.surrender i x).co.surrenders = count s.co.surrenders := by
  rw [State.surrender, found]
  dsimp only
  rw [endSurrender_eq]
  split
  · rw [afterYield_surrenders, apply_ite State.co, dueYield_co, ite_self, beginSurrender_surrenders]
  · rw [afterYield_surrenders, beginSurrender_surrenders]

/-! ### A set without a bin, and a JAMMED bin -/

/-- Bin `b` is JAMMED, and the set has no bin. -/
def State.jammedOut (s : State) (b : Nat) (i : SetId) : Prop :=
  s.binState b = some .jammed ∧ ∀ v, s.findSet i = some v → v.bin = none

theorem State.jammedOut.of_co (h : s.jammedOut b i) (co : t.co = s.co) : t.jammedOut b i :=
  ⟨by rw [State.binState, co]; exact h.1, fun v found => h.2 v (by rwa [findSet_of_co co] at found)⟩

theorem jammedOut_foldl {α : Type} (f : State → α → State) (h : ∀ (t : State) x, t.jammedOut b i → (f t x).jammedOut b i) :
    ∀ (xs : List α) (s : State), s.jammedOut b i → (xs.foldl f s).jammedOut b i
  | [], _, k => k
  | x :: xs, s, k => jammedOut_foldl f h xs (f s x) (h s x k)

theorem State.jammedOut.putSet (h : s.jammedOut b i) (bin : v.bin = none) : (s.putSet v).jammedOut b i := by
  refine ⟨by rw [State.binState, putSet_bins]; exact h.1, fun w found => ?_⟩
  by_cases own : i = v.id
  · subst own
    cases old : s.findSet v.id with
    | none =>
      rw [State.putSet, old] at found
      exact h.2 w found
    | some q =>
      rw [findSet_putSet_same old] at found
      cases found
      exact bin
  · exact h.2 w (by rwa [findSet_putSet_other s v own] at found)

theorem State.jammedOut.setPage (h : s.jammedOut b i) (j : SetId) (p : Nat) (x : PageStatus) : (s.setPage j p x).jammedOut b i := by
  refine ⟨by rw [State.binState, State.setPage, updSet_bins]; exact h.1, fun w found => ?_⟩
  by_cases own : i = j
  · subst own
    cases old : s.findSet i with
    | none =>
      rw [State.setPage, State.updSet, old] at found
      exact h.2 w found
    | some q =>
      rw [findSet_setPage_same p x old] at found
      cases found
      exact h.2 q old
  · exact h.2 w (by rwa [setPage_setsBut s j p x i (by simpa using own)] at found)

theorem State.jammedOut.undoPage (h : s.jammedOut b i) (g : PageRef) : (s.undoPage g).jammedOut b i := by
  unfold State.undoPage
  split
  · exact h
  · split
    · exact h.setPage _ _ _
    · exact h

theorem State.jammedOut.rewriteSet (h : s.jammedOut b i) (j : SetId) : (s.rewriteSet j).jammedOut b i := by
  refine (jammedOut_foldl State.undoAction (fun t e k => ?_) _ s h).of_co rfl
  unfold State.undoAction
  split
  · exact k.undoPage _
  · exact (k.undoPage _).of_co (undoReservation_co _ _ _ _)
  · exact k

theorem State.jammedOut.releaseToFeeder (h : s.jammedOut b i) (j : SetId) (p : Nat) : (s.releaseToFeeder j p).jammedOut b i := by
  unfold State.releaseToFeeder
  split
  · exact h
  · split
    · exact (h.setPage _ _ _).of_co (queueRelease_co _ _)
    · exact h

/-- R98: there is no unload test of a set without a bin. -/
theorem unloadTest_binless (binless : ∀ v, s.findSet i = some v → v.bin = none) : s.unloadTest i = s := by
  cases found : s.findSet i with
  | none => rw [State.unloadTest, found]
  | some v =>
    unfold State.unloadTest
    rw [found]
    dsimp only
    rw [binless v found]

theorem State.jammedOut.removalTest (h : s.jammedOut b i) : (s.removalTest i).jammedOut b i :=
  ⟨by rw [State.binState, removalTest_bins]; exact h.1, fun v found => h.2 v (removalTest_own found)⟩

theorem State.jammedOut.surrender (h : s.jammedOut b i) (x : Option YieldReason) : (s.surrender i x).jammedOut b i := by
  cases found : s.findSet i with
  | none => rw [State.surrender, found]; exact h
  | some r =>
    obtain rfl := findSet_id found
    have put : ((s.claimless r).putSet r.surrendered).countSurrender.jammedOut b r.id :=
      ((h.of_co (claimless_co s r)).putSet (v := r.surrendered) (h.2 r found)).imp id id
    have begun : (s.beginSurrender r).jammedOut b r.id := by
      rw [beginSurrender_eq]
      split
      · exact put.of_co (withdrawCarriage_co _ _ _)
      · exact put
    have after (t : State) (k : t.jammedOut b r.id) : (t.afterYield r).jammedOut b r.id := by
      have fed := jammedOut_foldl _ (fun t p k => State.jammedOut.releaseToFeeder k r.id p) r.wanted _
        ((k.rewriteSet r.id).of_co (t := (t.rewriteSet r.id).redirect r.id) rfl)
      rw [State.afterYield, unloadTest_binless fed.2]
      exact fed.removalTest
    rw [State.surrender, found]
    dsimp only
    rw [endSurrender_eq]
    split
    · refine after _ ?_
      split
      · exact begun
      · exact begun.of_co (dueYield_co _ _ _)
    · exact after _ begun

/-! ### The record of the JAMMED bin -/

theorem carriageIssue_queue (s : State) : ∀ q ∈ s.carriageIssue.sc.carriageQueue, q ∈ s.sc.carriageQueue := by
  unfold State.carriageIssue
  split
  · split
    · exact fun _ m => m
    · rename_i id b rest queue
      split
      · exact fun _ m => m
      · split
        · intro q m
          rw [(setJaw_sc _ _ _).2] at m
          exact queue ▸ List.mem_cons_of_mem _ m
        · exact fun _ m => m
    · rename_i id b n rest queue
      split
      · exact fun q m => queue ▸ List.mem_cons_of_mem _ m
      · exact fun _ m => m
  · exact fun _ m => m

theorem startTest_queue (s : State) : ∀ q ∈ s.startTest.sc.carriageQueue, q ∈ s.sc.carriageQueue := by
  unfold State.startTest
  dsimp only
  split
  · exact carriageIssue_queue s
  · rw [(arbiterIssue_frame _).sc (by decide)]
    exact carriageIssue_queue s

/-- R99, R117: no request of the set and the kind named stays queued. -/
theorem withdrawCarriage_withdrawn (s : State) (i : SetId) (x : Bool) :
    ∀ q ∈ (s.withdrawCarriage i x).sc.carriageQueue, q.id = i → q.isUnload = !x := by
  have left : ∀ q ∈ s.sc.carriageQueue.filter (fun q => !(q.id == i && q.isUnload == x)), q.id = i → q.isUnload = !x := by
    intro q m own
    have other := (List.mem_filter.mp m).2
    cases unload : q.isUnload <;> cases x <;> simp [own, unload] at other ⊢
  rw [withdrawCarriage_eq]
  split
  · exact fun q m => left q (startTest_queue _ q m)
  · exact left

/-- R63: the redirected releases of the set go to the return feeder. -/
theorem redirect_feeder (s : State) (i : SetId) : ∀ x ∈ (s.redirect i).hr.releases, x.id = i → x.dest = .feeder := by
  intro x m own
  obtain ⟨y, _, rfl⟩ := List.mem_map.mp m
  split at own
  · rw [if_pos ‹_›]
  · exact absurd own ‹_›

theorem dropBin_unplaced (r : SetRecord) : ∀ p, r.dropBin.status p ≠ .placed := by
  intro p
  rw [emptied_status (v := r.dropBin) rfl p]
  split
  · nofun
  · assumption

/-- R44, R93: no page becomes PLACED in the course of a set. -/
theorem SetRecord.courses.unplaced (h : r.courses v) (unplaced : ∀ p, r.status p ≠ .placed) : ∀ x ∈ v.map, x ≠ .placed := by
  rintro x m rfl
  obtain ⟨p, _, placed⟩ := mem_map_iff.mp m
  obtain same | absent | ⟨k, _, releasing⟩ := h.page p
  · exact unplaced p (same.symm.trans placed)
  · rw [placed] at absent; cases absent
  · rw [placed] at releasing; cases releasing

/-- R35: the bin is JAMMED and its record has dropped it. -/
def State.dropped (s : State) (b : Nat) (r : SetRecord) : State := (s.setBin b .jammed).putSet r.dropBin

theorem dropped_findSet (found : s.findSet i = some r) : (s.dropped b r).findSet i = some r.dropBin := by
  have found' : (s.setBin b .jammed).findSet i = some r := by rw [setBin_lodger]; exact found
  rw [State.dropped, findSet_dropBin found', Function.update_self]

theorem dropped_jammedOut (found : s.findSet i = some r) (inside : (s.binState b).isSome = true) :
    (s.dropped b r).jammedOut b i := by
  refine ⟨?_, fun v found' => ?_⟩
  · obtain ⟨low, high⟩ := (nth1_isSome_iff _ _).mp inside
    rw [State.binState, State.dropped, putSet_bins, setBin_co]
    exact nth1_set1_same _ low high
  · rw [dropped_findSet found] at found'
    cases found'
    rfl

theorem dropped_still (s : State) (b : Nat) (r : SetRecord) : s.still (s.dropped b r) :=
  (setBin_still s b _).trans (putSet_still _ _)

theorem dropped_surrenders (s : State) (b : Nat) (r : SetRecord) : (s.dropped b r).co.surrenders = s.co.surrenders := by
  rw [State.dropped, putSet_surrenders, setBin_co]

/-- R35: "bin jammed" of an ASSIGNED bin with no carriage operation on it. -/
theorem exec_binJammed_held (assigned : s.binState b = some .assigned) (off : s.carriageOnBin b = false)
    (holder : s.holderOf b = some r) : exec (.binJammed b) s = .next ((s.setBin b .jammed).jamRecord r) := by
  change Host.Outcome.next _ = _
  simp [assigned, off, holder]

theorem jamRecord_surrender (state : r.state ≠ .surrendering) :
    (s.setBin b .jammed).jamRecord r = (s.dropped b r).surrender r.id (some .jam) := if_neg state

/-- R99: the surrender of a SURRENDERING record continues without the bin. -/
theorem jamRecord_surrendering (found : s.findSet i = some r) (inside : (s.binState b).isSome = true) (state : r.state = .surrendering) :
    (s.setBin b .jammed).jamRecord r = (((s.dropped b r).withdrawCarriage r.id true).redirect r.id).removalTest r.id
      ∧ (((s.dropped b r).withdrawCarriage r.id true).redirect r.id).jammedOut b r.id := by
  obtain rfl := findSet_id found
  have out : (((s.dropped b r).withdrawCarriage r.id true).redirect r.id).jammedOut b r.id :=
    ((dropped_jammedOut found inside).of_co (withdrawCarriage_co _ _ _)).of_co rfl
  have same := congrArg (State.removalTest · r.id) (unloadTest_binless out.2)
  exact ⟨(if_pos state).trans same, out⟩

/-- R92, R93: the record of a surrender of a record that has dropped its bin. -/
theorem surrender_dropped (found : s.findSet i = some r) (inside : (s.binState b).isSome = true) (x : Option YieldReason) :
    ∀ q, ((s.dropped b r).surrender i x).findSet i = some q → q.state = .surrendering ∧ q.bin = none ∧ ∀ y ∈ q.map, y ≠ .placed := by
  intro q found'
  obtain ⟨v, was, course⟩ := (surrender_courses (s.dropped b r) i x).own q found'
  rw [dropped_findSet found] at was
  cases was
  exact ⟨surrender_givenUp _ i x q found', ((dropped_jammedOut found inside).surrender x).2 q found',
    course.unplaced (dropBin_unplaced r)⟩

end Sys2Proof.Machine

open Sys2Proof.Machine in
/-- Settles O34: the bin alone changes with an operation on it; otherwise its record drops it and is surrendered, or its surrender
goes on with what was queued for the bin withdrawn and redirected. -/
theorem binJams : Obligations.BinJams := by
  have isAssigned {s : State} {c : Nat} (assigned : s.binState c = some .assigned) : (s.binState c).isSome = true := by
    rw [assigned]; rfl
  have fills {s : State} {c : Nat} {r : SetRecord} (assigned : s.binState c = some .assigned) (off : s.carriageOnBin c = false)
      (holder : s.holderOf c = some r) (found : s.findSet r.id = some r) (state : r.state ≠ .surrendering) :
      ∃ t, exec (.binJammed c) s = .next t ∧ t = (s.dropped c r).surrender r.id (some .jam)
        ∧ t.binState c = some .jammed
        ∧ (∀ q, t.findSet r.id = some q → q.state = .surrendering ∧ q.bin = none ∧ ∀ x ∈ q.map, x ≠ .placed)
        ∧ t.co.surrenders = count s.co.surrenders
        ∧ (s.cu.waiting = [] → s.lc.urgent.length < 4 → r.state ≠ .claiming →
          t.lc.urgent = s.lc.urgent ++ [TxEntry.fresh (.yield r.id .jam)]) := by
    have found' := dropped_findSet (b := c) found
    obtain ⟨_, cu, urgent⟩ := dropped_still s c r
    refine ⟨_, (exec_binJammed_held assigned off holder).trans (next_congr (jamRecord_surrender state)), rfl,
      ((dropped_jammedOut found (isAssigned assigned)).surrender _).1, surrender_dropped found (isAssigned assigned) _, ?_,
      fun waiting room claimed => ?_⟩
    · rw [surrender_surrenders found', dropped_surrenders]
    · rw [surrender_urgent found' claimed (by rw [cu, waiting]) (by rw [urgent]; exact room), urgent]
  refine ⟨fun s c plain => ?_, fun s c settled => ?_, fun s c r assigned off holder found state _ => ?_,
    fun s c r assigned off holder found state _ => ?_, fun s c r assigned off holder found state _ => ?_⟩
  · refine ⟨s.setBin c .jammed, ?_, setBin_co s c _, setBin_linkTold s c _, setBin_frame s c _⟩
    change Host.Outcome.next _ = _
    obtain available | occupied | ⟨assigned, on⟩ := plain
    · rw [available]
    · rw [occupied]
    · rw [assigned]
      exact next_congr (if_pos on)
  · change Host.Outcome.next _ = _
    obtain jammed | none := settled
    · rw [jammed]
    · rw [none]
  · have live : r.state ≠ .surrendering := by obtain e | e | e := state <;> rw [e] <;> decide
    obtain ⟨t, next, _, account⟩ := fills assigned off holder found live
    exact ⟨t, next, account⟩
  · obtain ⟨t, next, rfl, jammed, record, surrenders, urgent⟩ := fills assigned off holder found (by rw [state]; decide)
    exact ⟨_, next, jammed, record, surrenders, surrender_transferless (dropped_findSet found) state,
      fun waiting room => urgent waiting room (by rw [state]; decide)⟩
  · obtain ⟨next, out⟩ := jamRecord_surrendering found (isAssigned assigned) state
    have table : (((s.dropped c r).withdrawCarriage r.id true).redirect r.id).findSet r.id = some r.dropBin := by
      rw [← dropped_findSet found]
      exact findSet_of_co (withdrawCarriage_co _ _ _) r.id
    have frame := removalTest_frame (((s.dropped c r).withdrawCarriage r.id true).redirect r.id) r.id
    refine ⟨_, (exec_binJammed_held assigned off holder).trans (next_congr next), out.removalTest.1, fun q found' => ?_, ?_, ?_, ?_, ?_⟩
    · obtain rfl : r.dropBin = q := Option.some.inj (table.symm.trans (removalTest_own found'))
      exact ⟨state, rfl, (SetRecord.courses.refl r.dropBin).unplaced (dropBin_unplaced r)⟩
    · rw [removalTest_surrenders]
      exact (congrArg (·.surrenders) (withdrawCarriage_co _ _ _)).trans (dropped_surrenders s c r)
    · rw [removalTest_urgent]
      exact (withdrawCarriage_urgent _ _ _).trans (dropped_still s c r).2.2
    · rw [frame.sc (by decide)]
      exact withdrawCarriage_withdrawn (s.dropped c r) r.id true
    · rw [frame.hr (by decide)]
      exact redirect_feeder _ r.id
end

section
/-! ## This bay's own CLAIM heard, and the claim deadline (R49, R72, R78, R80, R82, R93, R94) -/

namespace Sys2Proof.Machine

variable {s t u : State} {i : SetId} {r v : SetRecord} {f : Frame}

/-! ### What the queueing of waiting notices keeps of the Claim Unit -/

/-- The foreign entries, the sets of the late claims and the counts of claims are the same. -/
structure ClaimUnit.retains (c d : ClaimUnit) : Prop where
  foreign : d.foreign = c.foreign
  late : d.late.map (fun e => e.id) = c.late.map (fun e => e.id)
  lateClaims : d.lateClaims = c.lateClaims
  claimLost : d.claimLost = c.claimLost

theorem ClaimUnit.retains.refl (c : ClaimUnit) : c.retains c := ⟨rfl, rfl, rfl, rfl⟩

theorem ClaimUnit.retains.trans {c d e : ClaimUnit} (h : c.retains d) (k : d.retains e) : c.retains e :=
  ⟨k.foreign.trans h.foreign, k.late.trans h.late, k.lateClaims.trans h.lateClaims, k.claimLost.trans h.claimLost⟩

theorem markQueued_retains (c : ClaimUnit) (i : SetId) : c.retains (c.markQueued i) := by
  refine ⟨rfl, ?_, rfl, rfl⟩
  rw [ClaimUnit.markQueued, List.map_map]
  refine List.map_congr_left fun e _ => ?_
  rw [Function.comp_apply]
  split <;> rfl

theorem formHeld_retains (s : State) (rest : List Waiting) : s.cu.retains (s.formHeld rest).cu := by
  unfold State.formHeld
  dsimp only
  split <;> exact ⟨rfl, rfl, rfl, rfl⟩

theorem queueWaiting_retains (s : State) : s.cu.retains s.queueWaiting.cu := by
  unfold State.queueWaiting
  split
  · split
    · exact .refl _
    · next id y rest _ =>
      have shorter : s.cu.retains { s.cu with waiting := rest } := ⟨rfl, rfl, rfl, rfl⟩
      rw [State.pushUrgent_cu]
      dsimp only
      split
      · exact shorter.trans (markQueued_retains _ id)
      · exact shorter
    · exact formHeld_retains s _
  · exact .refl _

theorem queueWaitings_retains : ∀ (n : Nat) (s : State), s.cu.retains (State.queueWaitings n s).cu
  | 0, s => .refl s.cu
  | n + 1, s => (queueWaiting_retains s).trans (queueWaitings_retains n _)

theorem refillUrgent_retains (s : State) (x : Link) : s.cu.retains ({ s with lc := x } : State).refillUrgent.cu :=
  queueWaitings_retains _ { s with lc := x }

theorem dueYield_retains (s : State) (i : SetId) (y : YieldReason) : s.cu.retains (s.dueYield i y).cu :=
  .trans (d := { s.cu with waiting := s.cu.waiting ++ [.yield i y] }) ⟨rfl, rfl, rfl, rfl⟩
    (queueWaitings_retains _ { s with cu := { s.cu with waiting := s.cu.waiting ++ [.yield i y] } })

theorem withdrawClaim_retains (s : State) (i : SetId) : s.cu.retains (s.withdrawClaim i).cu := by
  unfold State.withdrawClaim State.withdrawUrgent
  dsimp only
  split
  · exact .refl s.cu
  · exact refillUrgent_retains s _

theorem leaveLine_retains (s : State) : s.cu.retains s.leaveLine.cu := by
  unfold State.leaveLine
  dsimp only
  rw [apply_ite State.cu, (refillRoutine_frame _).cu (by decide), ite_self]
  split
  · exact .refl s.cu
  · exact refillUrgent_retains s _

theorem heardSteps_retains (s : State) (kind : BitVec 6) (f : Frame) : s.cu.retains (s.heardSteps kind f).cu := by
  unfold State.heardSteps
  dsimp only
  rw [apply_ite State.cu, (markPresent_frame _ _).cu (by decide), ite_self]
  split
  · exact leaveLine_retains { s with lc := { s.lc with spoilMark := false } }
  · exact .refl s.cu

/-- R70: the steps of R149 decide no set's standing. -/
theorem standing_heardSteps (s : State) (kind : BitVec 6) (f : Frame) (i : SetId) :
    (s.heardSteps kind f).standing i = s.standing i := by
  have retains := heardSteps_retains s kind f
  have late (c : ClaimUnit) : c.late.any (fun e => e.id == i) = (c.late.map (fun e => e.id)).any (· == i) := by
    rw [List.any_map]
    rfl
  rw [State.standing, State.standing, late, late, retains.late, retains.foreign, heardSteps_co]

/-! ### The Claim Unit as a CLAIMING record is given up (R80, R93) -/

theorem beginSurrender_retains (s : State) (r : SetRecord) : s.cu.retains (s.beginSurrender r).cu := by
  have put : ((s.claimless r).putSet r.surrendered).countSurrender.cu = (s.claimless r).cu := (putSet_still _ _).2.1
  have claimless : s.cu.retains (s.claimless r).cu := by
    unfold State.claimless
    split
    · exact withdrawClaim_retains s _
    · exact .refl s.cu
  rw [beginSurrender_eq]
  split
  · rwa [(withdrawCarriage_frame _ _ _).cu (by decide), put]
  · rwa [put]

theorem surrender_none_claimLost (found : s.findSet i = some r) : (s.surrender i none).cu.claimLost = s.cu.claimLost := by
  have before : ((s.beginSurrender r).beforeRemoval r).cu = (s.beginSurrender r).cu :=
    (beforeRemoval_frame (s.beginSurrender r) r).cu (by decide)
  have begun := (beginSurrender_retains s r).claimLost
  rw [surrender_none_eq found, afterYield_eq]
  obtain same | ⟨_, joining⟩ := removalTest_cu ((s.beginSurrender r).beforeRemoval r) r.id
  · rw [same, before, begun]
  · rw [joining, before]
    exact begun

/-! ### The echo of a CLAIM (R77, R78, R82) -/

/-- R150: the fields of a CLAIM are in range. -/
def claimFormed (f : Frame) : Prop := (f.setAt 0).job ≠ 0 ∧ (f.setAt 0).num ≠ 0 ∧ f.low6 ≠ 0

theorem exec_claim_echo (echo : s.hearsEcho .claim f) (formed : claimFormed f) : exec (.claim f) s
    = .next (State.afterHeard s ((s.heardSteps NoticeKind.claim.code f).firstClaim s.station (f.setAt 0))) := by
  obtain ⟨job, num, pages⟩ := formed
  refine congrArg Host.Outcome.next ((hear_of_hearsEcho echo _).trans (congrArg (State.afterHeard s) ?_))
  have well : ¬((f.setAt 0).job = 0 ∨ (f.setAt 0).num = 0 ∨ f.low6 = 0) := by simp [job, num, pages]
  have own : f.origin.toNat = s.station := echo.2.1
  rw [← own]
  exact if_neg well

theorem firstClaim_own (found : s.findSet i = some r) (state : r.state = .claiming) :
    s.firstClaim s.station i = s.claimWon r := by
  simp [State.firstClaim, found, Option.filter, state]

theorem firstClaim_unclaimed (free : ∀ r, s.findSet i = some r → r.state ≠ .claiming) :
    s.firstClaim s.station i = if s.standing i then s else s.lateClaim i := by
  have none : (s.findSet i).filter (fun r => r.state == .claiming) = none := by
    cases found : s.findSet i with
    | none => rfl
    | some r => rw [Option.filter_some_neg (by simp [free r found])]
  unfold State.firstClaim
  rw [none]
  simp only [if_true]

/-- R78: the record of a claim just won. -/
def SetRecord.won (r : SetRecord) : SetRecord := { r.toState .collecting with deadline := false }

/-- R78: the claim is won, before the completion test. -/
def State.claimKept (s : State) (r : SetRecord) : State := (s.putSet r.won).withdrawClaim r.id

theorem claimKept_findSet (found : s.findSet i = some r) : (s.claimKept r).findSet i = some r.won := by
  obtain rfl := findSet_id found
  rw [State.claimKept, findSet_of_co (withdrawClaim_co _ _)]
  exact findSet_putSet_same (r := r.won) found

theorem claimWon_eq (found : s.findSet i = some r) : s.claimWon r =
    if r.map.all (· == .placed) = true then (s.claimKept r).completeSet r.won false else s.claimKept r := by
  have kept := claimKept_findSet found
  obtain rfl := findSet_id found
  have test : s.claimWon r = (s.claimKept r).completionTest r.id := rfl
  rw [test, State.completionTest, kept]
  rfl

theorem completeSet_setsBut (s : State) (r : SetRecord) (x : Bool) : s.setsBut [r.id] (s.completeSet r x) :=
  (putSet_setsBut s (r := r.completed x) rfl).trans (setsBut_of_co (queueCarriage_co _ _))

theorem completeSet_bins (s : State) (r : SetRecord) (x : Bool) : (s.completeSet r x).co.bins = s.co.bins := by
  rw [State.completeSet, queueCarriage_co, putSet_bins]

/-- R49, R78: a claim won moves the record on and leaves the bins, the foreign entries and the other records alone. -/
theorem claimWon_record (found : s.findSet i = some r) :
    (∃ q, (s.claimWon r).findSet i = some q ∧ q.state = (if r.map.all (· == .placed) = true then .complete else .collecting)
      ∧ q.deadline = false ∧ q.map = r.map ∧ q.bin = r.bin)
    ∧ (s.claimWon r).cu.foreign = s.cu.foreign ∧ (s.claimWon r).co.bins = s.co.bins ∧ s.setsBut [i] (s.claimWon r) := by
  have kept := claimKept_findSet found
  have foreign : (s.claimKept r).cu.foreign = s.cu.foreign :=
    (withdrawClaim_retains _ _).foreign.trans (congrArg (·.foreign) (putSet_still s r.won).2.1)
  have bins : (s.claimKept r).co.bins = s.co.bins := by rw [State.claimKept, withdrawClaim_co, putSet_bins]
  obtain rfl := findSet_id found
  have others : s.setsBut [r.id] (s.claimKept r) :=
    (putSet_setsBut s (r := r.won) rfl).trans (setsBut_of_co (withdrawClaim_co _ _))
  rw [claimWon_eq found]
  split
  · refine ⟨⟨r.won.completed false, findSet_completeSet _ kept false, rfl, rfl, rfl, rfl⟩, ?_, ?_, ?_⟩
    · rw [(completeSet_frame _ _ _).cu (by decide), foreign]
    · rw [completeSet_bins, bins]
    · exact others.trans (completeSet_setsBut _ r.won false)
  · exact ⟨⟨r.won, kept, rfl, rfl, rfl, rfl⟩, foreign, bins, others⟩

/-- R82: the late claim counted, before its YIELD(LATE) is due. -/
def State.latelyClaimed (s : State) (i : SetId) : State :=
  { s with cu := { s.cu with late := s.cu.late ++ [{ id := i, queued := false }], lateClaims := count s.cu.lateClaims } }

theorem lateClaim_loud (loud : s.bs.state.silencedFault = false) : s.lateClaim i = (s.latelyClaimed i).dueYield i .late := by
  unfold State.lateClaim
  rw [loud]
  rfl

theorem unlate_of_not_standing (free : s.standing i = false) : ∀ e ∈ s.cu.late, e.id ≠ i := by
  intro e m same
  have late : s.cu.late.any (fun e => e.id == i) = true := List.any_eq_true.mpr ⟨e, m, beq_iff_eq.mpr same⟩
  simp [State.standing, late] at free

/-- R72: of the late claims the new one alone is marked. -/
theorem latelyClaimed_marked (free : s.standing i = false) :
    ((s.latelyClaimed i).cu.markQueued i).late = s.cu.late ++ [{ id := i, queued := true }] := by
  have others : s.cu.late.map (fun e : LateEntry => if e.id = i then { e with queued := true } else e) = s.cu.late := by
    refine (List.map_congr_left fun e m => if_neg (unlate_of_not_standing free e m)).trans (List.map_id _)
  have whole : ((s.latelyClaimed i).cu.markQueued i).late
      = (s.cu.late ++ [(⟨i, false⟩ : LateEntry)]).map (fun e : LateEntry => if e.id = i then { e with queued := true } else e) := rfl
  rw [whole, List.map_append, others]
  simp

theorem lateClaim_room (loud : s.bs.state.silencedFault = false) (free : s.standing i = false) (waiting : s.cu.waiting = [])
    (room : s.lc.urgent.length < 4) : s.lateClaim i =
      { s with cu := { s.cu with late := s.cu.late ++ [{ id := i, queued := true }], lateClaims := count s.cu.lateClaims },
               lc := { s.lc with urgent := s.lc.urgent ++ [TxEntry.fresh (.yield i .late)] } } := by
  have marked : (s.latelyClaimed i).cu.markQueued i
      = { s.cu with late := s.cu.late ++ [{ id := i, queued := true }], lateClaims := count s.cu.lateClaims } := by
    rw [← latelyClaimed_marked free]
    rfl
  rw [lateClaim_loud loud, dueYield_room _ _ (s := s.latelyClaimed i) waiting room, if_pos rfl, marked]
  rfl

theorem lateClaim_full (loud : s.bs.state.silencedFault = false) (full : 4 ≤ s.lc.urgent.length) : s.lateClaim i =
    { s with cu := { s.cu with
        late := s.cu.late ++ [{ id := i, queued := false }], lateClaims := count s.cu.lateClaims
        waiting := s.cu.waiting ++ [.yield i .late] } } := by
  rw [lateClaim_loud loud, dueYield_full _ _ (s := s.latelyClaimed i) full]
  rfl

/-- R80: a claim deadline expires. -/
theorem exec_claimDeadline (found : s.findSet i = some r) (state : r.state = .claiming) (running : r.deadline = true) :
    exec (.claimDeadlineExpiry i.job i.num) s = .next ((s.surrender i none).countClaimLost) := by
  obtain rfl := findSet_id found
  change Host.Outcome.next (match s.findSet r.id with | none => s | some r => _) = _
  rw [found]
  exact next_congr (if_pos ⟨state, running⟩)

end Sys2Proof.Machine

open Sys2Proof Sys2Proof.Machine in
/-- Settles O48: the first-claim rule after the steps of R149, which decide no set's standing, and the surrender of a CLAIMING
record. -/
theorem ownClaimHeard : Obligations.OwnClaimHeard := by
  have late {s : State} {f : Frame} (echo : s.hearsEcho .claim f)
      (free : ∀ r, s.findSet (f.setAt 0) = some r → r.state ≠ .claiming) (formed : claimFormed f) :
      exec (.claim f) s = .next (State.afterHeard s (if s.standing (f.setAt 0) then s.heardSteps NoticeKind.claim.code f
        else (s.heardSteps NoticeKind.claim.code f).lateClaim (f.setAt 0))) := by
    rw [exec_claim_echo echo formed, ← heardSteps_station s NoticeKind.claim.code f,
      firstClaim_unclaimed fun r found => free r (by rwa [findSet_heardSteps] at found), standing_heardSteps]
  refine ⟨fun s f r echo found state job num pages _ => ?_, fun s f echo free standing job num pages => ?_,
    fun s f echo free standing loud job num pages => ?_, fun s f echo free standing silenced job num pages => ?_, fun b => ?_,
    fun s i r _ found state running => ?_, fun s i stopped => ?_, fun s u f echo free standing loud job num pages heard waiting room => ?_,
    fun s u f echo free standing loud job num pages heard full => ?_⟩
  · have found' := (findSet_heardSteps s NoticeKind.claim.code f _).trans found
    obtain ⟨record, foreign, bins, others⟩ := claimWon_record found'
    refine ⟨_, ?_, record, foreign.trans (heardSteps_retains s _ f).foreign, bins.trans (by rw [heardSteps_co]),
      (setsBut_of_co (heardSteps_co s _ f)).trans others⟩
    rw [exec_claim_echo echo ⟨job, num, pages⟩, ← heardSteps_station s NoticeKind.claim.code f, firstClaim_own found' state]
  · rw [late echo free ⟨job, num, pages⟩, if_pos standing]
  · have loud' : (s.heardSteps NoticeKind.claim.code f).bs.state.silencedFault = false := by rw [heardSteps_bs]; exact loud
    have retains := heardSteps_retains s NoticeKind.claim.code f
    have due := dueYield_retains ((s.heardSteps NoticeKind.claim.code f).latelyClaimed (f.setAt 0)) (f.setAt 0) .late
    refine ⟨_, by rw [late echo free ⟨job, num, pages⟩, standing, if_neg Bool.false_ne_true, lateClaim_loud loud'], ?_,
      dueYield_due _ _ _, due.lateClaims.trans (congrArg count retains.lateClaims), due.foreign.trans retains.foreign,
      (dueYield_co _ _ _).trans (heardSteps_co s _ f)⟩
    have there : f.setAt 0 ∈ ((s.heardSteps NoticeKind.claim.code f).latelyClaimed (f.setAt 0)).cu.late.map (fun e => e.id) :=
      List.mem_map.mpr ⟨_, List.mem_append_right _ (List.mem_singleton_self _), rfl⟩
    rw [← due.late] at there
    exact List.mem_map.mp there
  · have silent : s.bs.state.silencedFault = true := by obtain e | e | e := silenced <;> rw [e] <;> rfl
    rw [late echo free ⟨job, num, pages⟩, standing, if_neg Bool.false_ne_true, State.lateClaim, heardSteps_bs, if_pos silent]
  · cases b with
    | fault x => cases x <;> simp [BayState.silencedFault]
    | _ => simp [BayState.silencedFault]
  · refine ⟨_, exec_claimDeadline found state running, surrender_givenUp s i none, congrArg count (surrender_none_claimLost found),
      surrender_none_surrenders found, fun lasting => surrender_none_foreign found fun rejoins => ?_,
      (surrender_courses s i none).others⟩
    rw [rejoins.1] at lasting
    cases lasting
  · change Host.Outcome.next (match s.findSet i with | none => s | some r => _) = _
    split
    · rfl
    · rename_i r found
      refine next_congr (if_neg fun ⟨state, running⟩ => ?_)
      obtain other | off := stopped r found
      · exact other state
      · rw [off] at running
        cases running
  · subst heard
    have free' : (s.heardSteps NoticeKind.claim.code f).standing (f.setAt 0) = false := (standing_heardSteps ..).trans standing
    rw [late echo free ⟨job, num, pages⟩, standing, if_neg Bool.false_ne_true,
      lateClaim_room (by rw [heardSteps_bs]; exact loud) free' waiting room, (heardSteps_retains s _ f).lateClaims]
  · subst heard
    rw [late echo free ⟨job, num, pages⟩, standing, if_neg Bool.false_ne_true,
      lateClaim_full (by rw [heardSteps_bs]; exact loud) full, (heardSteps_retains s _ f).lateClaims]
end

section
/-! ## The set actions (R50 to R52, R90, R92, R95, R113) -/

namespace Sys2Proof.Machine

variable {s t u : State} {i : SetId} {r v : SetRecord} {f : Frame}

/-! ### The steps of R149 for a SETACT -/

/-- R149: the spoil mark is cleared. -/
def State.unmarked (s : State) : State := { s with lc := { s.lc with spoilMark := false } }

/-- R150: an accepted SETACT comes from no station, so its hearing marks none present. -/
theorem heardSteps_setact (h : s.hears .setact f) : s.heardSteps NoticeKind.setact.code f = s.unmarked := by
  obtain ⟨_, _, other, ok⟩ := h
  have origin : ¬(1 ≤ f.origin.toNat ∧ f.origin.toNat ≤ 8 ∧ f.origin.toNat ≠ s.station) := by
    simp [acceptable, NoticeKind.originOk] at ok
    omega
  unfold State.heardSteps
  dsimp only
  rw [other, if_neg origin, if_neg Bool.false_ne_true]
  rfl

/-- R50, R52, R95, R113: a SETACT that names this station is acted on. -/
theorem hear_setact (h : s.hears .setact f) (station : setactStation f = s.station) (act : State → State) :
    s.hear .setact f (State.onSetact f act) = State.afterHeard s (act s.unmarked) := by
  rw [hear_of_hears h, heardSteps_setact h]
  exact congrArg (State.afterHeard s) (if_pos station)

theorem hear_setact_elsewhere (h : s.hears .setact f) (station : setactStation f ≠ s.station) (act : State → State) :
    s.hear .setact f (State.onSetact f act) = State.afterHeard s (s.heardSteps NoticeKind.setact.code f) := by
  rw [hear_of_hears h, heardSteps_setact h]
  exact congrArg (State.afterHeard s) (if_neg station)

theorem countRefused_unmarked (h : s.hears .setact f) : s.unmarked.countRefused =
    { s.heardSteps NoticeKind.setact.code f with co := { s.co with refused := count s.co.refused } } := by
  rw [heardSteps_setact h]
  rfl

/-! ### FINISH (R50, R52) -/

/-- R50: the record a FINISH makes FINISHING. -/
def SetRecord.closing (r : SetRecord) : SetRecord := { r.toState .finishing with isPartial := true }

theorem closing_findSet (found : s.findSet i = some r) : (s.putSet r.closing).findSet i = some r.closing := by
  obtain rfl := findSet_id found
  exact findSet_putSet_same (r := r.closing) found

theorem finishSet_eq (found : s.findSet i = some r) :
    s.finishSet r = ((s.putSet r.closing).releaseTest i).completionTest i := by
  have closing := closing_findSet found
  obtain rfl := findSet_id found
  change (s.putSet r.closing).afterChange r.id = _
  rw [State.afterChange, closing]
  rfl

/-- R47: a record stays with a page on its way through the release test. -/
theorem releaseTest_moving (found : s.findSet i = some r) (moving : r.anyPage PageStatus.moving = true) :
    ∃ v, (s.releaseTest i).findSet i = some v ∧ v.anyPage PageStatus.moving = true ∧ v.state = r.state
      ∧ v.isPartial = r.isPartial ∧ v.waiting = r.waiting := by
  obtain ⟨v, found', rfl | ⟨p, k, held, rfl⟩⟩ := findSet_releaseTest s found
  · exact ⟨v, found', moving, rfl, rfl, rfl⟩
  · have present : r.status p ≠ .absent := by rw [held]; nofun
    have length : (r.setStatus p (.releasing k)).map.length = r.map.length := length_set1 _ _ _
    refine ⟨_, found', anyPage_iff.mpr ⟨p, ?_, ?_⟩, rfl, rfl, rfl⟩
    · rw [length]
      exact mem_numbers.mpr (page_in_map present)
    · rw [status_setStatus_same _ present]
      rfl

/-- R47: there is nothing to release for a record with no page on its way. -/
theorem releaseTest_resting (found : s.findSet i = some r) (resting : r.anyPage PageStatus.moving = false) : s.releaseTest i = s := by
  obtain same | ⟨p, k, _, held, _⟩ := releaseTest_record s found
  · exact same
  · have present : r.status p ≠ .absent := by rw [held]; nofun
    have moving := anyPage_iff.mpr ⟨p, mem_numbers.mpr (page_in_map present), (by rw [held]; rfl : PageStatus.moving (r.status p) = true)⟩
    rw [resting] at moving
    cases moving

/-- R51: the completion test of a FINISHING record. -/
theorem completionTest_finishing (found : s.findSet i = some r) (state : r.state = .finishing) : s.completionTest i =
    if r.anyPage PageStatus.moving then s else if r.placedCount = 0 then s.surrender i (some .staff) else s.completeSet r true := by
  obtain rfl := findSet_id found
  rw [State.completionTest, found]
  dsimp only
  rw [state]

theorem finishSet_moving (found : s.findSet i = some r) (collecting : r.state = .collecting)
    (moving : r.anyPage PageStatus.moving = true) :
    ∃ q, (s.finishSet r).findSet i = some q ∧ q.state = .finishing ∧ q.isPartial = true ∧ q.waiting = .none := by
  obtain ⟨v, found', moving', state, part, waiting⟩ := releaseTest_moving (closing_findSet found) moving
  rw [finishSet_eq found, completionTest_finishing found' state, if_pos moving']
  exact ⟨v, found', state, part, waiting.trans (if_pos ⟨collecting, nofun⟩)⟩

/-- R51: a FINISH of a record with no page on its way completes it, or gives it up. -/
theorem finishSet_resting (found : s.findSet i = some r) (resting : r.anyPage PageStatus.moving = false) : s.finishSet r =
    if r.placedCount = 0 then (s.putSet r.closing).surrender i (some .staff) else (s.putSet r.closing).completeSet r.closing true := by
  have closing := closing_findSet found
  rw [finishSet_eq found, releaseTest_resting closing resting, completionTest_finishing closing rfl,
    show r.closing.anyPage PageStatus.moving = false from resting, if_neg Bool.false_ne_true]
  rfl

theorem finishSet_setsBut (found : s.findSet i = some r) : s.setsBut [i] (s.finishSet r) := by
  obtain rfl := findSet_id found
  exact (putSet_setsBut s (r := r.closing) rfl).trans (afterChange_courses _ _).others

theorem reclaimed_findSet (found : s.findSet i = some r) : (s.reclaimed r).findSet i = some r :=
  (findSet_of_co (withdrawCarriage_co s r.id true) i).trans found

/-- R90: no foreign entry of a set taken back stays. -/
theorem takeBack_foreign (c : ClaimUnit) (i : SetId) : ∀ e ∈ (c.takeBack i).foreign, e.id ≠ i := by
  unfold ClaimUnit.takeBack
  split
  · intro e m
    simpa using (List.mem_filter.mp m).2
  · rename_i none
    exact fun e m own => none (List.any_eq_true.mpr ⟨e, m, beq_iff_eq.mpr own⟩)

theorem recoverSet_foreign (s : State) (r : SetRecord) : ∀ e ∈ (s.recoverSet r).cu.foreign, e.id ≠ r.id := by
  rw [recoverSet_eq, (completeSet_frame _ _ _).cu (by decide)]
  exact takeBack_foreign _ r.id

theorem recoverSet_setsBut (s : State) (r : SetRecord) : s.setsBut [r.id] (s.recoverSet r) :=
  .trans (setsBut_of_co (withdrawCarriage_co s r.id true)) (completeSet_setsBut (s.reclaimed r) r true)

/-- R52: which records may still be finished. -/
theorem recoverable_iff : s.recoverable r = true ↔ r.state = .surrendering ∧ r.bin ≠ none ∧ .placed ∈ r.map
    ∧ (∀ x ∈ r.map, x = .absent ∨ x = .placed) ∧ ∀ c m, s.carriageInFlight ≠ some (.unload r.id c m) := by
  have bin : r.bin.isSome = true ↔ r.bin ≠ none := Option.isSome_iff_ne_none
  have placed : 1 ≤ r.placedCount ↔ .placed ∈ r.map := by
    rw [SetRecord.placedCount, SetRecord.count, Nat.succ_le_iff, List.length_filter_pos_iff]
    simp
  have resting : r.anyPage PageStatus.moving = false ↔ ∀ x ∈ r.map, x = .absent ∨ x = .placed := by
    rw [SetRecord.anyPage, List.any_eq_false]
    refine forall₂_congr fun x _ => ?_
    cases x <;> simp [PageStatus.moving]
  have started : s.unloadStarted r.id = false ↔ ∀ c m, s.carriageInFlight ≠ some (.unload r.id c m) := by
    unfold State.unloadStarted
    cases s.carriageInFlight with
    | none => simp
    | some q => cases q <;> simp [CarriageRequest.isUnload, CarriageRequest.id]
  simp only [State.recoverable, Bool.and_eq_true, Bool.not_eq_true', beq_iff_eq, decide_eq_true_iff, bin, placed, resting, started,
    and_assoc]

/-! ### RETRY (R113) -/

/-- R111: the record is written, with nothing told. -/
def State.rewritten (s : State) (r : SetRecord) : State :=
  { s with co := { s.co with sets := s.co.sets.map (fun q => if q.id = r.id then r else q) } }

theorem rewritten_findSet (found : s.findSet r.id = some v) : (s.rewritten r).findSet r.id = some r := by
  rw [findSet_of_co (show (s.rewritten r).co = (s.putSet r).co from (putSet_co found).symm)]
  exact findSet_putSet_same found

/-- R110, R111: with room in the routine queue the REPRINT is queued. -/
theorem offerReprint_room (d : s.distinct) (found : s.findSet r.id = some r) (room : s.lc.routine.length < 12) (kind : ReprintWait) :
    s.offerReprint r kind = { (s.pushRoutine (.reprint r.id r.reprintPages)).rewritten (r.reprinted kind) with
      pw := { s.pw with reprintsSent := count s.pw.reprintsSent } } := by
  have opened : s.routineRoom = true := decide_eq_true room
  have put : (s.pushRoutine (.reprint r.id r.reprintPages)).putSet (r.reprinted kind)
      = (s.pushRoutine (.reprint r.id r.reprintPages)).rewritten (r.reprinted kind) :=
    putSet_quiet (r := r.reprinted kind) d found rfl rfl
  unfold State.offerReprint
  rw [if_pos opened]
  dsimp only
  rw [put]
  rfl

/-- R110: with the routine queue full the REPRINT is deferred. -/
theorem offerReprint_full (d : s.distinct) (found : s.findSet r.id = some r) (full : 12 ≤ s.lc.routine.length) (kind : ReprintWait) :
    s.offerReprint r kind = { s.rewritten { r with waiting := kind } with pw := { s.pw with deferred := count s.pw.deferred } } := by
  have closed : ¬s.routineRoom = true := by
    rw [State.routineRoom, decide_eq_true_iff]
    exact Nat.not_lt.mpr full
  have put : s.putSet { r with waiting := kind } = s.rewritten { r with waiting := kind } :=
    putSet_quiet (r := { r with waiting := kind }) d found rfl rfl
  unfold State.offerReprint
  rw [if_neg closed]
  dsimp only
  rw [put]
  rfl

theorem addDue_unmarked (s : State) (k : DueKind) : s.unmarked.addDue k = (s.addDue k).unmarked := by
  unfold State.addDue
  rw [apply_ite State.unmarked]
  rfl

theorem wantState_unmarked (s : State) : s.unmarked.wantState = s.wantState.unmarked := by
  unfold State.wantState
  simp only [apply_ite State.unmarked, ← addDue_unmarked]
  rfl

/-- R152: a STATE wanted with the routine queue full is due. -/
theorem wantState_full (full : 12 ≤ s.lc.routine.length) : s.wantState.lc.routine = s.lc.routine := by
  have closed : ¬s.routineRoom = true := by
    rw [State.routineRoom, decide_eq_true_iff]
    exact Nat.not_lt.mpr full
  unfold State.wantState
  split
  · rfl
  · split
    · rfl
    · unfold State.addDue
      split <;> rfl

/-- R152: what a record written tells the link. -/
theorem putSet_linkTold (found : s.findSet v.id = some r) : s.linkTold (s.putSet v) := by
  unfold State.putSet
  rw [found]
  exact tell_linkTold rfl rfl

/-- R112: a record that is no longer STRANDED is one fewer. -/
theorem putSet_strandedCount (found : s.findSet v.id = some r) (was : r.countsStranded = true) (is : v.countsStranded = false) :
    (s.putSet v).strandedCount < s.strandedCount := by
  have counts : ∀ q : SetRecord, (if q.id = v.id then v else q).countsStranded = true → q.countsStranded = true := fun q h => by
    split at h
    · rw [is] at h
      cases h
    · exact h
  have count : (s.putSet v).strandedCount = (s.co.sets.filter (fun q => (if q.id = v.id then v else q).countsStranded)).length := by
    rw [State.strandedCount, putSet_co found]
    dsimp only
    rw [List.filter_map, List.length_map]
    rfl
  have fewer : (s.co.sets.filter (fun q => (if q.id = v.id then v else q).countsStranded)).Sublist
      (s.co.sets.filter SetRecord.countsStranded) := List.monotone_filter_right _ counts
  rw [count]
  refine Nat.lt_of_le_of_ne fewer.length_le fun same => ?_
  have there : r ∈ s.co.sets.filter SetRecord.countsStranded := List.mem_filter.mpr ⟨findSet_mem found, was⟩
  rw [← fewer.eq_of_length same] at there
  have stays := (List.mem_filter.mp there).2
  rw [if_pos (findSet_id found), is] at stays
  cases stays

/-- R113: the RETRY clears the watch, the attempts and STRANDED. -/
def State.retrying (s : State) (r : SetRecord) : State := s.putSet r.retried

theorem retrying_findSet (found : s.findSet i = some r) : (s.retrying r).findSet i = some r.retried := by
  obtain rfl := findSet_id found
  exact findSet_putSet_same (r := r.retried) found

theorem retrying_frame (found : s.findSet i = some r) : s.sameBut [.co, .lc] (s.retrying r) := by
  obtain rfl := findSet_id found
  exact State.sameBut.without_dc (sameBut_mono (putSet_frame s r.retried) (by decide)) (putSet_dc (r := r.retried) found rfl)

theorem retrying_quiet (d : s.distinct) (found : s.findSet i = some r) (unstranded : r.stranded = false) :
    (s.retrying r).lc = s.lc := by
  obtain rfl := findSet_id found
  refine putSet_lc (r := r.retried) d found ?_
  rw [SetRecord.countsStranded, SetRecord.countsStranded, unstranded]
  rfl

theorem retrying_told (found : s.findSet i = some r) (collecting : r.state = .collecting) (stranded : r.stranded = true) :
    (s.retrying r).lc = s.wantState.lc := by
  obtain rfl := findSet_id found
  have told : s.linkTold (s.retrying r) := putSet_linkTold (v := r.retried) found
  have fewer : (s.retrying r).strandedCount < s.strandedCount :=
    putSet_strandedCount (v := r.retried) found (by simp [SetRecord.countsStranded, collecting, stranded])
      (by simp [SetRecord.countsStranded, SetRecord.retried])
  refine told.trans (if_neg fun same => ?_)
  have count : s.strandedCount = (s.retrying r).strandedCount := congrArg (·.stranded) same
  omega

theorem retrying_full (d : s.distinct) (found : s.findSet i = some r) (collecting : r.state = .collecting)
    (full : 12 ≤ s.lc.routine.length) : (s.retrying r).lc.routine = s.lc.routine := by
  cases stranded : r.stranded with
  | false => rw [retrying_quiet d found stranded]
  | true => rw [retrying_told found collecting stranded, wantState_full full]

theorem retrying_distinct (d : s.distinct) (r : SetRecord) : (s.retrying r).distinct := putSet_distinct d _

theorem retry_eq (found : s.findSet i = some r) (collecting : r.state = .collecting) : s.retry i =
    if r.anyAbsent = true then (s.retrying r).offerReprint r.retried .retry
    else (s.retrying r).putSet { r.retried with waiting := .none } := by
  unfold State.retry
  rw [found]
  exact if_pos collecting

theorem retry_refused (other : ∀ r, s.findSet i = some r → r.state ≠ .collecting) : s.retry i = s.countRefused := by
  unfold State.retry
  split
  · rfl
  · exact if_neg (other _ ‹_›)

theorem retry_queued (d : s.distinct) (found : s.findSet i = some r) (collecting : r.state = .collecting) (absent : .absent ∈ r.map)
    (room : (s.retrying r).lc.routine.length < 12) :
    (s.retry i).findSet i = some (r.retried.reprinted .retry)
    ∧ (s.retry i).lc.routine = (s.retrying r).lc.routine ++ [TxEntry.fresh (.reprint r.id r.reprintPages)]
    ∧ (s.retry i).pw = { s.pw with reprintsSent := count s.pw.reprintsSent }
    ∧ s.setsBut [i] (s.retry i) ∧ s.sameBut [.co, .pw, .lc] (s.retry i) := by
  obtain rfl := findSet_id found
  have found' : (s.retrying r).findSet r.retried.id = some r.retried := retrying_findSet found
  have frame := retrying_frame found
  have others : s.setsBut [r.id] ((s.retrying r).offerReprint r.retried .retry) :=
    (putSet_setsBut s (r := r.retried) rfl).trans (offerReprint_setsBut _ _ _)
  rw [retry_eq found collecting, if_pos (anyAbsent_iff.mpr absent)]
  rw [offerReprint_room (retrying_distinct d r) found' room] at others ⊢
  refine ⟨?_, rfl, ?_, others, sameBut_trans (sameBut_mono frame (by decide)) (by simp [State.sameBut, State.rewritten])⟩
  · exact rewritten_findSet (s := (s.retrying r).pushRoutine _) (r := r.retried.reprinted .retry) found'
  · rw [frame.pw (by decide)]

theorem retry_deferred (d : s.distinct) (found : s.findSet i = some r) (collecting : r.state = .collecting) (absent : .absent ∈ r.map)
    (full : 12 ≤ (s.retrying r).lc.routine.length) :
    (s.retry i).findSet i = some { r.retried with waiting := .retry }
    ∧ (s.retry i).pw = { s.pw with deferred := count s.pw.deferred }
    ∧ (s.retry i).lc.routine = (s.retrying r).lc.routine ∧ s.sameBut [.co, .pw, .lc] (s.retry i) := by
  obtain rfl := findSet_id found
  have found' : (s.retrying r).findSet r.retried.id = some r.retried := retrying_findSet found
  have frame := retrying_frame found
  rw [retry_eq found collecting, if_pos (anyAbsent_iff.mpr absent), offerReprint_full (retrying_distinct d r) found' full]
  refine ⟨rewritten_findSet (r := { r.retried with waiting := .retry }) found', ?_, rfl,
    sameBut_trans (sameBut_mono frame (by decide)) (by simp [State.sameBut, State.rewritten])⟩
  rw [frame.pw (by decide)]

theorem retry_unneeded (d : s.distinct) (found : s.findSet i = some r) (collecting : r.state = .collecting) (present : .absent ∉ r.map) :
    (s.retry i).findSet i = some { r.retried with waiting := .none } ∧ s.sameBut [.co, .lc] (s.retry i) := by
  obtain rfl := findSet_id found
  have found' : (s.retrying r).findSet r.id = some r.retried := retrying_findSet found
  have put : (s.retrying r).putSet { r.retried with waiting := .none } = (s.retrying r).rewritten { r.retried with waiting := .none } :=
    putSet_quiet (r := { r.retried with waiting := .none }) (retrying_distinct d r) found' rfl rfl
  rw [retry_eq found collecting, if_neg (mt anyAbsent_iff.mp present), put]
  exact ⟨rewritten_findSet (r := { r.retried with waiting := .none }) found',
    sameBut_trans (retrying_frame found) (by simp [State.sameBut, State.rewritten])⟩

end Sys2Proof.Machine

open Sys2Proof Sys2Proof.Machine in
/-- Settles O55: the action on the record's state after the steps of R149, which for a SETACT clear the spoil mark alone. -/
theorem setactsTaken : Obligations.SetactsTaken := by
  refine ⟨fun s f r hears station bay found state _ => ?_, fun s f r hears station bay found may _ => ?_,
    fun s f hears station refused => ?_, fun s f r hears station found state _ => ?_, fun s f hears station refused => ?_,
    fun s f r hears station found state unstranded absent room sound => ?_,
    fun s f r hears station found state stranded absent room sound => ?_,
    fun s f r hears station found state stranded absent _ full sound => ?_,
    fun s f r hears station found state absent full sound => ?_, fun s f r hears station found state present sound => ?_,
    fun s f hears station refused => ?_, fun s f hears station c m => ?_, fun s r => recoverable_iff,
    fun s f hears station => ?_⟩
  · have finish : s.unmarked.finish (f.setAt 0) = s.unmarked.finishSet r := by
      rw [State.finish, show s.unmarked.findSet (f.setAt 0) = some r from found]
      exact if_pos ⟨bay, state⟩
    have found' : s.unmarked.findSet (f.setAt 0) = some r := found
    have closing := closing_findSet found'
    refine ⟨_, (next_congr (hear_setact hears station _)).trans (by rw [finish]), finishSet_moving found' state,
      fun resting some => ?_, fun resting none => ?_, finishSet_setsBut found'⟩
    · rw [finishSet_resting found' resting, if_neg (Nat.ne_of_gt some)]
      exact ⟨_, findSet_completeSet _ closing true, rfl, rfl, rfl⟩
    · rw [finishSet_resting found' resting, if_pos none]
      exact surrender_givenUp _ _ _
  · have finish : s.unmarked.finish (f.setAt 0) = s.unmarked.recoverSet r := by
      rw [State.finish, show s.unmarked.findSet (f.setAt 0) = some r from found]
      refine (if_neg fun ⟨other, _⟩ => ?_).trans (if_pos ⟨bay, may⟩)
      have service : s.unmarked.bs.state = .service := bay
      rw [service] at other
      obtain e | e := other <;> cases e
    have own := findSet_id found
    refine ⟨s.unmarked.recoverSet r, (next_congr (hear_setact hears station _)).trans (by rw [finish]),
      ⟨r.completed true, findSet_completeSet _ (reclaimed_findSet (s := s.unmarked) found) true, rfl, rfl, rfl⟩, ?_, ?_⟩
    · exact own ▸ recoverSet_foreign s.unmarked r
    · exact own ▸ recoverSet_setsBut s.unmarked r
  · have finish : s.unmarked.finish (f.setAt 0) = s.unmarked.countRefused := by
      unfold State.finish
      split
      · rfl
      · obtain ⟨fill, recover⟩ := refused _ ‹_›
        exact (if_neg fill).trans (if_neg recover)
    refine next_congr ((hear_setact hears station _).trans ?_)
    rw [finish, countRefused_unmarked hears]
  · have may : s.unmarked.surrenderable r = true := by
      obtain e | e | e | ⟨e, flight⟩ := state
      · simp only [State.surrenderable, e]
      · simp only [State.surrenderable, e]
      · simp only [State.surrenderable, e]
      · simp only [State.surrenderable, e]
        rw [Bool.not_eq_true']
        exact flight
    have found' : s.unmarked.findSet (f.setAt 0) = some r := found
    have yields : s.unmarked.staffYield (f.setAt 0) = s.unmarked.surrender (f.setAt 0) (some .staff) := by
      rw [State.staffYield, found']
      exact if_pos may
    refine ⟨_, (next_congr (hear_setact hears station _)).trans (by rw [yields]), surrender_givenUp _ _ _,
      surrender_surrenders found' _, (surrender_courses s.unmarked _ _).others, fun waiting room claimed => ?_⟩
    exact surrender_urgent found' claimed waiting room
  · have yields : s.unmarked.staffYield (f.setAt 0) = s.unmarked.countRefused := by
      unfold State.staffYield
      split
      · rfl
      · rename_i r found
        have own := findSet_id found
        have not : s.unmarked.surrenderable r = false := by
          obtain e | e | e | ⟨e, flight⟩ := refused r found
          · simp only [State.surrenderable, e]
          · simp only [State.surrenderable, e]
          · simp only [State.surrenderable, e]
          · simp only [State.surrenderable, e]
            rw [Bool.not_eq_false']
            exact flight
        rw [not]
        rfl
    refine next_congr ((hear_setact hears station _).trans ?_)
    rw [yields, countRefused_unmarked hears]
  · have d : s.unmarked.distinct := distinct_of_sound sound
    have found' : s.unmarked.findSet (f.setAt 0) = some r := found
    have lc := retrying_quiet d found' unstranded
    obtain ⟨record, routine, pw, _, frame⟩ := retry_queued d found' state absent (by rw [lc]; exact room)
    have same : r.retried.reprinted .retry
        = { r with watch := 0, attempts := 0, countdown := r.policy.interval, waiting := .none } := by
      cases r
      cases unstranded
      rfl
    rw [same] at record
    rw [lc] at routine
    exact ⟨_, next_congr (hear_setact hears station _), record, routine, pw,
      sameBut_trans (t := s.unmarked) (by simp [State.sameBut, State.unmarked]) frame⟩
  · have found' : s.unmarked.findSet (f.setAt 0) = some r := found
    have lc : (s.unmarked.retrying r).lc.routine = s.wantState.lc.routine := by
      rw [retrying_told found' state stranded, wantState_unmarked]
      rfl
    obtain ⟨record, routine, pw, others, frame⟩ :=
      retry_queued (distinct_of_sound (s := s.unmarked) sound) found' state absent (by rw [lc]; exact room)
    rw [lc] at routine
    exact ⟨_, next_congr (hear_setact hears station _), record, routine, pw, others,
      sameBut_trans (t := s.unmarked) (by simp [State.sameBut, State.unmarked]) frame⟩
  · have found' : s.unmarked.findSet (f.setAt 0) = some r := found
    have lc : (s.unmarked.retrying r).lc.routine = s.wantState.lc.routine := by
      rw [retrying_told found' state stranded, wantState_unmarked]
      rfl
    obtain ⟨record, pw, routine, frame⟩ :=
      retry_deferred (distinct_of_sound (s := s.unmarked) sound) found' state absent (by rw [lc]; exact full)
    rw [lc] at routine
    exact ⟨_, next_congr (hear_setact hears station _), record, pw, routine,
      sameBut_trans (t := s.unmarked) (by simp [State.sameBut, State.unmarked]) frame⟩
  · have d : s.unmarked.distinct := distinct_of_sound sound
    have found' : s.unmarked.findSet (f.setAt 0) = some r := found
    have lc : (s.unmarked.retrying r).lc.routine = s.lc.routine := retrying_full d found' state full
    obtain ⟨record, pw, routine, frame⟩ := retry_deferred d found' state absent (by rw [lc]; exact full)
    rw [lc] at routine
    exact ⟨_, next_congr (hear_setact hears station _), record, pw, routine,
      sameBut_trans (t := s.unmarked) (by simp [State.sameBut, State.unmarked]) frame⟩
  · obtain ⟨record, frame⟩ := retry_unneeded (distinct_of_sound (s := s.unmarked) sound) found state present
    exact ⟨_, next_congr (hear_setact hears station _), record, frame.pw (by decide),
      sameBut_trans (t := s.unmarked) (by simp [State.sameBut, State.unmarked]) frame⟩
  · refine next_congr ((hear_setact hears station _).trans ?_)
    rw [retry_refused (s := s.unmarked) refused, countRefused_unmarked hears]
  · simp only [List.mem_cons, List.not_mem_nil, or_false] at m
    obtain rfl | rfl | rfl | rfl := m
    all_goals exact next_congr (hear_setact_elsewhere hears station _)
  · refine next_congr ((hear_setact hears station _).trans ?_)
    rw [heardSteps_setact hears]
    rfl
end

section
/-! ## A sheet of a set this bay holds (R30, R31, R37 to R42, R55, R107) -/

namespace Sys2Proof.Machine

variable {s t : State} {m : Mark} {n c k p : Nat} {j : JobRecord} {r v : SetRecord} {a : Action}

/-! ### The choice of R37 to R42 -/

theorem chooseMarked_held (open' : s.passesMarked = false) (job : s.findJob m.id.job = some j) (undone : m.id.num ∉ j.doneMap)
    (found : s.findSet m.id = some r) : s.chooseMarked m = s.route r m := by
  have undone' : ¬j.doneMap.contains m.id.num = true := fun c => undone (List.contains_iff_mem.mp c)
  simp only [State.chooseMarked, open', Bool.false_eq_true, if_false, job, if_neg undone', found]

theorem route_open (state : r.state = .claiming ∨ r.state = .collecting) : s.route r m = s.routeOpen r m := by
  obtain e | e := state <;> simp only [State.route, e]

theorem route_passed (state : r.state = .finishing ∨ r.state = .surrendering) : s.route r m = s.choose .pass := by
  obtain e | e := state <;> simp only [State.route, e]

theorem route_after (state : r.state = .complete ∨ r.state = .inJaw ∨ r.state = .delivering) : s.route r m =
    if m.pages ≠ r.pages then s.countMismatch.choose s.rejectOrPass
    else if r.status m.page = .absent then s.countLate.choose s.rejectOrPass
    else s.countDuplicate.choose s.rejectOrPass := by
  obtain e | e | e := state <;> simp only [State.route, e]

theorem routeOpen_mismatch (other : m.pages ≠ r.pages) : s.routeOpen r m = s.countMismatch.choose s.rejectOrPass := if_pos other

theorem routeOpen_duplicate (pages : m.pages = r.pages) (present : r.status m.page ≠ .absent) :
    s.routeOpen r m = s.countDuplicate.choose s.rejectOrPass :=
  (if_neg (not_not.mpr pages)).trans (if_pos present)

theorem routeOpen_faulted (pages : m.pages = r.pages) (absent : r.status m.page = .absent) (faulted : s.gc.gate = .faulted) :
    s.routeOpen r m = s.choose .pass :=
  (if_neg (not_not.mpr pages)).trans ((if_neg (not_not.mpr absent)).trans (if_pos faulted))

/-- R40: the sheet goes direct to the bin. -/
theorem routeOpen_direct (pages : m.pages = r.pages) (absent : r.status m.page = .absent) (gate : s.gc.gate ≠ .faulted)
    (bin : r.bin = some c) (direct : r.direct m.page = true) : s.routeOpen r m =
      ⟨s.setPage r.id m.page .inboundBin, .bin c, some { id := r.id, page := m.page, record := r.record }⟩ := by
  unfold State.routeOpen
  rw [if_neg (not_not.mpr pages), if_neg (not_not.mpr absent), if_neg gate, bin, direct]

/-- R41: the sheet that does not go direct is admitted to the rack. -/
theorem routeOpen_rack (pages : m.pages = r.pages) (absent : r.status m.page = .absent) (gate : s.gc.gate ≠ .faulted)
    (indirect : r.bin = none ∨ r.direct m.page = false) (free : s.lowestFree = some k) (admits : s.rackAdmits r m.page = true) :
    s.routeOpen r m = ⟨(s.reserve k r.id m.page).setPage r.id m.page (.inboundRack k), .rack k,
      some { id := r.id, page := m.page, record := r.record }⟩ := by
  unfold State.routeOpen
  rw [if_neg (not_not.mpr pages), if_neg (not_not.mpr absent), if_neg gate, free, admits]
  obtain bin | direct := indirect
  · rw [bin]
  · rw [direct]
    cases r.bin <;> rfl

/-- R42: the sheet that the rack does not admit is passed. -/
theorem routeOpen_full (pages : m.pages = r.pages) (absent : r.status m.page = .absent) (gate : s.gc.gate ≠ .faulted)
    (indirect : r.bin = none ∨ r.direct m.page = false) (full : s.rackAdmits r m.page = false ∨ s.lowestFree = none) :
    s.routeOpen r m = s.countRackFull.choose .pass := by
  unfold State.routeOpen
  rw [if_neg (not_not.mpr pages), if_neg (not_not.mpr absent), if_neg gate]
  obtain bin | direct := indirect
  all_goals obtain refused | none := full
  · rw [bin, refused]
    cases s.lowestFree <;> rfl
  · rw [bin, none]
  · rw [direct, refused]
    cases r.bin <;> cases s.lowestFree <;> rfl
  · rw [direct, none]
    cases r.bin <;> rfl

/-! ### The read -/

/-- A marked read of a set with a record, from the choice of its action. -/
theorem exec_marks_own {d : Chosen} (h : s.marks n m) (choice : s.chooseMarked m = d) (gc : d.state.gc = s.gc)
    (distinct : d.state.distinct) (found : d.state.findSet m.id = some v) (b : Bool) :
    ∃ t, exec (.readerSample false b) s = .next t
      ∧ t.gc = { s.gc with queue := s.gc.queue ++ [{ carrier := n, action := d.action, target := d.target }] }
      ∧ t.findSet m.id = some { v with watch := 0 }
      ∧ t.co = { d.state.co with sets := t.co.sets }
      ∧ d.state.setsBut [m.id] t
      ∧ d.state.sameBut [.ri, .gc, .co] t := by
  obtain ⟨x, read⟩ := exec_marks_chosen h choice gc b
  have quiet := sighting_quiet distinct m.id
  refine ⟨_, read, rfl, ?_, congrArg State.co quiet, sighting_setsBut d.state m.id, ?_⟩
  · exact (findSet_sighting d.state m.id).trans (by rw [found]; rfl)
  · rw [quiet]
    simp [State.sameBut, State.withFront]

/-- A marked read that counts the sheet at most. -/
theorem exec_marks_tallied {x : Collation} (h : s.marks n m) (sound : s.setTableSound) (found : s.findSet m.id = some r)
    (sets : x.sets = s.co.sets) (choice : s.chooseMarked m = ({ s with co := x } : State).choose a) (b : Bool) :
    ∃ t, exec (.readerSample false b) s = .next t
      ∧ t.gc = { s.gc with queue := s.gc.queue ++ [Entry.bare n a] }
      ∧ t.findSet m.id = some { r with watch := 0 }
      ∧ t.co = { x with sets := t.co.sets }
      ∧ s.setsBut [m.id] t
      ∧ s.sameBut [.ri, .gc, .co] t := by
  have same (i : SetId) : ({ s with co := x } : State).findSet i = s.findSet i := by simp only [State.findSet, sets]
  have distinct : ({ s with co := x } : State).distinct := by
    rw [State.distinct, sets]
    exact distinct_of_sound sound
  obtain ⟨t, read, gc, record, co, others, frame⟩ := exec_marks_own h choice rfl distinct ((same m.id).trans found) b
  exact ⟨t, read, gc, record, co, fun i other => (others i other).trans (same i),
    sameBut_trans (t := { s with co := x }) (by simp [State.sameBut]) frame⟩

/-! ### The routed page -/

theorem load_setStatus (r : SetRecord) (p : Nat) (x : PageStatus) (whole : r.isPartial = false) :
    (r.setStatus p x).load = r.load := by
  unfold SetRecord.load SetRecord.cost
  rw [show (r.setStatus p x).isPartial = false from whole, whole]
  rfl

/-- R38, R139: a page routed changes the page map alone, but for the load of a PARTIAL set. -/
theorem setPage_routed (d : s.distinct) (found : s.findSet r.id = some r) (p : Nat) (x : PageStatus) :
    (s.setPage r.id p x).co = { s.co with sets := (s.setPage r.id p x).co.sets }
      ∧ (r.isPartial = false → (s.setPage r.id p x).dc = s.dc) ∧ s.sameBut [.co, .dc] (s.setPage r.id p x) := by
  have put : s.setPage r.id p x = s.putSet (r.setStatus p x) := by simp only [State.setPage, State.updSet, found]
  have written := putSet_eq (r := r.setStatus p x) d found rfl
  rw [put]
  refine ⟨by rw [written], fun whole => putSet_dc (r := r.setStatus p x) found (load_setStatus r p x whole), ?_⟩
  rw [written]
  simp [State.sameBut]

/-- A marked read that routes the sheet to the bin or to the rack. -/
theorem exec_marks_routed {h' : Rack} {x : PageStatus} {g : Option PageRef} (h : s.marks n m) (sound : s.setTableSound)
    (found : s.findSet m.id = some r)
    (choice : s.chooseMarked m = ⟨({ s with hr := h' } : State).setPage r.id m.page x, a, g⟩) (b : Bool) :
    ∃ t, exec (.readerSample false b) s = .next t
      ∧ t.gc = { s.gc with queue := s.gc.queue ++ [{ carrier := n, action := a, target := g }] }
      ∧ t.findSet m.id = some { r.setStatus m.page x with watch := 0 }
      ∧ t.hr = h'
      ∧ t.co = { s.co with sets := t.co.sets }
      ∧ s.setsBut [m.id] t
      ∧ (r.isPartial = false → t.dc = s.dc)
      ∧ ({ s with hr := h' } : State).sameBut [.ri, .gc, .co, .dc] t := by
  have d : ({ s with hr := h' } : State).distinct := distinct_of_sound sound
  have found' : ({ s with hr := h' } : State).findSet m.id = some r := found
  have own := findSet_id found
  obtain ⟨co, dc, frame⟩ := setPage_routed d (own ▸ found') m.page x
  have paged : (({ s with hr := h' } : State).setPage r.id m.page x).findSet m.id = some (r.setStatus m.page x) := by
    rw [own]
    exact findSet_setPage_same m.page x found'
  obtain ⟨t, read, gc, record, co', others, frame'⟩ :=
    exec_marks_own h choice (frame.gc (by decide)) (setPage_distinct d _ _ _) paged b
  refine ⟨t, read, gc, record, (frame'.hr (by decide)).trans (frame.hr (by decide)), ?_, ?_, fun whole => ?_, ?_⟩
  · rw [co', co]
  · exact State.setsBut.trans (t := ({ s with hr := h' } : State).setPage r.id m.page x)
      (own ▸ setPage_setsBut { s with hr := h' } r.id m.page x) others
  · exact (frame'.dc (by decide)).trans (dc whole)
  · exact sameBut_trans (sameBut_mono frame (by decide)) (sameBut_mono frame' (by decide))

/-! ### The tests of R40 and R41, and the orders of R31 and R55 -/

theorem direct_iff (r : SetRecord) (p : Nat) :
    r.direct p = true ↔ r.frontier = some p ∧ ∀ x ∈ r.map, x = .absent ∨ x = .placed := by
  have still (x : PageStatus) : (x.inShare = false ∧ x.inboundBinP = false) ↔ (x = .absent ∨ x = .placed) := by
    cases x <;> simp [PageStatus.inShare, PageStatus.inboundBinP]
  simp only [SetRecord.direct, SetRecord.anyPage, Bool.and_eq_true, Bool.not_eq_true', beq_iff_eq, List.any_eq_false,
    Bool.not_eq_true, and_assoc, ← still, forall_and]

theorem rackAdmits_iff (s : State) (r : SetRecord) (p : Nat) : s.rackAdmits r p = true ↔ s.hr.rack ≠ .outOfService
    ∧ 1 ≤ (s.hr.pockets.filter (fun x => x = .free)).length
    ∧ s.hr.inletReserved + s.hr.inlet.length < 2
    ∧ s.hr.inletOccupied = false
    ∧ (r.map.filter PageStatus.inShare).length + 1 ≤ s.rackFitted / 2
    ∧ (∀ q, r.frontier = some q → q ≠ p → r.status q = .absent → (r.map.filter PageStatus.inShare).length + 1 ≤
      s.rackFitted / 2 - 1 ∧ 2 ≤ (s.hr.pockets.filter (fun x => x = .free)).length) := by
  have free : s.freeRackPockets = (s.hr.pockets.filter (fun x => x = .free)).length := rfl
  unfold State.rackAdmits
  cases r.frontier with
  | none => simp [State.rackInService, State.inletPlaceFree, SetRecord.share, SetRecord.count, Config.inletMax, free, and_assoc]
  | some q =>
    simp only [Bool.and_eq_true, Bool.or_eq_true, decide_eq_true_iff, State.inletPlaceFree, State.rackInService, Bool.not_eq_true',
      bne_iff_ne, and_assoc, Option.some.injEq, forall_eq', Bool.and_eq_false_iff, bne_eq_false_iff_eq, beq_eq_false_iff_ne]
    simp only [free, SetRecord.share, SetRecord.count, Config.inletMax]
    tauto

theorem frontier_iff (r : SetRecord) (p : Nat) :
    r.frontier = some p ↔ ∃ l k, r.wanted = l ++ p :: k ∧ r.status p ≠ .placed ∧ ∀ q ∈ l, r.status q = .placed := by
  rw [SetRecord.frontier, List.find?_eq_some_iff_append]
  simp only [bne_iff_ne, Bool.not_eq_true', bne_eq_false_iff_eq]
  constructor
  · rintro ⟨last, l, k, order, placed⟩
    exact ⟨l, k, order, last, placed⟩
  · rintro ⟨l, k, order, last, placed⟩
    exact ⟨last, l, k, order, placed⟩

theorem wanted_eq (r : SetRecord) : r.wanted = if r.order = .forward then numbers r.pages else (numbers r.pages).reverse := by
  unfold SetRecord.wanted
  cases r.order with
  | forward => rfl
  | reverse =>
    refine List.ext_getElem (by simp [numbers]) fun i inside _ => ?_
    simp [numbers] at inside ⊢
    omega

theorem lowestFree_eq (free : nth1 s.hr.pockets k = some .free) (lower : ∀ q < k, nth1 s.hr.pockets q ≠ some .free) :
    s.lowestFree = some k := by
  obtain ⟨low, high⟩ := mem_numbers_of_nth1 free
  exact find?_numbers low high (beq_iff_eq.mpr free) fun q _ below => beq_false_of_ne (lower q below)

end Sys2Proof.Machine

open Sys2Proof Sys2Proof.Machine in
/-- Settles O22: the choice of R37 to R42 by the record's state and the tests in their order, each read by `exec_marks_tallied`
or `exec_marks_routed`. -/
theorem ownedSheetRouted : Obligations.OwnedSheetRouted := by
  refine ⟨fun s n m j r b marks open' job undone found state other sound => ?_,
    fun s n m j r b marks open' job undone found state pages present sound => ?_,
    fun s n m j r b c marks open' job undone found state pages absent bin direct gate sound => ?_,
    fun s n m j r b k marks open' job undone found state pages absent indirect admits free gate sound => ?_,
    fun s n m j r b marks open' job undone found state pages absent indirect full gate sound => ?_,
    fun s n m j r b marks open' job undone found state pages absent faulted sound => ?_,
    fun s n m j r b marks open' job undone found state sound => ?_,
    fun s n m j r b marks open' job undone found state other sound => ?_,
    fun s n m j r b marks open' job undone found state pages absent sound => ?_,
    fun s n m j r b marks open' job undone found state pages present sound => ?_,
    direct_iff, rackAdmits_iff, fun r p => ⟨frontier_iff r p, wanted_eq r⟩, fun s k => lowestFree_eq⟩
  all_goals have held := chooseMarked_held open' job undone found
  · rw [route_open state, routeOpen_mismatch other] at held
    exact exec_marks_tallied (x := s.countMismatch.co) marks sound found rfl held b
  · rw [route_open state, routeOpen_duplicate pages present] at held
    exact exec_marks_tallied (x := s.countDuplicate.co) marks sound found rfl held b
  · rw [route_open state, routeOpen_direct pages absent gate bin direct] at held
    obtain ⟨t, read, gc, record, _, co, others, dc, frame⟩ := exec_marks_routed (h' := s.hr) marks sound found held b
    exact ⟨t, read, gc, record, co, others, dc, frame⟩
  · rw [route_open state, routeOpen_rack pages absent gate indirect free admits] at held
    obtain ⟨t, read, gc, record, hr, co, others, dc, frame⟩ :=
      exec_marks_routed (h' := (s.reserve k r.id m.page).hr) marks sound found held b
    exact ⟨t, read, gc, record, hr, co, others, dc,
      sameBut_trans (t := s.reserve k r.id m.page) (by simp [State.sameBut, State.reserve]) (sameBut_mono frame (by decide))⟩
  · rw [route_open state, routeOpen_full pages absent gate indirect full] at held
    exact exec_marks_tallied (x := s.countRackFull.co) marks sound found rfl held b
  · rw [route_open state, routeOpen_faulted pages absent faulted] at held
    exact exec_marks_tallied (x := s.co) marks sound found rfl held b
  · rw [route_passed state] at held
    exact exec_marks_tallied (x := s.co) marks sound found rfl held b
  · rw [route_after state, if_pos other] at held
    exact exec_marks_tallied (x := s.countMismatch.co) marks sound found rfl held b
  · rw [route_after state, if_neg (not_not.mpr pages), if_pos absent] at held
    have read := exec_marks_held (g := { s.gc with late := count s.gc.late }) marks sound rfl held b
    rwa [found] at read
  · rw [route_after state, if_neg (not_not.mpr pages), if_neg present] at held
    exact exec_marks_tallied (x := s.countDuplicate.co) marks sound found rfl held b
end
